-- ==== Sys2Proof/Word.lean ====
section
/-! DEFINITION. The word types of the Lulos OPG-LU16 model and their plainest arithmetic
(00_scope.md R7, 17_register_map.md R439). -/

namespace Sys2Proof

/-- A 32-bit register (R439). -/
abbrev Word := BitVec 32

/-- One byte. -/
abbrev Byte := BitVec 8

/-- A 16-bit cell of a queue (R39). -/
abbrev CellW := BitVec 16

/-- A port number, 0 to 15 (R4). -/
abbrev PortId := Fin 16

/-- A region number, 0 to 3 (R14). -/
abbrev RegionId := Fin 4

/-- An attention source number, 0 to 159 (R303). -/
abbrev SrcId := Fin 160

/-- A bit as a number. -/
def bitNat (b : Bool) : Nat := if b then 1 else 0

end Sys2Proof
end

