-- ==== Sys2Proof/Syntax.lean ====
section
/-! DEFINITION. The commands of the block: one constructor of `Instr` per row of spec/opcode_table.json, with the
row's operands, and the plain types those operands are made of. What the environment measures or decides at a
step (a decided character, a line check's readings, the pairs that trained) is an operand of that step (log 5). -/

namespace Sys2Proof

/-- The two line units of a port (R11). -/
inductive PairId where
  | a | b
deriving DecidableEq, Repr

/-- The direction of a queue: receive (0) or transmit (1) (R182). -/
inductive Dir where
  | rx | tx
deriving DecidableEq, Repr

/-- The TAG of a request and its origin (R255, R257). -/
structure Req where
  tag : BitVec 8
  sec : Bool
  proc : BitVec 2
deriving DecidableEq, Repr

/-- What the receive shifter holds when an event cuts it short (R87, R113, R336; log 10): nothing, an unvalidated
candidate start, a character with the `n` data bits sampled so far in the low bits of `bits`, or a break of `len`
bit times so far. -/
inductive Mid where
  | idle
  | candidate
  | char (bits : BitVec 9) (n : Nat)
  | brk (len : Nat)
deriving DecidableEq, Repr

/-- A port, and what its receive shifter holds at the moment of the command (R90, R93, R99; log 10). -/
structure AtPort where
  port : PortId
  mid : Mid
deriving DecidableEq, Repr

/-- A reading of one of the seven thermal sensors, in °C (R22). -/
structure SensorReading where
  sensor : Fin 7
  temp : Byte
deriving DecidableEq, Repr

/-- A tie group's line start, and what its members' shifters hold then, in the order of the scheduled ports (R174). -/
structure LineStart where
  group : Fin 4
  mids : List Mid
deriving DecidableEq, Repr

/-- A physical pair, and the code errors it has shown since they were last counted (R226, Table 8.20). -/
structure LaneErrs where
  pair : Fin 4
  errs : BitVec 8
deriving DecidableEq, Repr

/-- A MARK missing on a physical pair; `next`: no good MARK has come there since the last one missing (R225, R226). -/
structure MissedMark where
  pair : Fin 4
  next : Bool
deriving DecidableEq, Repr

/-- What a dropped lane's test shows (R226): whether it locks and meets its eye target, and what it reads as TRK_LANE*k*. -/
structure LaneResult where
  locked : Bool
  lane : Word
deriving DecidableEq, Repr

/-- A pair's drive as sensed: none below 200 mV, else its sign (Table 3.3 step 2). -/
inductive Drive where
  | undriven | pos | neg
deriving DecidableEq, Repr

/-- What a line check or quick sense reads on one pair (Table 3.3): a wire at a foreign voltage, a wire at 0 V, the
drive, the loop resistance in units of 0.5 ohm, and the sign and strength (below 15 mV: weak) of the bias. -/
structure PairSense where
  foreign : Bool
  ground : Bool
  drive : Drive
  loopHalfOhm : Nat
  biasNeg : Bool
  biasWeak : Bool
deriving DecidableEq, Repr

/-- What the line shows of a character at its first stop-bit decision (R98 to R102): the sixteen port samples of each bit
from the start bit to the first stop bit, sample `s` in bit `s`. -/
structure RxChar where
  samples : List (BitVec 16)
deriving DecidableEq, Repr

/-- One escape entry of a data block (Table 8.7). -/
structure EscEntry where
  two : Bool
  slot : BitVec 10
deriving DecidableEq, Repr

/-- A host data block: the header fields of Tables 8.6 and 8.7 and the payload bytes before EBK. -/
structure DataBlk where
  ilv : Bool
  pack : BitVec 2
  urgent : Bool
  port : PortId
  items : Nat
  len : Nat
  mask : BitVec 16
  stride : Nat
  rounds : Nat
  escs : List EscEntry
  payload : List Byte
deriving DecidableEq, Repr

/-- Why a received block is discarded (R238, R240): its CRC, an abort, by a code error on a physical pair where one is
named (R231), the WORD0 of a class that is reserved, its escape list, or its number. -/
inductive DiscardWhy where
  | crc
  | aborted (codeErr : Option (Fin 4))
  | reservedType (word0 : Word)
  | escapes
  | outOfSeq (seq : BitVec 12) (tenUs : Bool)
deriving DecidableEq, Repr

/-- What a training or retrain finds (R222 to R227): the physical pairs that trained, their inversion, the physical
pair of each logical lane, the lane settings of Table 8.20 with, in CODE_ERRS, the errors counted since the last such
report, the round trip of the probes in units of 0.25 ns, and the turnaround the host's TS2 states in units of 2 ns. -/
structure Trained where
  pairUp : BitVec 4
  pairInv : BitVec 4
  laneMap : BitVec 8
  lanes : Vector Word 4
  roundTrip : BitVec 17
  turnaround : Byte
deriving DecidableEq, Repr

/-- A 32-bit word of the image shadow (R393): of the header fields, in the order of Table 14.9, and of the sections that
Slip copies; word `k` of a section of bytes or half words holds its bytes 4`k` to 4`k` + 3. -/
inductive ShadowWord where
  | header (i : Fin 3)
  | device (i : Fin 8)
  | profile (k : Fin 16) (i : Fin 24)
  | frames (i : Fin 32)
  | resv (p : PortId)
  | attention (i : Fin 40)
  | counters (i : Fin 16)
deriving DecidableEq, Repr

/-- An upset of a word of the image shadow: the bits that flip. -/
structure ShadowUpset where
  word : ShadowWord
  flip : Word
deriving DecidableEq, Repr

/-- A resistor pin's sixteen conversions (R361, R362): their sum and their spread, in units of 1/1,000. -/
structure PinReading where
  sum : Nat
  spread : Nat
deriving DecidableEq, Repr

/-- The sixteen readings of a strap pin, 1 where it reads asserted (R360). -/
abbrev PinReads := BitVec 16

/-- The readings of SVC_ADR0 to SVC_ADR2 (R360). -/
structure AdrPins where
  adr0 : PinReads
  adr1 : PinReads
  adr2 : PinReads
deriving DecidableEq, Repr

/-- What an attempt of Kiln reads beside the fuse array: LINE_ISSUE over the management lane, and the pins of SVC_ADR, which
a halt takes (R452, R410). -/
structure KilnReads where
  lineIssue : BitVec 4
  pins : AdrPins
deriving DecidableEq, Repr

/-- The strap pins and resistor levels as read during step 4 of Table 13.1 (R360, R361). -/
structure StrapPins where
  install : PinReads
  bench : PinReads
  devidx0 : PinReads
  devidx1 : PinReads
  trkHalf : PinReads
  svcAdr : AdrPins
  psel : Vector PinReading 16
  svcTim : PinReading
deriving DecidableEq, Repr

/-- What the 1 ms background scan finds (R289, R359): nothing, a configuration register whose bits `flip` are upset, or
a fuse shadow word with bits `flip` upset and the disturbances `reads` of the reads of the array that follow. -/
inductive ScanHit where
  | clean
  | cfg (addr : BitVec 16) (flip : Word)
  | fuse (w : Fin 32) (flip : Word) (reads : List Word)
deriving DecidableEq, Repr

/-- A free segment of a region's pool, by its place in the pool's list, and whether the second copy of its link, and that of
its owner tag, differs from the first (R211). -/
structure SegUpset where
  seg : Nat
  link : Bool := false
  tag : Bool := false
deriving DecidableEq, Repr

/-- An upset in what a queue holds twice (R211): the bits that flip in the second copies of its write and read position, its
item count and *pin_pos*, the segment, held or free, whose second owner tag changes, the one whose second link changes, and
the upset segments of its region's pool. -/
structure Upset where
  writePos : Nat := 0
  readPos : Nat := 0
  items : Nat := 0
  pinPos : BitVec 24 := 0
  tag : Option Nat := none
  freeTag : Option Nat := none
  link : Option Nat := none
  pool : List SegUpset := []
deriving DecidableEq, Repr

/-- An upset in what a queue guards by parity (R212): of the urgent lane, and of the settling chain. -/
structure ParityUpset where
  urg : Bool := false
  chain : Bool := false
deriving DecidableEq, Repr

/-- The step of the equaliser boost a set of edges calls for (R79). -/
inductive EqStep where
  | stay | up | down
deriving DecidableEq, Repr

/-- Which data block is built: one port's, or an interleaved one (R237, R276). -/
inductive BuildSel where
  | single (p : PortId)
  | interleaved
deriving DecidableEq, Repr

/-- A write on the service bus after its command code: its data bytes (a PEC byte included where sent) and whether it
ends in STOP (R402); `readAddr`: the controller sends a read address after them in its place (R403). -/
structure SvcWrite where
  bytes : List Byte
  stop : Bool
  readAddr : Bool := false
deriving DecidableEq, Repr

/-- A read on the service bus after a read-only command code: the bytes the controller takes, or `wrote`: it writes a
data byte in place of the read address (R403). -/
structure SvcRead where
  n : Nat
  wrote : Bool := false
deriving DecidableEq, Repr

/-- REG_ADDR is written or read (Table 15.2); a read takes `n` bytes. -/
inductive RegAddrXfer where
  | write (w : SvcWrite)
  | read (n : Nat)
deriving DecidableEq, Repr

/-- How a state restored from the retention latches differs from the state saved (R323): the sources whose word fails
parity, and whether the ATT_PROC and ATT_EVENTS words do. -/
structure RetentionFault where
  sources : List SrcId
  proc : Bool
  events : Bool := false
deriving DecidableEq, Repr

/-- The commands: one constructor per row of spec/opcode_table.json, in the table's order. -/
inductive Instr where
  | powerUp (vin : BitVec 8) (rev : Bool)
  | kilnAttempt (flips : List (Fin 32 × Word)) (reads : KilnReads)
  | strapResistorSampling (pins : StrapPins)
  | slip
  | releaseLoadCalibration
  | phantomUndervoltage (vin : BitVec 8)
  | phantomOvervoltage (vin : BitVec 8)
  | phantomRange (vin pin : BitVec 8)
  | converterFault
  | thermalWarning (r : SensorReading)
  | thermalCritical (r : SensorReading) (mids : List Mid)
  | thermalCriticalEnd (r : SensorReading)
  | managementLaneFailure (failed : Bool)
  | portLaneFailure (p : PortId) (mid : Mid)
  | portLaneRecovered (p : PortId)
  | shortDetected (p : PortId) (pr : PairId) (mid : Mid)
  | shortToGround (p : PortId) (pr : PairId) (mid : Mid)
  | shortRetry (p : PortId) (pr : PairId) (trips : Bool)
  | shortCleared (p : PortId) (pr : PairId)
  | foreignVoltage (p : PortId) (pr : PairId) (mid : Mid)
  | foreignVoltageEnd (p : PortId) (pr : PairId)
  | contention (p : PortId) (mid : Mid)
  | openWire (p : PortId) (pr : PairId) (mid : Mid)
  | openWireEnd (p : PortId) (pr : PairId)
  | undriven (p : PortId) (mid : Mid)
  | stationDriveSeen (p : PortId)
  | quickSenseEnd (p : PortId) (sa sb : PairSense)
  | lineFaultHoldExpiry (p : PortId)
  | fallbackExit (a : AtPort)
  | collision (p : PortId)
  | lineCheckEnd (p : PortId) (sa sb : PairSense)
  | eqTrack (p : PortId) (edgeMin : BitVec 8) (step : EqStep)
  | readyActivity (p : PortId)
  | startRejected (p : PortId)
  | characterReceived (p : PortId) (c : RxChar)
  | breakEnd (p : PortId) (len : Nat)
  | stuckLow (p : PortId)
  | frameGapTimeout (p : PortId)
  | holdingRegisterDrain (p : PortId)
  | gapWrite (p : PortId) (d : Dir)
  | flowCodeSend (a : AtPort)
  | transmitStart (a : AtPort)
  | transmitEnd (p : PortId)
  | driverRelease (p : PortId)
  | pacerWindow (p : PortId)
  | holdLong (p : PortId)
  | rxRateStep (p : PortId)
  | txRateStep (p : PortId)
  | sequencerStart (r : RegionId)
  | portTransitionEnd (p : PortId) (sa sb : PairSense)
  | portOff (q : Req) (ports : BitVec 16) (mids : List Mid)
  | portRetain (q : Req) (ports : BitVec 16) (mids : List Mid)
  | portReady (q : Req) (ports : BitVec 16) (mids : List Mid)
  | portRun (q : Req) (ports : BitVec 16)
  | rateCmd (q : Req) (entry : BitVec 2) (ports : BitVec 16)
  | deviceStateRun (q : Req)
  | deviceStateIdle (q : Req)
  | deviceStateSleep (q : Req)
  | deviceStateDeep (q : Req)
  | sleepExitEnd (t : Trained) (bad : RetentionFault)
  | wakeTone (fuses : List (Fin 32 × Word)) (image : List ShadowUpset) (bad : RetentionFault)
  | trkWidthCmd (q : Req) (width : BitVec 3)
  | trainingStart
  | linkUp (t : Trained) (halfAttempt : Bool) (flags : Byte) (ms : BitVec 8)
  | laneDrop (l : LaneErrs)
  | markMissing (m : MissedMark)
  | retrainEnd (t : Trained)
  | laneTest (pair : Fin 4) (r : LaneResult)
  | laneRestore (pair : Fin 4) (hostAgrees : Bool)
  | holdover
  | hostDataBlock (b : DataBlk)
  | blockDiscard (why : DiscardWhy)
  | ackReceived (ackseq : BitVec 12)
  | nakReceived (expseq : BitVec 12)
  | linkBlockReserved (subtype : BitVec 4)
  | ackTimer
  | rewindTimeout
  | stallLimitExpiry
  | blockWaitExpiry (p : PortId)
  | dataBlockBuild (sel : BuildSel)
  | txCreditSend
  | noticeBuild (proc : BitVec 2)
  | read (q : Req) (size : BitVec 2) (beatsM1 : BitVec 6) (addr : BitVec 16)
  | write (q : Req) (size : BitVec 2) (beatsM1 : BitVec 6) (addr : BitVec 16) (words : List Word) (mids : List Mid)
  | malformedControlBlock (op tag : BitVec 8) (w1 : Option Word)
  | registerWrite (q : Req) (size : BitVec 2) (addr : BitVec 16) (value : Word)
  | imgWrite (q : Req) (addr : BitVec 16) (value : Word)
  | qwrite (q : Req) (urgent : Bool) (p : PortId) (odd : Bool) (words : List Word)
  | qwriteComplete (q : Req)
  | rxCredit (mask : BitVec 16) (limits : List (BitVec 24))
  | txCommit (q : Req) (p : PortId)
  | txCommitReturn (q : Req)
  | deviceIndex (q : Req) (value : Word)
  | tieGroup (q : Req) (g : Fin 4) (value : Word)
  | tieRelease (q : Req) (g : Fin 4)
  | tieCancel (q : Req) (g : Fin 4)
  | tieAutoRelease (g : Fin 4)
  | tieLineStart (l : LineStart)
  | queueFlush (q : Req) (rx tx : Bool) (ports : BitVec 16)
  | flushCrossing (p : PortId)
  | flushBoundary (p : PortId) (d : Dir)
  | queueReset (q : Req) (rx tx : Bool) (ports : BitVec 16)
  | queueIntegrityFault (p : PortId) (d : Dir) (u : Upset) (par : ParityUpset)
  | reclaimEnd (r : RegionId) (badTags : List (PortId × Dir))
  | pop (q : Req) (p : PortId) (d : Dir)
  | peek (q : Req) (p : PortId) (d : Dir)
  | push (q : Req) (p : PortId) (d : Dir) (value : Word)
  | dataWindowStallEnd (q : Req)
  | claim (q : Req) (s : SrcId)
  | claimComplete (q : Req) (s : SrcId)
  | attPendSet (q : Req) (w : Fin 5) (bits : Word)
  | attPendClr (q : Req) (w : Fin 5) (bits : Word)
  | attMaskSet (q : Req) (w : Fin 5) (bits : Word)
  | attMaskClr (q : Req) (w : Fin 5) (bits : Word)
  | attProc (q : Req) (value : Word)
  | targets (q : Req) (s : SrcId) (value : Word)
  | cntSel (q : Req) (i : Fin 32) (value : Word)
  | cntClear (q : Req) (bits : Word)
  | benchPsel (q : Req) (p : PortId) (value : Word)
  | imgWinCtl (q : Req) (value : Word)
  | parityScan (hit : ScanHit)
  | svcStartStop (stop addressed : Bool)
  | svcAddressMatch
  | svcLogicStart
  | svcLogicStop
  | svcUndefinedCommand (code : Byte)
  | ident (x : SvcRead)
  | status (x : SvcRead)
  | start (x : SvcRead)
  | straps (x : SvcRead)
  | serial (x : SvcRead)
  | ports (x : SvcRead)
  | power (x : SvcRead)
  | events (x : SvcRead)
  | eventsClr (w : SvcWrite)
  | regAddr (x : RegAddrXfer)
  | regData (x : SvcRead)
  | counter (i : Fin 32) (x : SvcRead)
  | lockInstall (w : SvcWrite)
  | lockBlowEnd (copies : BitVec 3)
  | imgData (w : SvcWrite)
  | imgPageWriteEnd (readBack : List Byte)
  | imgRead (x : SvcRead)
  | imgErase (w : SvcWrite)
  | imgEraseEnd
  | imgFlashTimeout
  | imgOpen (w : SvcWrite)
  | imgClose (w : SvcWrite)
  | imgState (x : SvcRead)
  | svcNoticeStart
  | svcArbitrationLost
  | svcNoticeNak
  | svcNoticeRetry
  | svcBusTimeout
  | svcPassive
  | svcPassiveEnd
  | convertersInRegulation
  | thermalWarningEnd (r : SensorReading)
  | stuckLowEnd (p : PortId)
  | breakRiseRejected (p : PortId)
  | tick
deriving DecidableEq, Repr

end Sys2Proof
end

