-- ==== Sys2Proof/Machine/Bits.lean ====
section
/-! DEFINITION. Bit fields, saturating counts, byte order and the three cyclic checks of the spec
(00_scope.md R7; 05 R139; 08 R233; 14 R379; 15 R404). -/

namespace Sys2Proof.Machine

/-- Add one, staying at all ones (the "saturating at" of the count fields). -/
def satInc {w : Nat} (x : BitVec w) : BitVec w := if x = BitVec.allOnes w then x else x + 1#w

/-- Add a number, staying at all ones. -/
def satAdd {w : Nat} (x : BitVec w) (n : Nat) : BitVec w :=
  if x.toNat + n ≤ 2 ^ w - 1 then BitVec.ofNat w (x.toNat + n) else BitVec.allOnes w

/-- A field's value placed at bit `lo` of a register. -/
def fld {w : Nat} (lo : Nat) (v : BitVec w) : Word := v.setWidth 32 <<< lo

/-- One bit placed at bit `lo` of a register. -/
def flag (lo : Nat) (b : Bool) : Word := if b then 1#32 <<< lo else 0#32

/-- The field of `len` bits at bit `lo`. -/
def bits (x : Word) (lo len : Nat) : BitVec len := x.extractLsb' lo len

/-- The vector with only bit `i` set. -/
def oneBit (w i : Nat) : BitVec w := 1#w <<< i

/-- Number of ones. -/
def popcount {w : Nat} (x : BitVec w) : Nat := ((List.range w).filter (fun i => x.getLsbD i)).length

/-- Even parity of a word: true where it holds an even number of ones (R354, R447). -/
def evenParity (x : Word) : Bool := popcount x % 2 == 0

/-- The ports a mask names, in ascending order. -/
def maskPorts (m : BitVec 16) : List PortId := (List.finRange 16).filter (fun p => m.getLsbD p.val)

/-- The four bytes of a word, low byte first (R7). -/
def wordBytes (x : Word) : List Byte :=
  [x.extractLsb' 0 8, x.extractLsb' 8 8, x.extractLsb' 16 8, x.extractLsb' 24 8]

/-- The two bytes of a cell, low byte first (R7). -/
def cellBytes (x : CellW) : List Byte := [x.extractLsb' 0 8, x.extractLsb' 8 8]

/-- Little-endian number of a list of bytes (R7). -/
def leNat : List Byte → Nat
  | [] => 0
  | b :: bs => b.toNat + 256 * leNat bs

/-- One step of a most-significant-bit-first CRC over a byte. -/
def crcByte {w : Nat} (poly : BitVec w) (acc : BitVec w) (b : Byte) : BitVec w :=
  (List.range 8).foldl
    (fun a i => if a.msb != b.getLsbD (7 - i) then (a <<< 1) ^^^ poly else a <<< 1) acc

/-- CRC-8 with generator 0x07, most significant bit first (R139 with initial value 0xFF, R404 with 0x00). -/
def crc8 (init : Byte) (bs : List Byte) : Byte := bs.foldl (crcByte 0x07#8) init

/-- The block CRC-16 (R233). -/
def crc16 (bs : List Byte) : BitVec 16 := bs.foldl (crcByte 0x1021#16) 0xFFFF#16

/-- One step of the reflected CRC-32. -/
def crc32Byte (acc : Word) (b : Byte) : Word :=
  (List.range 8).foldl
    (fun a _ => if a.getLsbD 0 then (a >>> 1) ^^^ 0xEDB88320#32 else a >>> 1) (acc ^^^ b.setWidth 32)

/-- The CRC-32 of IEEE 802.3 (R379). -/
def crc32 (bs : List Byte) : Word := (bs.foldl crc32Byte 0xFFFFFFFF#32) ^^^ 0xFFFFFFFF#32

/-- Clamp a number to a range. -/
def clamp (lo hi n : Nat) : Nat := if n < lo then lo else if hi < n then hi else n

end Sys2Proof.Machine
end

