-- ==== Sys2Proof/Config.lean ====
section
/-! DEFINITION. The constants the spec fixes for every device: sizes of 07_queues_and_store.md and 08_trunk_link.md,
and the built-in defaults of 14_configuration_image.md Table 14.7. -/

namespace Sys2Proof.Config

/-- Segments in one bank (R186). -/
def bankSegments : Nat := 16384
/-- Cells in one segment (R186). -/
def segCells : Nat := 64
/-- Stages of the urgent lane (R182, Table 7.1). -/
def urgentStages : Nat := 64
/-- Stages of the settling chain (R182, Table 7.1). -/
def chainCells : Nat := 16
/-- Bytes of the replay buffer (R244). -/
def replayBytes : Nat := 65536
/-- Most stored blocks (R244). -/
def maxStored : Nat := 2047
/-- Bytes of stored control blocks at which no further one is built (R244). -/
def maxCtlBytes : Nat := 8192
/-- Largest known loss count (R46). -/
def maxLoss : Nat := 0x3FFFFE
/-- Most payload bytes of a block (R233). -/
def maxPayload : Nat := 512
/-- Most escape entries of a data block (Table 8.6). -/
def maxEsc : Nat := 32
/-- Cells of a region's placement buffer (R275, R343). -/
def placementCells : Nat := 2048
/-- Largest reservation total of a region, in segments (R187). -/
def maxResv : Nat := 8192
/-- The device code (Table 17.15). -/
def deviceCode : BitVec 16 := 0x4C16#16
/-- The map issue (Table 17.17). -/
def mapIssue : Byte := 0x01#8

/-- The number of cells of a malformed block whose payload does not decode, for one port: the spec counts them in P
(R273) and does not say how many they are. A free value, by the number of its use (log 21). -/
opaque malformedCells : Nat → BitVec 24

/-- What a byte of the flash, or the three lock fuses, holds where power or the wait ends in the middle of the operation
that writes it: the spec does not say. A free value, by the number of its use (log 21). -/
opaque cutByte : Nat → Byte

/-- How many items of a QWRITE have entered its queue when a reset takes effect: the spec gives the beats' pace only as a
bound of the bank's grants (R189, R271). A free value, by the number of its use (log 21). -/
opaque itemsEntered : Nat → Nat

/-- What ATT_EVENTS restores as where its retention word fails parity (R323): the spec replaces what such a word holds of
sources and ATT_PROC only. A free value, by the number of its use (log 21). -/
opaque lostEvents : Nat → BitVec 3

/-- The upsets of the image shadow that the reload at the end of a freeze meets (R292): no command tells them. A free value,
by the number of its use (log 59). -/
opaque shadowUpsets : Nat → List ShadowUpset

/-- The codes to which the equalisers of a lane in use have adapted, CTLE over DFE: the spec has them adapt while blocks
flow and gives no value (R223). A free value, by the number of its use and the physical pair (log 170). -/
opaque adapted : Nat → Fin 4 → BitVec 16

/-- The nearer level of an indeterminate pin whose mean lies midway between two levels (Table 13.9): true for the upper
one. A free value, by the number of its use (log 21). -/
opaque nearerUpper : Nat → Bool

/-- The built-in profile, words 0 to 23 of Table 14.5 with the values of Table 14.7 (R390). -/
def builtinProfile : Vector Word 24 := #v[
  0x22000004#32, 0x000A002C#32, 27778#32, 3200#32, 320#32, 64#32, 0x000003E8#32, 0#32,
  0#32, 0#32, 0#32, 0#32, 0#32, 0#32, 0#32, 0#32,
  0x0E550D00#32, 0x00121311#32, 0x08000200#32, 0x00640400#32, 0#32, 0#32, 0#32, 0#32]

/-- The built-in TRK_CFG: STALL_LIMIT 20, BLOCK_WAIT 100 (R390). -/
def builtinTrkCfg : Word := 0x00140064#32
/-- The built-in IMG_DEVICE: DEFAULT_PROFILE 0, PEC_REQUIRED 0, NOTIFY_EN 1, HOST_ADDR 0x08 (R390). -/
def builtinImgDevice : Word := 0x00000108#32
/-- The built-in frame-table entry (R390). -/
def builtinFrame : BitVec 16 := 0xA000#16
/-- The built-in attention byte: TARGETS 0001, unmasked (R390). -/
def builtinAttention : Byte := 0x01#8
/-- The built-in reservation word: 128 segments in each direction (R390). -/
def builtinResv : Word := 0x00800080#32

end Sys2Proof.Config
end

