-- ==== Sys2Proof/Machine/State.lean ====
section
/-! DEFINITION. The state of the block: every register, queue, buffer, mode and pin the spec gives it, as plain data,
the queue of waiting commands, and `State.reset`: the device before phantom power is applied (log 1). A field's
default is its reset value; where the spec names a reset source without a number the value is zero (log 2,
DESIGN CHOICE). INVENTORY.md lists each field with its rule. -/

namespace Sys2Proof.Machine

/-- Reasons for which the machine stops. There is none: the spec gives every command an effect (NOTES.md, Stops). -/
inductive Fault where
deriving DecidableEq, Repr

/-- Reasons for which a command has no meaning in the model. -/
inductive Refusal where
  /-- Raised only by an arm of `exec` whose command is not written yet, by its mnemonic; safe. -/
  | notModelled (mnemonic : String)
deriving DecidableEq, Repr

/-! ### Items and queues (02, 07) -/

/-- A queue item: its first cell, and the extension cell of a two-cell mark (R39). -/
structure Item where
  cell : CellW
  ext : Option CellW
deriving DecidableEq, Repr

/-- The lane an item travels in (R50). -/
inductive QLane where
  | bulk | urgent
deriving DecidableEq, Repr

/-- An event of a port that waits for an item of its receive queue (R305): a bit of event register `k`, of LINE_EVENTS,
RXQ_EVENTS, CHAR_EVENTS and AF_EVENTS, whose sources are 8p to 8p + 3. -/
structure Note where
  k : Fin 4
  bit : Nat
deriving DecidableEq, Repr

/-- An item in a queue: its packet-start bit, epoch tag and pinned bit (R183, R185), the events that wait until the
item is readable (R305), and for an item of a host write the place of that write in the order of acceptance (R275). -/
structure Entry where
  item : Item
  start : Bool
  tag : BitVec 8 := 0
  pinned : Bool := false
  notes : List Note := []
  order : Option Nat := none
deriving DecidableEq, Repr

/-- What the Sieve is serving (R195; SERVING of Table 7.7). -/
inductive Serving where
  | none | urgent | bulk | pinned
deriving DecidableEq, Repr

/-- A pending loss record (R47): its reason, its count (none: unknown), whether R471 holds it, and the events
that wait for its GAP (R305). -/
structure Loss where
  reason : BitVec 4
  count : Option Nat
  held : Bool := false
  notes : List Note := []
deriving DecidableEq, Repr

/-- A queue's flush (R205, R207): none, waiting to cross (with the order number of its command), or crossed, with the
items discarded so far and their waiting events. -/
inductive FlushState where
  | none
  | waiting (order : Nat)
  | crossed (count : Nat) (notes : List Note)
deriving DecidableEq, Repr

/-- A stretch of a segment that a queue holds (R186): whether the segment is a reserved one, and the cells of the
stretch, a whole segment's unless the rest is set aside. `spare` are the cells set aside, which are in the guard (R162),
and `last` says that the segment returns once the stretch is read: no later stretch of it follows. -/
structure Seg where
  reserved : Bool
  cells : Nat := Config.segCells
  spare : Nat := 0
  last : Bool := true
deriving DecidableEq, Repr

/-- One queue (Table 7.1). `segs` are the stretches of the segments it holds, oldest first; `flushOwed` are the
FLUSH marks of flushes that have taken effect, which follow the pending GAP (R206, R298). -/
structure Queue where
  urg : List Entry := []
  store : List Entry := []
  chain : List Entry := []
  wEpoch : BitVec 8 := 0
  rEpoch : BitVec 8 := 0
  isOpen : Bool := false
  openLane : QLane := .bulk
  inFrame : Bool := false
  lastMatch : Bool := false
  demoting : Bool := false
  pinValid : Bool := false
  pinPos : BitVec 24 := 0
  bulkIn : BitVec 24 := 0
  bulkLeft : BitVec 24 := 0
  serving : Serving := .none
  pend : Option Loss := none
  segs : List Seg := []
  headRead : Nat := 0
  tailUsed : Nat := 0
  freeOwn : Nat := 0
  reclaimOwn : Nat := 0
  reclaimPool : Nat := 0
  flush : FlushState := .none
  flushOwed : Nat := 0
  popExt : Option CellW := none
  lastPop : Word := 0
deriving DecidableEq, Repr

/-- What a queue's second copies hold, and the parity of its two chains' valid stages: its write and read position, its
item count, *pin_pos*, the owner tags of the segments it holds and of those that wait for the reclaim, those of its own free
segments, and the links of all of them, each the place of the segment that follows (R211, R212, R215). -/
structure QCheck where
  writePos : Nat := 0
  readPos : Nat := 0
  items : Nat := 0
  pinPos : BitVec 24 := 0
  tags : List Bool := []
  freeTags : List Bool := []
  links : List Nat := []
  urgParity : Bool := false
  chainParity : Bool := false
deriving DecidableEq, Repr

/-! ### The port (03 to 07, 12) -/

/-- A port's state (R334): its encoding is Table 12.11's. -/
inductive PState where
  | off | retain | ready | run
deriving DecidableEq, Repr

/-- A transition in progress: where from and to, whether a PORT_STATE_CMD asked for it, whether it is a power
transition (R16) and whether its line check has ended. -/
structure Trans where
  target : PState
  source : PState
  byCmd : Bool
  supply : Bool
  checked : Bool
deriving DecidableEq, Repr

/-- A queued state command and the order of its place in the region's list (R16). -/
structure QueuedCmd where
  target : PState
  order : Nat
deriving DecidableEq, Repr

/-- The causes that a line unit has found on the way from Off, before its line check ended, beside what the check reads
(R80). -/
structure CheckFound where
  foreign : Bool := false
  short : Bool := false
  ground : Bool := false
  opn : Bool := false
  contention : Bool := false
  undriven : Bool := false
deriving DecidableEq, Repr

/-- One line unit: the causes present for each condition of Table 3.6, polarity and the short retry (R80, R81).
`waits`: it left its condition in Run, and carries no characters until the quick sense ends (R83). -/
structure PairSt where
  lane : Bool := false
  prot : Bool := false
  foreign : Bool := false
  short : Bool := false
  ground : Bool := false
  contention : Bool := false
  opn : Bool := false
  undriven : Bool := false
  notUsed : Bool := false
  inv : Bool := false
  unverified : Bool := false
  retry : Bool := false
  waits : Bool := false
  found : CheckFound := {}
deriving DecidableEq, Repr

/-- The port's line mode (R85, MODE and FB_PAIR of Table 3.9). -/
inductive LineMode where
  | full
  | fallback (pr : PairId)
  | multidrop
  | lineFault
deriving DecidableEq, Repr

/-- The reported record of R75. -/
structure Reported where
  swapped : Bool := false
  invA : Bool := false
  invB : Bool := false
  unverified : Bool := false
  condA : BitVec 4 := 0
  condB : BitVec 4 := 0
  mode : LineMode := .full
deriving DecidableEq, Repr

/-- A port's two line units and what the port keeps about them (03): a loop that is not measured reads 0xFFF, and a
length that is not estimated 0xFF (Tables 3.9 and 3.10). -/
structure LineSt where
  a : PairSt := {}
  b : PairSt := {}
  swapped : Bool := false
  mode : LineMode := .full
  loaded : Bool := false
  eqBoost : BitVec 4 := 0
  deemph : BitVec 2 := 0
  lenEst : BitVec 8 := 0xFF
  loopA : BitVec 12 := 0xFFF
  loopB : BitVec 12 := 0xFFF
  checkDone : Bool := false
  lineEvents : BitVec 21 := 0
  edgeMin : BitVec 8 := 0
  trips : BitVec 16 := 0
  reported : Reported := {}
  sensing : Bool := false
  checking : Bool := false
  lfDiscard : Bool := false
deriving DecidableEq, Repr

/-- The receiver's phase (R99, R109, R112). -/
inductive RxPhase where
  | hunting | inBreak | stuck
deriving DecidableEq, Repr

/-- The item in the holding register (R107): the lane its detector gives it, the events whose bits are set and wait for it,
and the AF_EVENTS bit that its entry into the queue sets (R154). -/
structure HeldItem where
  item : Item
  lane : QLane
  notes : List Note := []
  af : Option (Fin 4) := none
deriving DecidableEq, Repr

/-- The receive side of a character engine (04). -/
structure RxSt where
  phase : RxPhase := .hunting
  centre : BitVec 3 := 0
  holding : Option HeldItem := none
  charEvents : BitVec 7 := 0
  glitches : BitVec 16 := 0
  overruns : BitVec 16 := 0
deriving DecidableEq, Repr

/-- The rate state of a port (R115 to R118). `rxEntry` and `txEntry` are the entries in force in each direction;
`rxTaken` and `txTaken` say which has taken the pending step; `fcFast` is the classification of R161. -/
structure RateSt where
  cur : BitVec 2 := 0
  pendEntry : BitVec 2 := 0
  pend : Bool := false
  rxEntry : BitVec 2 := 0
  txEntry : BitVec 2 := 0
  rxTaken : Bool := false
  txTaken : Bool := false
  fcFast : Bool := false
deriving DecidableEq, Repr

/-- Where the receive frame engine stands (R141 to R143). -/
inductive RxFrame where
  | wait | sync | pid | len | check | payload
deriving DecidableEq, Repr

/-- Where the transmit frame stands (TX_STATE of Table 5.15). -/
inductive TxFrame where
  | outside | header | payload
deriving DecidableEq, Repr

/-- The address detector and frame engine of a port (05). -/
structure AfSt where
  muted : Bool := false
  curUrgent : Bool := false
  lastIndex : BitVec 4 := 0
  damagedAddr : BitVec 16 := 0
  muteDiscards : BitVec 16 := 0
  rxFrame : RxFrame := .wait
  rxPid : BitVec 8 := 0
  rxLen : Nat := 0
  rxRemain : BitVec 10 := 0
  rxUrgent : Bool := false
  txFrame : TxFrame := .outside
  txPid : BitVec 8 := 0
  txLen : Nat := 0
  txSent : Nat := 0
  framesOk : BitVec 16 := 0
  frameErrs : BitVec 16 := 0
  events : BitVec 4 := 0
deriving DecidableEq, Repr

/-- What the transmitter is sending: nothing, a queue character, one of the Lulos's own codes, or a break of so many
bit times with its mark (R104, R114, R164). -/
inductive TxNow where
  | idle
  | char (v : BitVec 9)
  | code (v : BitVec 9)
  | brk (len : Nat)
deriving DecidableEq, Repr

/-- The transmit side of a port (04, 05, 06): what is on the line, the header characters still to send (R149), the
driver, the collision back-off (R92) and the pacer's count (R120). -/
structure TxSt where
  now : TxNow := .idle
  header : List (BitVec 9) := []
  driver : Bool := false
  backoff : Bool := false
  paceCount : BitVec 16 := 0
deriving DecidableEq, Repr

/-- The flow controller of a port (06). -/
structure FlowSt where
  held : Bool := false
  holdSent : Bool := false
  rxOutstanding : BitVec 14 := 0
  txCredit : BitVec 16 := 0
  holdWarned : Bool := false
  entryResume : Bool := false
  events : BitVec 3 := 0
  holdsRx : BitVec 16 := 0
  holdsTx : BitVec 16 := 0
  tieWait : Option (Fin 4) := none
deriving DecidableEq, Repr

/-- The level of a port's PSEL pin and the profile it names (R364, Table 13.9). -/
structure PselSt where
  ratio : BitVec 10 := 0
  level : BitVec 4 := 0
  indet : Bool := false
  profile : BitVec 4 := 0
  indetEvent : Bool := false
deriving DecidableEq, Repr

/-- One port. `cfg` are the 24 profile words of Table 14.5 as held (R470); `missed` says that the port has been in
Retain or Off since its last Run (R337); `frozen` that it is frozen, by its own register where `ownFreeze` (R290), else
by one of its region (R291). `unseen` are the bits of its event registers for sources 8p to 8p + 3 whose item is not
readable yet (R305); `lossFrom` is the earliest host write of which an item stands in the transmit queue's pending loss
or in its flush's count (R58, R275). -/
structure Port where
  commanded : PState := .off
  st : PState := .off
  trans : Option Trans := none
  queued : Option QueuedCmd := none
  deferred : Option QueuedCmd := none
  stEvents : BitVec 2 := 0
  psel : PselSt := {}
  benchEn : Bool := false
  benchLevel : BitVec 4 := 0
  cfg : Vector Word 24 := Vector.replicate 24 0
  resvRx : BitVec 12 := 0
  resvTx : BitVec 12 := 0
  missed : Bool := false
  frozen : Bool := false
  ownFreeze : Bool := false
  outage : Word := 0
  outFreeze : Option Nat := none
  outLane : Option Nat := none
  outProt : Option Nat := none
  line : LineSt := {}
  rx : RxSt := {}
  rate : RateSt := {}
  af : AfSt := {}
  tx : TxSt := {}
  flow : FlowSt := {}
  rxq : Queue := {}
  txq : Queue := {}
  rxCheck : QCheck := {}
  txCheck : QCheck := {}
  pushHold : Option (CellW × Bool) := none
  unseen : Vector (BitVec 21) 4 := Vector.replicate 4 0
  rxqEvents : BitVec 4 := 0
  txqEvents : BitVec 5 := 0
  qFaults : BitVec 4 := 0
  txLoss : BitVec 22 := 0
  txLossUnknown : Bool := false
  lossFrom : Option Nat := none
  txRefused : BitVec 16 := 0
  resetsRx : BitVec 8 := 0
  resetsTx : BitVec 8 := 0
  flushTag : Option (BitVec 10) := none
  entered : BitVec 24 := 0
  gaps : BitVec 8 := 0
  limitSent : BitVec 24 := 0
  limitGiven : Bool := false
  placed : BitVec 24 := 0
  carried : BitVec 24 := 0
  rxLimit : BitVec 24 := 0
  rxLimitGiven : Bool := false
  rxCarried : BitVec 24 := 0
  freshGap : Nat := 0
  portLoss : BitVec 22 := 0
  portLossUnknown : Bool := false
deriving DecidableEq, Repr

/-- One region's store bank and sequencer (R14, Tables 7.15 and 12.12); `poolUpsets` are the free segments of
its pool whose second copies of link or owner tag differ from the first (R211), every other one agreeing, `frozen` is a
freeze of the region (R291), and `holdOwed` names the region's ports whose room has fallen to 0 since their last hold code
(R163). -/
structure Region where
  frozen : Bool := false
  pool : Nat := 0
  poolUpsets : List SegUpset := []
  poolMin : Nat := 0
  reclaim : Bool := false
  waited : BitVec 16 := 0
  holdOwed : BitVec 4 := 0
deriving DecidableEq, Repr

/-! ### The trunk and host transactions (08, 09) -/

/-- The content of a sequenced device-to-host block: one port's items, an interleaved block's runs, or a control
block (Tables 8.5, 9.1). -/
inductive BlkBody where
  | data (p : PortId) (pack : BitVec 2) (urgent : Bool) (items : List Item)
  | ilv (mask : BitVec 16) (pack : BitVec 2) (stride rounds : Nat) (runs : List (PortId × List Item))
  | ctl (op tag : BitVec 8) (words : List Word)
deriving DecidableEq, Repr

/-- A block in the replay buffer (R244): whether it is a stub, whether its number has been on the lanes, and whether
it is a stub not sent since it was made (R247). -/
structure Stored where
  seq : BitVec 12
  body : BlkBody
  stub : Bool := false
  sent : Bool := true
  fresh : Bool := false
deriving DecidableEq, Repr

/-- The trunk's state (STATE of Table 8.14). -/
inductive LinkSt where
  | down | training | up | retrain
deriving DecidableEq, Repr

/-- The last link block sent (R241). -/
inductive LinkBlk where
  | none
  | ack (seq : BitVec 12)
  | nak (seq : BitVec 12)
deriving DecidableEq, Repr

/-- The trunk receive and transmit islands (08). `order` are the physical pairs in the host's lane numbers of the last
full training, `alive` those of them that are trained and not dropped, `trained` those that have trained since (the
lanes trained of R342). `waitBlk` is a block built and not numbered (R246), `heldBlks` those kept through a FRESH
training, in the order in which they were built (R248). `freshDue` says that the next full training carries FRESH
because the device starts up or leaves Deep (R239). -/
structure Trunk where
  link : LinkSt := .down
  half : Bool := false
  holdover : Bool := false
  stalled : Bool := false
  passing : Bool := false
  width : BitVec 3 := 0
  order : List (Fin 4) := []
  alive : BitVec 4 := 0
  trained : BitVec 4 := 0
  pairInv : BitVec 4 := 0
  delayValid : Bool := false
  delay : BitVec 16 := 0
  txNext : BitVec 12 := 0
  rxExpect : BitVec 12 := 0
  stored : List Stored := []
  waitBlk : Option BlkBody := none
  heldBlks : List BlkBody := []
  ctlQ : List BlkBody := []
  sinceAck : Nat := 0
  nakFor : Option (BitVec 12) := none
  linkOut : LinkBlk := .none
  trkEvents : BitVec 11 := 0
  discards : BitVec 16 := 0
  retrains : BitVec 8 := 0
  stubs : BitVec 8 := 0
  lanes : Vector Word 4 := Vector.replicate 4 0
  lostAll : Bool := false
  freshDue : Bool := true
  markMissed : BitVec 4 := 0
  laneLocked : BitVec 4 := 0
  restoring : Bool := false
deriving DecidableEq, Repr

/-- A waiting TX_COMMIT read (R275). -/
structure Commit where
  q : Req
  p : PortId
  order : Nat
deriving DecidableEq, Repr

/-- An item of a transmit block on its way into a queue: its lane request and, for a QWRITE, its first beat. -/
structure TxItem where
  item : Item
  urgent : Bool
  beat : Nat := 0
deriving DecidableEq, Repr

/-- A QWRITE in progress (R271): its beats and the items that have not entered. -/
structure QWrite where
  q : Req
  p : PortId
  order : Nat
  beats : Nat
  left : List TxItem
  failedAt : Option Nat
deriving DecidableEq, Repr

/-- A stalled POP or PEEK (R204). -/
structure Stall where
  q : Req
  p : PortId
  d : Dir
  peek : Bool
deriving DecidableEq, Repr

/-- A host data block held in Sleep (R343): its place in the order of acceptance, the cells it carries for each present
port, and the ports whose items a queue reset has discarded since (R269). -/
structure HeldBlk where
  blk : DataBlk
  cells : List (PortId × BitVec 24)
  order : Nat
  gone : List PortId
deriving DecidableEq, Repr

/-- A queue reset accepted in Sleep, when the store banks are in retention (Table 12.4): it acts as Sleep ends (log 110). -/
structure SleepReset where
  p : PortId
  d : Dir
  order : Nat
deriving DecidableEq, Repr

/-- The host-transaction registers and requests in progress (09). `sleepFresh` are the ports whose transmit queues a FRESH
training in Sleep owes its GAP, with the training's place in the order of acceptance, and `sleepWrites` the QWRITEs it
has completed whose items have not entered (R278; log 57). -/
structure HostSt where
  errors : BitVec 6 := 0
  errRecord : Word := 0
  rxIlv : Word := 0
  commits : List Commit := []
  qwrites : List QWrite := []
  stalls : List Stall := []
  accepted : Nat := 0
  sleepHeld : List HeldBlk := []
  sleepResets : List SleepReset := []
  sleepFresh : List (PortId × Nat) := []
  sleepWrites : List QWrite := []
deriving DecidableEq, Repr

/-! ### Ties, attention, counters (06, 11, 16) -/

/-- One tie group (Tables 6.9 and 6.10). `starting` are the ports whose line start is scheduled, `left` the members that
have left the open round (R175). -/
structure Tie where
  members : BitVec 16 := 0
  hostRel : Bool := false
  ready : Bool := false
  opened : Bool := false
  early : Bool := false
  stray : Bool := false
  releases : BitVec 4 := 0
  disturbed : Bool := false
  starting : List PortId := []
  left : BitVec 16 := 0
deriving DecidableEq, Repr

/-- One attention source (R307, Table 11.11). -/
structure Src where
  pend : Bool := false
  repend : Bool := false
  claimed : Bool := false
  claimer : BitVec 2 := 0
  count : BitVec 4 := 0
  noticed : BitVec 4 := 0
  targets : BitVec 4 := 0
  masked : Bool := false
  asserted : Bool := false
deriving DecidableEq, Repr

/-- The attention unit (11). `due` are the pairs due a notice, in the order in which they became due (R310). -/
structure Att where
  srcs : Vector Src 160 := Vector.replicate 160 {}
  proc : BitVec 8 := 0
  events : BitVec 3 := 0
  saved : Bool := false
  arrived : List SrcId := []
  due : List (SrcId × BitVec 2) := []
deriving DecidableEq, Repr

/-- The event counters (16). -/
structure Cnt where
  vals : Vector (BitVec 48) 32 := Vector.replicate 32 0
  sels : Vector (BitVec 10) 32 := Vector.replicate 32 0
  ovf : Word := 0
deriving DecidableEq, Repr

/-! ### Start-up, power, service port (12 to 15) -/

/-- STAGE of START_STATUS (Table 13.7). -/
inductive Stage where
  | powerUp | kiln | sampling | slip | training | released | halted
deriving DecidableEq, Repr

/-- The straps as latched (Table 13.3). -/
structure Straps where
  install : Bool := false
  bench : Bool := false
  devidx : BitVec 2 := 0
  trkHalf : Bool := false
  svcAdr : BitVec 3 := 0
deriving DecidableEq, Repr

/-- The image shadow (R393). -/
structure Image where
  dev0 : Word := 0
  trkCfg : Word := Config.builtinTrkCfg
  dev2 : Word := 0x00000108#32
  profiles : Vector (Vector Word 24) 16 := Vector.replicate 16 Config.builtinProfile
  frames : Vector (BitVec 16) 64 := Vector.replicate 64 Config.builtinFrame
  resv : Vector Word 16 := Vector.replicate 16 Config.builtinResv
  att : Vector Byte 160 := Vector.replicate 160 Config.builtinAttention
  cnts : Vector (BitVec 16) 32 := Vector.replicate 32 0
deriving DecidableEq, Repr

/-- The bedrock's start-up state (13, 14). `image` is what Slip has copied into the image shadow, with one parity bit a
word, and `upsets` are the bits of it that have flipped since (R393). `rerunKiln` and `rerunSlip` say what must run
again on the way out of Deep (R370), and `retentionBad` which retention words have failed meanwhile, until they are
restored (R323). -/
structure Boot where
  regulated : Bool := false
  fuseArray : Vector Word 32 := (Vector.replicate 32 0).set 0 0x5000FFFF#32
  fuseShadow : Vector Word 32 := Vector.replicate 32 0
  kilnRead : Vector Word 32 := Vector.replicate 32 0
  stage : Stage := .powerUp
  kilnHalt : Bool := false
  attempts : Nat := 0
  kilnRetries : BitVec 2 := 0
  kilnWord : BitVec 5 := 0
  bedTrimmed : Bool := false
  lineIssue : BitVec 4 := 0
  slipResult : BitVec 2 := 0
  defaults : Bool := false
  heldReady : Bool := false
  releaseMs : BitVec 8 := 0
  startEvents : BitVec 3 := 0
  straps : Straps := {}
  svcTimLevel : BitVec 4 := 0
  svcTimIndet : Bool := false
  image : Image := {}
  upsets : List ShadowUpset := []
  imgInfo : Word := 0
  imgId : Word := 0
  imgCrc : Word := 0
  imgSections : BitVec 6 := 0
  imgDevice : Word := 0
  frames : Vector (BitVec 16) 64 := Vector.replicate 64 0
  trkCfg : Word := 0
  imgWinClose : Bool := false
  cfgBad : List (BitVec 16) := []
  early : List SrcId := []
  rerunKiln : Bool := false
  rerunSlip : Bool := false
  retentionBad : RetentionFault := { sources := [], proc := false }
deriving DecidableEq, Repr

/-- Phantom power and temperature (12). `overOff` says that over-voltage switched the input stage off (R326). `temps` are
the latest readings of the seven sensors in °C (R22); no register of the spec lists them (log 112, DESIGN CHOICE). -/
structure Power where
  inputOn : Bool := false
  vin : BitVec 8 := 0
  pin : BitVec 8 := 0
  inRange : Bool := false
  bridgeRev : Bool := false
  events : BitVec 7 := 0
  temps : Vector Byte 7 := Vector.replicate 7 0
  warn : BitVec 7 := 0
  crit : BitVec 7 := 0
  mgmtFailed : Bool := false
  overOff : Bool := false
  faultN : Bool := false
deriving DecidableEq, Repr

/-- The device's state (Table 12.7). Run and Idle are one constructor: which of them it is follows from the width
commanded and the lanes trained (R342). -/
inductive DState where
  | awake | sleep | deep
deriving DecidableEq, Repr

/-- Device state, width and index (Tables 9.11 and 12.13). `byState` says that a DEVICE_STATE_CMD set CHANGING,
`toSleep` that the retrain in progress enters Sleep (R343), `exiting` that Sleep or Deep is ending; `deepWait` says that
Deep waits for a flash operation (R418), `changeDue` that the retrain of a command waits until its completion is sent
(R277). -/
structure Dev where
  st : DState := .awake
  changing : Bool := false
  byState : Bool := false
  toSleep : Bool := false
  exiting : Bool := false
  deepWait : Bool := false
  changeDue : Bool := false
  cmdWidth : BitVec 3 := 0
  idxWritten : Bool := false
  idxMismatch : Bool := false
  idx : BitVec 2 := 0
deriving DecidableEq, Repr

/-- How the service logic starts on an address match (R409). -/
inductive SvcStart where
  | none | stretch | nak
deriving DecidableEq, Repr

/-- The flash or fuse operation in progress (R413 to R419). -/
inductive SvcBusy where
  | none
  | page (ptr : BitVec 16) (bytes : List Byte)
  | erase (ptr : BitVec 16)
  | lock
deriving DecidableEq, Repr

/-- The service port (15). `untilStop`: it did not acknowledge a code and ignores the bus until STOP (R401); `ignoring`:
after a timeout it ignores the bus until STOP or both lines high for 50 µs (R424). `note` are the bytes of the notice
built last, `noteWait` says that it waits for its retry (R422). `addressed`: a transfer has been acknowledged at its
address and has carried no command yet (R409, Table 15.8). `out` holds the bytes sent in the last read or notice;
`acked` says whether the last transaction was acknowledged throughout. -/
structure Svc where
  running : Bool := false
  starting : SvcStart := .none
  passive : Bool := false
  untilStop : Bool := false
  ignoring : Bool := false
  addressed : Bool := false
  noteDue : Bool := false
  noteSending : Bool := false
  noteWait : Bool := false
  note : List Byte := []
  noteRetries : Nat := 0
  session : Bool := false
  closing : Bool := false
  busy : SvcBusy := .none
  events : BitVec 11 := 0
  transactions : BitVec 16 := 0
  pages : BitVec 16 := 0
  pointer : BitVec 16 := 0
  regAddr : BitVec 16 := 0
  out : List Byte := []
  acked : Bool := false
deriving DecidableEq, Repr

/-- The whole machine. `pending` is the queue of waiting commands, first in, first out; `coreUs` counts the
microseconds that TICK tells (log 3); `freeCtr` numbers the free values (log 21). -/
structure State where
  pending : List Instr := []
  boot : Boot := {}
  pw : Power := {}
  dev : Dev := {}
  ports : Vector Port 16 := Vector.replicate 16 {}
  regions : Vector Region 4 := Vector.replicate 4 {}
  tr : Trunk := {}
  host : HostSt := {}
  ties : Vector Tie 4 := Vector.replicate 4 {}
  tieDisturbed : BitVec 4 := 0
  parityRecord : Word := 0
  att : Att := {}
  cnt : Cnt := {}
  svc : Svc := {}
  flash : List Host.Cell := []
  coreUs : Nat := 0
  freeCtr : Nat := 0
deriving DecidableEq, Repr

/-- The device with no phantom power, before the command POWER_UP (log 1). -/
def State.reset : State := {}

/-- The outcome of a command or step. -/
abbrev Out := Host.Outcome State Fault Refusal

end Sys2Proof.Machine
end

