-- ==== Sys2Proof/Machine/Operands.lean ====
section
/-! DEFINITION. The settings a port uses, read from its profile words under the rules of 17_register_map.md R470
(04 R96, R123; 05 R126, R153; 06 R155, R179; 14 R397), and the facts about ports, fuses and straps every command asks
for (13 R354 to R358). -/

namespace Sys2Proof.Machine

/-! ### Fuses, straps and presence -/

/-- The present-port mask: fuse word 0 [15:0] of the shadow (R354). -/
def State.presentMask (s : State) : BitVec 16 := (s.boot.fuseShadow[0]).extractLsb' 0 16

/-- Port `p` is present (R4, R5). -/
def State.present (s : State) (p : PortId) : Bool := s.presentMask.getLsbD p.val

/-- FAST_DISABLE (R358). -/
def State.fastDisable (s : State) : Bool := (s.boot.fuseShadow[1]).getLsbD 7
/-- HALF_ONLY (R358). -/
def State.halfOnly (s : State) : Bool := (s.boot.fuseShadow[1]).getLsbD 8
/-- SEC_DENY for a processor (R358). -/
def State.secDeny (s : State) (proc : BitVec 2) : Bool := (s.boot.fuseShadow[1]).getLsbD (3 + proc.toNat)
/-- BENCH_DISABLE (R358). -/
def State.benchDisable (s : State) : Bool := (s.boot.fuseShadow[1]).getLsbD 2
/-- IMAGE_REQUIRED (R358). -/
def State.imageRequired (s : State) : Bool := (s.boot.fuseShadow[1]).getLsbD 1
/-- Bench mode (R371). -/
def State.benchMode (s : State) : Bool := s.boot.straps.bench && !s.benchDisable
/-- INSTALL_LOCK blown: at least two of three copies (R357). -/
def lockBlown (w3 : Word) : Bool := 2 ≤ popcount (w3.extractLsb' 0 3)
/-- INSTALL_LOCK as the shadow shows it. -/
def State.installLock (s : State) : Bool := lockBlown s.boot.fuseShadow[3]
/-- TRK_HALF or HALF_ONLY in force (Table 13.8 HALF). -/
def State.halfForced (s : State) : Bool := s.boot.straps.trkHalf || s.halfOnly
/-- The device is released and serves (not halted, not before Release, input on). -/
def State.released (s : State) : Bool := s.boot.stage == .released
/-- The core domain is powered and holds service state: released and not in Deep (Table 12.4). -/
def State.serving (s : State) : Bool := s.released && s.pw.inputOn && !(s.dev.st == .deep)

/-- The store banks are on: in Sleep they are in retention, and nothing reads or writes them (R333, R343). -/
def State.storeOn (s : State) : Bool := s.serving && s.dev.st == .awake

/-- The region of a port (R14). -/
def regionOf (p : PortId) : RegionId := ⟨p.val / 4, by omega⟩
/-- The ports of a region (R14). -/
def regionPorts (r : RegionId) : List PortId := (List.finRange 16).filter (fun p => p.val / 4 == r.val)

/-! ### Profile fields -/

/-- LINE_MODE 01: multi-drop (Table 14.11). -/
def Port.multidrop (p : Port) : Bool := bits p.cfg[0] 30 2 == 1#2
/-- TERM (Table 14.11). -/
def Port.term (p : Port) : BitVec 2 := bits p.cfg[0] 28 2
/-- FB_EN. -/
def Port.fbEn (p : Port) : Bool := p.cfg[0].getLsbD 27
/-- LIGHT_TRAIN. -/
def Port.lightTrain (p : Port) : Bool := p.cfg[0].getLsbD 26
/-- RATE_MARK_ON_RUN. -/
def Port.rateMark (p : Port) : Bool := p.cfg[0].getLsbD 8
/-- PARITY with the rule "others read as none" (Table 4.7). -/
def parityField (w : Word) : BitVec 3 := if bits w 4 3 ≤ 4#3 then bits w 4 3 else 0#3
/-- DATA_BITS with the rule "11 reads as eight" (Table 4.7). -/
def dataBitsField (w : Word) : BitVec 2 := if bits w 2 2 = 3#2 then 1#2 else bits w 2 2
/-- The number of data bits: 7, 8 or 9. -/
def Port.dataBits (p : Port) : Nat := 7 + (dataBitsField p.cfg[0]).toNat
/-- PARITY of the port. -/
def Port.parity (p : Port) : BitVec 3 := parityField p.cfg[0]
/-- DIV under R96 and FAST_DISABLE (R358). -/
def divField (fastDisable : Bool) (w : Word) : Nat :=
  let d := clamp 64 16777152 (bits w 0 24).toNat
  if fastDisable && d < 200 then 200 else d
/-- The DIV of a rate entry. -/
def Port.div (fastDisable : Bool) (p : Port) (e : BitVec 2) : Nat :=
  divField fastDisable (p.cfg[2 + e.toNat]'(by have := e.isLt; omega))
/-- An entry above 16 Mbaud in a full-duplex profile runs fast mode (R117): DIV below 200. -/
def Port.fastEntry (fastDisable : Bool) (p : Port) (e : BitVec 2) : Bool :=
  !p.multidrop && p.div fastDisable e < 200
/-- Slew code of Table 3.2 for a DIV (R66): 250 kbaud is DIV 12,800, 2.5 Mbaud is DIV 1,280. -/
def slewCode (fast : Bool) (div : Nat) : BitVec 2 :=
  if fast then 3#2 else if div < 1280 then 2#2 else if div < 12800 then 1#2 else 0#2
/-- The driver's slew code in force (R66). -/
def Port.slew (fastDisable : Bool) (x : Port) : BitVec 2 :=
  slewCode (x.fastEntry fastDisable x.rate.txEntry) (x.div fastDisable x.rate.txEntry)
/-- PACE_N. -/
def Port.paceN (p : Port) : Nat := (bits p.cfg[6] 16 16).toNat
/-- PACE_WIN with its rule (Table 4.12). -/
def paceWinField (w : Word) : Nat := clamp 50 10000 (bits w 0 14).toNat
/-- ADDR_MODE. -/
def Port.addrMode (p : Port) : Bool := p.cfg[7].getLsbD 17
/-- MUTE. -/
def Port.mute (p : Port) : Bool := p.cfg[7].getLsbD 16
/-- FRAME_EN. -/
def Port.frameEn (p : Port) : Bool := p.cfg[16].getLsbD 0
/-- RX_URGENT with the rule of R126: a value whose detector is off reads 00. -/
def Port.rxUrgent (p : Port) : BitVec 2 :=
  let v := bits p.cfg[7] 10 2
  if v = 2#2 && !p.addrMode then 0#2 else if v = 3#2 && !p.frameEn then 0#2 else v
/-- ADDR_TX_IDLE (R135). -/
def Port.addrTxIdle (p : Port) : Nat := (bits p.cfg[7] 12 4).toNat
/-- GAP_MAX with its rule (Table 5.14). -/
def gapMaxField (w : Word) : Nat := clamp 2 255 (bits w 24 8).toNat
/-- SYNC. -/
def Port.sync (p : Port) : Byte := bits p.cfg[16] 16 8
/-- BRK_TX with its rule (Table 5.14). -/
def brkTxField (w : Word) : Nat := clamp 13 20 (bits w 8 5).toNat
/-- FC_MODE; 11 reads as 00 (Table 6.1). -/
def fcModeField (w : Word) : BitVec 2 := if bits w 30 2 = 3#2 then 0#2 else bits w 30 2
/-- FC_MODE of the port. -/
def Port.fcMode (p : Port) : BitVec 2 := fcModeField p.cfg[17]
/-- HOLD_CODE. -/
def Port.holdCode (p : Port) : Byte := bits p.cfg[17] 8 8
/-- RESUME_CODE. -/
def Port.resumeCode (p : Port) : Byte := bits p.cfg[17] 0 8
/-- TURN_GAP; 0 reads as 1 (Table 6.3). -/
def turnGapField (w : Word) : BitVec 4 := if bits w 16 4 = 0#4 then 1#4 else bits w 16 4
/-- RESUME_ROOM. -/
def Port.resumeRoom (p : Port) : Nat := (bits p.cfg[18] 16 16).toNat
/-- HOLD_ROOM. -/
def Port.holdRoom (p : Port) : Nat := (bits p.cfg[18] 0 16).toNat
/-- HOLD_WARN. -/
def Port.holdWarn (p : Port) : Nat := (bits p.cfg[19] 16 16).toNat
/-- CREDIT_MAX with its rule (Table 6.5). -/
def creditMaxField (w : Word) : Nat := clamp 1 8192 (bits w 0 14).toNat
/-- CREDIT_MAX of the port. -/
def Port.creditMax (p : Port) : Nat := creditMaxField p.cfg[19]
/-- THRESH of a direction (Table 7.8). -/
def Port.thresh (p : Port) (d : Dir) : Nat :=
  (bits (match d with | .rx => p.cfg[20] | .tx => p.cfg[21]) 0 20).toNat
/-- A reservation in cells. -/
def Port.resv (p : Port) (d : Dir) : Nat := match d with | .rx => p.resvRx.toNat | .tx => p.resvTx.toNat

/-- STRIDE of RX_ILV; 0 reads as 1 (Table 9.12). -/
def strideField (w : Word) : Nat := if bits w 16 8 = 0#8 then 1 else (bits w 16 8).toNat
/-- BLOCK_WAIT with its rule (Table 8.18). -/
def blockWaitField (w : Word) : Nat := clamp 1 1000 (bits w 0 10).toNat

/-! ### What a host reads of a profile word (R470) -/

/-- A profile word as read, after the rules of R470; `adr` is the port whose other registers a rule depends on. -/
def Port.cfgRead (fastDisable : Bool) (p : Port) (i : Fin 24) : Word :=
  let w := p.cfg[i]
  if i = 0 then (w &&& 0xFFFFFF83#32) ||| fld 4 (parityField w) ||| fld 2 (dataBitsField w)
  else if 2 ≤ i.val ∧ i.val ≤ 5 then BitVec.ofNat 32 (divField fastDisable w)
  else if i = 6 then (w &&& 0xFFFF0000#32) ||| BitVec.ofNat 32 (paceWinField w)
  else if i = 7 then (w &&& 0xFFFFF3FF#32) ||| fld 10 p.rxUrgent
  else if i = 16 then (w &&& 0x00FFE0FF#32) ||| BitVec.ofNat 32 (gapMaxField w * 2 ^ 24 + brkTxField w * 2 ^ 8)
  else if i = 17 then (w &&& 0x3FF0FFFF#32) ||| fld 30 (fcModeField w) ||| fld 16 (turnGapField w)
  else if i = 19 then (w &&& 0xFFFF0000#32) ||| BitVec.ofNat 32 (creditMaxField w)
  else w

/-- PORT_FORMAT as read: bits [8:0] of the shared field (R447). -/
def Port.formatRead (fastDisable : Bool) (p : Port) : Word := p.cfgRead fastDisable 0 &&& 0x1FF#32

/-! ### Lanes (08) -/

/-- The pairs of the lanes still trained, in logical order. -/
def Trunk.laneList (t : Trunk) : List (Fin 4) := t.order.filter (fun k => t.alive.getLsbD k.val)
/-- The pairs in use: those of the first lanes, as many as the width (PAIR_UP of Table 8.14). -/
def Trunk.activeMask (t : Trunk) : BitVec 4 :=
  (t.laneList.take t.width.toNat).foldl (fun m k => m ||| oneBit 4 k.val) 0

/-! ### Pair conditions and roles (03) -/

/-- PAIRx_COND: the highest cause of Table 3.6 (R80). -/
def PairSt.cond (q : PairSt) : BitVec 4 :=
  if q.lane then 8#4 else if q.prot then 7#4 else if q.foreign then 4#4 else if q.short then 3#4
  else if q.ground then 5#4 else if q.contention then 6#4 else if q.opn then 2#4
  else if q.undriven then 1#4 else if q.notUsed then 9#4 else 0#4

/-- One pair of a port. -/
def LineSt.pair (l : LineSt) : PairId → PairSt
  | .a => l.a
  | .b => l.b

/-- The receive-role pair: pair B, or pair A where swapped; in multi-drop the bus pair, the other being not used
(R63). -/
def LineSt.rxRole (l : LineSt) : PairId :=
  if l.a.notUsed then .b else if l.b.notUsed then .a else if l.swapped then .a else .b
/-- The transmit-role pair; in multi-drop the bus pair (R63). -/
def LineSt.txRole (l : LineSt) (multidrop : Bool) : PairId :=
  if multidrop then l.rxRole else if l.swapped then .b else .a
/-- The pair the receiver listens to now: the shared pair in fall-back (R90). -/
def LineSt.listen (l : LineSt) : PairId :=
  match l.mode with
  | .fallback pr => pr
  | _ => l.rxRole
/-- Scope code of a pair in a LINE mark (R42). -/
def pairScope : PairId → BitVec 2
  | .a => 1#2
  | .b => 2#2

/-- The port signals: in Run, not frozen, its driver not held off by the line (R85, R290). -/
def Port.inRun (p : Port) : Bool := p.st == .run && p.trans.isNone
/-- The port is in line-fault. -/
def Port.lineFault (p : Port) : Bool := p.line.mode == .lineFault
/-- The pair carries characters: it is good, and no quick sense holds it back (R80, R83). -/
def PairSt.carries (q : PairSt) : Bool := q.cond == 0 && !q.waits
/-- The line unit keeps its driver on at mark after a retry that did not trip: through the 1 ms of R81, and after it on the
transmit-role pair of a full-duplex port (`LineSt.endRetries`). -/
def PairSt.retrying (q : PairSt) : Bool := q.retry && (q.cond == 3 || q.cond == 5 || q.cond == 0)
/-- The port samples its line: in Run, not frozen, not in line-fault (R85, R290; log 119, DEDUCED). -/
def Port.samples (p : Port) : Bool := p.inRun && !p.frozen && !p.lineFault
/-- Characters on the line reach the line unit's receiver: the pair is good, though a quick sense may hold it back, or its
condition takes nothing but its driver away, contention and Protection (Table 3.6; log 119, DEDUCED). -/
def PairSt.arrives (q : PairSt) : Bool := q.cond == 0 || q.cond == 6 || q.cond == 7
/-- The port is in line-fault, and characters arrive on its receive-role or bus pair all the same: it neither samples nor
drives (R59; log 119, DEDUCED). -/
def Port.deaf (x : Port) : Bool := x.inRun && !x.frozen && x.lineFault && (x.line.pair x.line.rxRole).arrives
/-- The port receives characters: it samples its line, and the pair it listens to carries them (R83). -/
def Port.receives (p : Port) : Bool := p.samples && (p.line.pair p.line.listen).carries
/-- Half duplex: multi-drop or fall-back (R167). -/
def Port.halfDuplex (x : Port) : Bool :=
  x.multidrop || match x.line.mode with
    | .fallback _ => true
    | _ => false
/-- The pair the transmitter uses now. -/
def Port.sendPair (x : Port) : PairId :=
  match x.line.mode with
  | .fallback pr => pr
  | _ => x.line.txRole x.multidrop
/-- The receiver is blanked while the port's own half-duplex driver is on (R90, R137, R167). -/
def Port.blanked (x : Port) : Bool := x.tx.driver && x.halfDuplex

/-- The queue format that places packet boundaries (Table 2.4); in 9-bit address mode they differ by direction. -/
inductive QFmt where
  | each | addrRx | addrTx | frame
deriving DecidableEq, Repr

/-- The format of a port's queue. -/
def Port.fmt (p : Port) (d : Dir) : QFmt :=
  if p.addrMode then (match d with | .rx => .addrRx | .tx => .addrTx) else if p.frameEn then .frame else .each

/-! ### What a queue holds (R39, R201, R211, R212) -/

/-- Cells an item occupies (R39). -/
def Item.cells (i : Item) : Nat := if i.ext.isSome then 2 else 1
/-- Cells of a list of entries. -/
def cellsOf (es : List Entry) : Nat := (es.map (fun e => e.item.cells)).sum
/-- Items in the queue (R201). -/
def Queue.items (q : Queue) : Nat := q.urg.length + q.store.length + q.chain.length
/-- The owner tags of the segments a queue holds, and of those that wait for the reclaim: which list each came from
(R215). -/
def Queue.tags (q : Queue) : List Bool :=
  (q.segs.filter (fun g => g.last)).map (fun g => g.reserved) ++ List.replicate q.reclaimOwn true ++
    List.replicate q.reclaimPool false
/-- The second copies and the chain parity of a queue (R211, R212): a chain's valid stages are as many as its cells. The
segments with its owner tag and those of its own free list, whose tags name it and that list, have links. -/
def Queue.check (q : Queue) : QCheck :=
  { writePos := q.tailUsed, readPos := q.headRead, items := q.items, pinPos := q.pinPos, tags := q.tags,
    freeTags := List.replicate q.freeOwn true,
    links := (List.range (q.tags.length + q.freeOwn)).map (· + 1),
    urgParity := cellsOf q.urg % 2 == 1, chainParity := cellsOf q.chain % 2 == 1 }
/-- The comparison of R211 fails: some position, count, tag or link differs between its copies. -/
def QCheck.pointerFails (c q : QCheck) : Bool :=
  c.writePos != q.writePos || c.readPos != q.readPos || c.items != q.items || c.pinPos != q.pinPos || c.tags != q.tags ||
    c.freeTags != q.freeTags || c.links != q.links
/-- The check of R212 fails: the parity of a chain's valid stages is wrong. -/
def QCheck.parityFails (c q : QCheck) : Bool := c.urgParity != q.urgParity || c.chainParity != q.chainParity
/-- The earliest host write of which the queue holds an item (R275). -/
def Queue.oldest (q : Queue) : Option Nat := ((q.urg ++ q.chain ++ q.store).filterMap (fun e => e.order)).min?

/-- PSTATE encoding (Table 12.11). -/
def PState.code : PState → BitVec 2
  | .off => 0 | .retain => 1 | .ready => 2 | .run => 3
/-- Does a transition raise the port's supply (R16)? -/
def raisesSupply : PState → PState → Bool
  | .off, .off => false
  | .off, _ => true
  | .retain, .ready => true
  | .retain, .run => true
  | _, _ => false

end Sys2Proof.Machine
end

