-- ==== Sys2Proof/Machine/Ops.lean ====
section
/-! DEFINITION. The named operations over the state that every command uses: reading and replacing one port, region
or tie group, and the serial flash as a canonical memory (14_configuration_image.md R377; 15_service_port.md R412 to
R416; log 7). -/

namespace Sys2Proof.Machine

/-! ### Ports, regions, tie groups -/

/-- One port. -/
def State.port (s : State) (p : PortId) : Port := s.ports[p]
/-- Replace one port. -/
def State.setPort (s : State) (p : PortId) (x : Port) : State := { s with ports := s.ports.set p x }
/-- Change one port. -/
def State.modPort (s : State) (p : PortId) (f : Port → Port) : State := s.setPort p (f (s.port p))
/-- One region. -/
def State.region (s : State) (r : RegionId) : Region := s.regions[r]
/-- Change one region. -/
def State.modRegion (s : State) (r : RegionId) (f : Region → Region) : State :=
  { s with regions := s.regions.set r (f (s.region r)) }
/-- One tie group. -/
def State.tie (s : State) (g : Fin 4) : Tie := s.ties[g]
/-- Change one tie group. -/
def State.modTie (s : State) (g : Fin 4) (f : Tie → Tie) : State := { s with ties := s.ties.set g (f (s.tie g)) }
/-- One queue of a port. -/
def Port.queue (x : Port) : Dir → Queue
  | .rx => x.rxq
  | .tx => x.txq
/-- The second copies and the chain parity of a queue as a port holds them. -/
def Port.checkOf (x : Port) : Dir → QCheck
  | .rx => x.rxCheck
  | .tx => x.txCheck
/-- Replace the second copies and the chain parity of a queue. -/
def Port.setCheck (x : Port) (d : Dir) (c : QCheck) : Port :=
  match d with
  | .rx => { x with rxCheck := c }
  | .tx => { x with txCheck := c }
/-- Replace one queue of a port and leave its second copies. -/
def Port.setFirst (x : Port) (d : Dir) (q : Queue) : Port :=
  match d with
  | .rx => { x with rxq := q }
  | .tx => { x with txq := q }
/-- Replace one queue of a port. Both copies of what it holds twice move together, and so does the parity of its chains;
copies that have parted stay parted until a reset (R211 to R213). -/
def Port.setQueue (x : Port) (d : Dir) (q : Queue) : Port :=
  (x.setFirst d q).setCheck d (if x.checkOf d = (x.queue d).check then q.check else x.checkOf d)
/-- Write a queue and both its copies anew. -/
def Port.renewQueue (x : Port) (d : Dir) (q : Queue) : Port := (x.setFirst d q).setCheck d q.check
/-- The comparison of R211 and the check of R212 pass for a queue. -/
def Port.agrees (x : Port) (d : Dir) : Bool :=
  !((x.checkOf d).pointerFails (x.queue d).check || (x.checkOf d).parityFails (x.queue d).check)
/-- One queue. -/
def State.queue (s : State) (p : PortId) (d : Dir) : Queue := (s.port p).queue d
/-- Replace one queue. -/
def State.setQueue (s : State) (p : PortId) (d : Dir) (q : Queue) : State := s.modPort p (·.setQueue d q)
/-- Both copies agree of all that an access to a queue uses: the queue's own, and the links and tags of its region's pool.
Every push, pop and bank access compares them. Where they have parted no item enters or leaves: QUEUE_INTEGRITY_FAULT resets
the queue, and so does the flush, discard or fetch that meets it (R211 to R213; log 145, DEDUCED). -/
def State.sound (s : State) (p : PortId) (d : Dir) : Bool :=
  (s.port p).agrees d && (s.region (regionOf p)).poolUpsets.isEmpty
/-- The present ports, ascending. -/
def State.presentPorts (s : State) : List PortId := (List.finRange 16).filter s.present
/-- The present ports a mask names, ascending. -/
def State.portsOf (s : State) (m : BitVec 16) : List PortId := (maskPorts m).filter s.present
/-- Apply a change for each element of a list, in order. -/
def forEach {α : Type} (xs : List α) (f : α → State → State) (s : State) : State := xs.foldl (fun t x => f x t) s

/-! ### The serial flash: 65,536 bytes, an unlisted byte reads 0xFF (log 7) -/

/-- A list of cells in canonical form: addresses strictly rising from `lo`, and no listed 0xFF. -/
def flashWfFrom : Nat → List Host.Cell → Bool
  | _, [] => true
  | lo, (a, b) :: m => decide (lo ≤ a) && decide (a < 65536) && b != 0xFF#8 && flashWfFrom (a + 1) m

/-- The canonical form of the flash. -/
def Memory.wf (m : List Host.Cell) : Bool := flashWfFrom 0 m

/-- Read one byte of the flash. -/
def flashRead : List Host.Cell → Nat → Byte
  | [], _ => 0xFF#8
  | (a, b) :: m, x => if x = a then b else if x < a then 0xFF#8 else flashRead m x

/-- The `n` bytes from an address on. -/
def flashRange (m : List Host.Cell) : Nat → Nat → List Byte
  | _, 0 => []
  | a, n + 1 => flashRead m a :: flashRange m (a + 1) n

/-- Set one byte, keeping the canonical form: writing 0xFF removes the entry. -/
def flashPut : List Host.Cell → Nat → Byte → List Host.Cell
  | [], x, v => if v = 0xFF#8 then [] else [(x, v)]
  | (a, b) :: m, x, v =>
    if x < a then (if v = 0xFF#8 then (a, b) :: m else (x, v) :: (a, b) :: m)
    else if x = a then (if v = 0xFF#8 then m else (x, v) :: m)
    else (a, b) :: flashPut m x v

/-- Set consecutive bytes from an address on, ignoring addresses past the end of the array. -/
def flashPutAll : List Host.Cell → Nat → List Byte → List Host.Cell
  | m, _, [] => m
  | m, a, v :: vs => flashPutAll (if a < 65536 then flashPut m a v else m) (a + 1) vs

/-- Keep the bytes outside `[lo, hi)`: an erased byte reads 0xFF. -/
def flashErase (m : List Host.Cell) (lo hi : Nat) : List Host.Cell :=
  m.filter (fun c => c.1 < lo || hi ≤ c.1)

end Sys2Proof.Machine
end

