-- ==== Sys2Proof/Machine/AddrMap.lean ====
section
/-! DEFINITION. The register space (17_register_map.md R439 to R451, Tables 17.4 to 17.14): which register an address
holds, its access class, and where it may not be reached. -/

namespace Sys2Proof.Machine

/-- The registers of a port block (Table 17.8); `cfg i` is profile word `i` of Table 14.5 at its own address. -/
inductive PortReg where
  | state | stateEvents | profile | txCommit | txCreditState | rxCreditState | lineStatus | lineCheck | lineEvents
  | lineMargin | format | charEvents | charCounts | rateStatus | cfg (i : Fin 24) | pacerStatus | addrStatus | addrCounts
  | frameStatus | frameCounts | afEvents | flowStatus | flowEvents | flowCounts | queueStatus (d : Dir) | thresh (d : Dir)
  | rxqEvents | txqEvents | queueFaults | txqLoss | queueCounts | flushTag
deriving DecidableEq, Repr

/-- Every register of Tables 17.5 to 17.14. -/
inductive Reg where
  | idDevice | idPresent | idMap | idSerial (k : Fin 4) | startStatus | strapStatus | startEvents
  | fuseShadow (w : Fin 32) | benchPsel (p : PortId) | imgWinCtl
  | imgInfo | imgId | imgCrc | imgDevice | imgSections | frameTable (i : Fin 32)
  | port (p : PortId) (r : PortReg)
  | storeStatus (r : RegionId) | storeLow (r : RegionId) | resv (p : PortId) (d : Dir) | regionPower (r : RegionId)
  | regionQueued (r : RegionId)
  | trkStatus | trkDelay | trkSeq | trkReplay | trkCfg | trkEvents | trkCounts | trkLane (k : Fin 4)
  | trkPortLoss (p : PortId)
  | attPend (w : Fin 5) | attPendSet (w : Fin 5) | attPendClr (w : Fin 5) | attMask (w : Fin 5) | attMaskSet (w : Fin 5)
  | attMaskClr (w : Fin 5) | attClaimed (w : Fin 5) | attAsserted (w : Fin 5) | attProc | attEvents | attCtl (s : SrcId)
  | cntLo (i : Fin 32) | cntHi (i : Fin 32) | cntSel (i : Fin 32) | cntOvf | cntClear
  | deviceIndex | portStateCmd | rateCmd | deviceStateCmd | trkWidthCmd | deviceState | powerStatus | powerEvents | rxIlv
  | hostErrors | hostErrRecord | tieGroup (g : Fin 4) | tieStatus | tieCmd | tieDisturbed | queueCmd | freezeStatus
  | parityRecord | portOutage (p : PortId) | svcStatus | svcEvents | svcCounts
  | claim (s : SrcId) | pop (p : PortId) (d : Dir) | peek (p : PortId) (d : Dir) | push (p : PortId)
deriving DecidableEq, Repr

/-- What R258 and R440 need of a register: every field RO; status class with a W1C field; write-only; or other. -/
inductive Acc where
  | ro | w1c | wo | rw
deriving DecidableEq, Repr

/-- The direction of a data window's index. -/
def dirOf (n : Nat) : Dir := if n % 2 = 0 then .rx else .tx

/-- The register at word offset `k` (byte offset 4k) of a port block. -/
def portReg (k : Nat) : Option PortReg :=
  match k with
  | 0 => some .state | 1 => some .stateEvents | 2 => some .profile
  | 12 => some .txCommit | 13 => some .txCreditState | 14 => some .rxCreditState
  | 16 => some .lineStatus | 17 => some .lineCheck | 18 => some .lineEvents | 19 => some .lineMargin
  | 20 => some .format | 21 => some .charEvents | 22 => some .charCounts | 23 => some .rateStatus
  | 24 => some (.cfg 2) | 25 => some (.cfg 3) | 26 => some (.cfg 4) | 27 => some (.cfg 5)
  | 28 => some (.cfg 6) | 29 => some .pacerStatus | 30 => some (.cfg 0) | 31 => some (.cfg 1)
  | 32 => some (.cfg 7) | 33 => some (.cfg 8) | 34 => some (.cfg 9) | 35 => some (.cfg 10) | 36 => some (.cfg 11)
  | 37 => some (.cfg 12) | 38 => some (.cfg 13) | 39 => some (.cfg 14) | 40 => some (.cfg 15)
  | 41 => some .addrStatus | 42 => some .addrCounts | 43 => some (.cfg 16) | 44 => some .frameStatus
  | 45 => some .frameCounts | 46 => some .afEvents | 47 => some (.cfg 17) | 48 => some (.cfg 18) | 49 => some (.cfg 19)
  | 50 => some .flowStatus | 51 => some .flowEvents | 52 => some .flowCounts
  | 53 => some (.queueStatus .rx) | 54 => some (.queueStatus .tx) | 55 => some (.thresh .rx) | 56 => some (.thresh .tx)
  | 57 => some .rxqEvents | 58 => some .txqEvents | 59 => some .queueFaults | 60 => some .txqLoss
  | 61 => some .queueCounts | 62 => some .flushTag
  | _ => none

/-- The register at byte offset `o` of region `r`'s block (Table 17.9). -/
def regionReg (r : RegionId) (o : Nat) : Option Reg :=
  match o with
  | 0x00 => some (.storeStatus r) | 0x04 => some (.storeLow r) | 0x40 => some (.regionPower r)
  | 0x44 => some (.regionQueued r)
  | _ =>
    if h : 0x10 ≤ o ∧ o < 0x30 then some (.resv ⟨4 * r.val + (o - 0x10) / 8, by omega⟩ (dirOf ((o - 0x10) / 4))) else none

/-- The register at word offset `k` of the trunk block. -/
def trunkReg (k : Nat) : Option Reg :=
  match k with
  | 0 => some .trkStatus | 1 => some .trkDelay | 2 => some .trkSeq | 3 => some .trkReplay | 4 => some .trkCfg
  | 5 => some .trkEvents | 6 => some .trkCounts
  | _ =>
    if h : 8 ≤ k ∧ k < 12 then some (.trkLane ⟨k - 8, by omega⟩)
    else if h : 64 ≤ k ∧ k < 80 then some (.trkPortLoss ⟨k - 64, by omega⟩) else none

/-- The register at word offset `k` of the attention block. -/
def attReg (k : Nat) : Option Reg :=
  if h : k < 64 then
    if hw : k % 8 < 5 then
      let w : Fin 5 := ⟨k % 8, hw⟩
      some (match k / 8 with
        | 0 => .attPend w | 1 => .attPendSet w | 2 => .attPendClr w | 3 => .attMask w | 4 => .attMaskSet w
        | 5 => .attMaskClr w | 6 => .attClaimed w | _ => .attAsserted w)
    else none
  else if k = 64 then some .attProc
  else if k = 65 then some .attEvents
  else if h : 256 ≤ k ∧ k < 416 then some (.attCtl ⟨k - 256, by omega⟩)
  else none

/-- The register at word offset `k` of the counter block. -/
def cntReg (k : Nat) : Option Reg :=
  if h : k < 128 then
    let i : Fin 32 := ⟨k / 4, by omega⟩
    match k % 4 with
    | 0 => some (.cntLo i) | 1 => some (.cntHi i) | 2 => some (.cntSel i) | _ => none
  else if k = 128 then some .cntOvf else if k = 129 then some .cntClear else none

/-- The register at byte offset `o` of the state-command block. -/
def cmdReg (o : Nat) : Option Reg :=
  match o with
  | 0x00 => some .deviceIndex | 0x04 => some .portStateCmd | 0x08 => some .rateCmd | 0x0C => some .deviceStateCmd
  | 0x10 => some .trkWidthCmd | 0x14 => some .deviceState | 0x18 => some .powerStatus | 0x1C => some .powerEvents
  | 0x20 => some .rxIlv | 0x30 => some .hostErrors | 0x34 => some .hostErrRecord
  | 0x50 => some .tieStatus | 0x54 => some .tieCmd | 0x58 => some .tieDisturbed | 0x60 => some .queueCmd
  | 0x70 => some .freezeStatus | 0x74 => some .parityRecord
  | 0xC0 => some .svcStatus | 0xC4 => some .svcEvents | 0xC8 => some .svcCounts
  | _ =>
    if h : 0x40 ≤ o ∧ o < 0x50 then some (.tieGroup ⟨(o - 0x40) / 4, by omega⟩)
    else if h : 0x80 ≤ o ∧ o < 0xC0 then some (.portOutage ⟨(o - 0x80) / 4, by omega⟩) else none

/-- The register of the identity, fuse and image blocks at byte address `a`. -/
def lowReg (a : Nat) : Option Reg :=
  match a with
  | 0x000 => some .idDevice | 0x004 => some .idPresent | 0x008 => some .idMap
  | 0x010 => some (.idSerial 0) | 0x014 => some (.idSerial 1) | 0x018 => some (.idSerial 2) | 0x01C => some (.idSerial 3)
  | 0x040 => some .startStatus | 0x044 => some .strapStatus | 0x048 => some .startEvents
  | 0x300 => some .imgWinCtl
  | 0x400 => some .imgInfo | 0x404 => some .imgId | 0x408 => some .imgCrc | 0x40C => some .imgDevice
  | 0x410 => some .imgSections
  | _ =>
    if h : 0x100 ≤ a ∧ a < 0x180 then some (.fuseShadow ⟨(a - 0x100) / 4, by omega⟩)
    else if h : 0x200 ≤ a ∧ a < 0x240 then some (.benchPsel ⟨(a - 0x200) / 4, by omega⟩)
    else if h : 0x480 ≤ a ∧ a < 0x500 then some (.frameTable ⟨(a - 0x480) / 4, by omega⟩) else none

/-- The register of the claim and data window blocks (Table 17.14). -/
def highReg (a : Nat) : Option Reg :=
  if h : 0x7000 ≤ a ∧ a < 0x7280 then some (.claim ⟨(a - 0x7000) / 4, by omega⟩)
  else if h : 0x8000 ≤ a ∧ a < 0x10000 then
    let p : PortId := ⟨(a - 0x8000) / 0x800, by omega⟩
    let d := dirOf ((a - 0x8000) / 0x400)
    match a % 0x400 with
    | 0 => some (.pop p d) | 4 => some (.peek p d) | 8 => (if d = .tx then some (.push p) else none)
    | _ => none
  else none

/-- The register that holds byte address `b`, if any (R442, R451). -/
def regAt (b : Nat) : Option Reg :=
  let a := b / 4 * 4
  if a < 0x1000 then lowReg a
  else if h : a < 0x2000 then (portReg (a % 256 / 4)).map (fun r => .port ⟨(a - 0x1000) / 256 % 16, by omega⟩ r)
  else if h : a < 0x2400 then regionReg ⟨(a - 0x2000) / 256 % 4, by omega⟩ (a % 256)
  else if a < 0x3000 then none
  else if a < 0x4000 then trunkReg ((a - 0x3000) / 4)
  else if a < 0x5000 then attReg ((a - 0x4000) / 4)
  else if a < 0x6000 then cntReg ((a - 0x5000) / 4)
  else if a < 0x7000 then cmdReg (a - 0x6000)
  else highReg a

/-- The access class of a register (Tables 17.5 to 17.14). -/
def Reg.acc : Reg → Acc
  | .startEvents | .storeLow _ | .trkEvents | .attEvents | .cntOvf | .powerEvents | .hostErrors | .tieStatus
  | .tieDisturbed | .parityRecord | .svcEvents => .w1c
  | .port _ r => match r with
    | .stateEvents | .profile | .lineEvents | .charEvents | .afEvents | .flowEvents | .rxqEvents | .txqEvents
    | .queueFaults => .w1c
    | .format | .cfg _ | .thresh _ => .rw
    | _ => .ro
  | .benchPsel _ | .imgWinCtl | .imgDevice | .frameTable _ | .resv _ _ | .trkCfg | .attProc | .attCtl _ | .cntSel _
  | .deviceIndex | .rxIlv | .tieGroup _ | .claim _ => .rw
  | .attPendSet _ | .attPendClr _ | .attMaskSet _ | .attMaskClr _ | .cntClear | .portStateCmd | .rateCmd
  | .deviceStateCmd | .trkWidthCmd | .tieCmd | .queueCmd | .push _ => .wo
  | _ => .ro

/-- SEC registers (R449). -/
def Reg.isSec : Reg → Bool
  | .fuseShadow _ | .benchPsel _ | .imgWinCtl => true
  | _ => false

/-- Single-access registers (R440). -/
def Reg.single : Reg → Bool
  | .port _ .txCommit | .claim _ | .pop _ _ | .peek _ _ | .push _ => true
  | _ => false

/-- The port whose register it is, where R448 speaks of it. -/
def Reg.portOf : Reg → Option PortId
  | .port p _ | .resv p _ | .trkPortLoss p | .portOutage p => some p
  | _ => none

/-- The register belongs to an absent port (R448). -/
def State.regAbsent (s : State) (r : Reg) : Bool :=
  match r.portOf with
  | some p => !s.present p
  | none => match r with
    | .benchPsel p => !s.present p
    | _ => false

/-- The block of an address refuses requests in the present state (Table 17.4): halted, all but identity reads; in Sleep
the attention, counter, claim and data window blocks. -/
def State.blockRefused (s : State) (write : Bool) (b : Nat) : Bool :=
  if s.boot.stage == .halted then write || decide (0x100 ≤ b)
  else s.dev.st == .sleep && (decide (0x4000 ≤ b ∧ b < 0x6000) || decide (0x7000 ≤ b))

/-- The origin may see SEC registers (R262, R358). -/
def State.secure (s : State) (q : Req) : Bool := q.sec && !s.secDeny q.proc

end Sys2Proof.Machine
end

