-- ==== Sys2Proof/Machine/Image.lean ====
section
/-! DEFINITION. The configuration image (14_configuration_image.md R377 to R393; 13 R367, R368): the file in the flash,
the checks Slip makes, and the image shadow it fills. -/

namespace Sys2Proof.Machine

/-- A little-endian half word of the flash. -/
def img16 (m : List Host.Cell) (a : Nat) : BitVec 16 := BitVec.ofNat 16 (leNat (flashRange m a 2))
/-- A little-endian word of the flash. -/
def img32 (m : List Host.Cell) (a : Nat) : Word := BitVec.ofNat 32 (leNat (flashRange m a 4))

/-- A directory entry (Table 14.2). -/
structure Sect where
  typ : Nat
  off : Nat
  size : Nat
  zero : Nat
deriving DecidableEq, Repr

/-- Directory entries of the image: NSECT (Table 14.1). -/
def imgCount (m : List Host.Cell) : Nat := (img16 m 0x0C).toNat
/-- LENGTH. -/
def imgLength (m : List Host.Cell) : Nat := (img16 m 0x06).toNat
/-- The directory. -/
def imgDir (m : List Host.Cell) : List Sect :=
  (List.range (imgCount m)).map (fun i =>
    let a := 16 + 8 * i
    { typ := (img16 m a).toNat, off := (img16 m (a + 2)).toNat, size := (img16 m (a + 4)).toNat,
      zero := (img16 m (a + 6)).toNat })
/-- The section of a type. -/
def imgSect (m : List Host.Cell) (t : Nat) : Option Sect := (imgDir m).find? (fun e => e.typ == t)
/-- The offset of a section, where it is present. -/
def imgOff (m : List Host.Cell) (t : Nat) : Option Nat := (imgSect m t).map (fun e => e.off)

/-! ### Header and directory (R387, R388) -/

/-- LENGTH keeps R378. -/
def lengthOk (m : List Host.Cell) : Bool :=
  decide (1600 ≤ imgLength m ∧ imgLength m ≤ 65532 ∧ imgLength m % 4 = 0)
/-- The CRC-32 stored in the image agrees with R379. -/
def crcOk (m : List Host.Cell) : Bool := img32 m (imgLength m) == crc32 (flashRange m 0 (imgLength m))
/-- Major version, NSECT and the zero bytes of the header. -/
def headerOk (m : List Host.Cell) : Bool :=
  (img16 m 4).extractLsb' 8 8 == 1#8 && decide (2 ≤ imgCount m ∧ imgCount m ≤ 32) && img16 m 0x0E == 0#16

/-- The size Table 14.3 gives a section type; an installer's section has a multiple of 4. -/
def sizeOk (e : Sect) : Bool :=
  match e.typ with
  | 1 => e.size == 32 | 2 => e.size == 1536 | 3 => e.size == 128 | 4 => e.size == 64
  | 5 => e.size == 160 | 6 => e.size == 64
  | _ => decide (0x8000 ≤ e.typ) && e.size % 4 == 0
/-- Two sections share a byte. -/
def Sect.meets (a b : Sect) : Bool := decide (a.off < b.off + b.size ∧ b.off < a.off + a.size)
/-- A section lies between the directory and the CRC, at a multiple of 4. -/
def Sect.placed (len n : Nat) (e : Sect) : Bool :=
  e.off % 4 == 0 && e.zero == 0 && (e.size == 0 || decide (16 + 8 * n ≤ e.off ∧ e.off + e.size ≤ len))
/-- No two entries repeat a type or share a byte. -/
def dirApart : List Sect → Bool
  | [] => true
  | e :: es => es.all (fun x => x.typ != e.typ && !(x.meets e && e.size != 0 && x.size != 0)) && dirApart es
/-- The directory row of Table 14.6. -/
def dirOk (m : List Host.Cell) : Bool :=
  (imgDir m).all (fun e => sizeOk e && e.placed (imgLength m) (imgCount m)) && dirApart (imgDir m) &&
    (imgOff m 1).isSome && (imgOff m 2).isSome

/-! ### Device, profiles, tables (R388) -/

/-- The address of the service host is in its range (Table 14.4). -/
def hostAddrOk (a : BitVec 7) : Bool :=
  decide (0x08 ≤ a.toNat ∧ a.toNat ≤ 0x77 ∧ ¬ (0x58 ≤ a.toNat ∧ a.toNat ≤ 0x5F))
/-- The DEVICE section. -/
def deviceOk (m : List Host.Cell) (a : Nat) : Bool :=
  (img32 m a &&& 0xFFFFFFF0#32) == 0 && (img32 m (a + 4) &&& 0x0000FC00#32) == 0 &&
    (img32 m (a + 8) &&& 0xFFFFFC80#32) == 0 &&
    ([3, 4, 5, 6, 7].all (fun k => img32 m (a + 4 * k) == 0)) && hostAddrOk (bits (img32 m (a + 8)) 0 7)

/-- The defined bits of profile word `i` (Table 14.5 and the registers it names). -/
def profileMask (i : Nat) : Word :=
  match i with
  | 0 => 0xFE0001FC#32
  | 1 => 0xFFFF0FFF#32
  | 6 => 0xFFFF3FFF#32
  | 16 => 0xFFFF1F01#32
  | 17 => 0xCFFFFFFF#32
  | 18 => 0xFFFFFFFF#32
  | 19 => 0xFFFF3FFF#32
  | 20 | 21 => 0x000FFFFF#32
  | 22 | 23 => 0#32
  | _ => if i < 6 then 0x00FFFFFF#32 else 0x0003FFFF#32

/-- The checks of Table 14.6 on PORT_LINE_CFG, formats, rates, PORT_TIMES and reserved bits. -/
def profileFormOk (w : Vector Word 24) : Bool :=
  (List.finRange 24).all (fun i => (w[i] &&& ~~~(profileMask i.val)) == 0) &&
    !w[0].getLsbD 31 && bits w[0] 28 2 != 3#2 && bits w[0] 2 2 != 3#2 && decide ((bits w[0] 4 3).toNat ≤ 4) &&
    (!w[7].getLsbD 17 || bits w[0] 2 2 == 2#2) && (!w[16].getLsbD 0 || bits w[0] 2 2 == 1#2) &&
    !(w[7].getLsbD 17 && w[16].getLsbD 0) &&
    ([w[2], w[3], w[4], w[5]].all (fun d => decide (64 ≤ d.toNat ∧ d.toNat ≤ 10666667) &&
      (bits w[0] 30 2 != 1#2 || decide (200 ≤ d.toNat)))) &&
    decide ((bits w[1] 16 16).toNat ≤ 1000) && decide (11 ≤ (bits w[1] 0 12).toNat)

/-- The flow row of Table 14.6, with the smallest receive reservation of any present port in segments (R162). -/
def profileFlowOk (minRx : Nat) (w : Vector Word 24) : Bool :=
  let f := bits w[17] 30 2
  let nine := bits w[0] 2 2 == 2#2
  let hold := (bits w[18] 0 16).toNat
  let resume := (bits w[18] 16 16).toNat
  f == 0#2 ||
    (f != 3#2 && (nine || (f == 1#2 && !w[16].getLsbD 0)) && decide (16 ≤ hold ∧ hold < resume ∧ hold < 64 * minRx))

/-- A profile of the image. -/
def imgProfile (m : List Host.Cell) (a k : Nat) : Vector Word 24 := Vector.ofFn (fun i => img32 m (a + 96 * k + 4 * i.val))

/-- The reservation words an image gives: its section's, or the built-in ones (R390). -/
def imgResv (m : List Host.Cell) : Vector Word 16 :=
  match imgOff m 4 with
  | some a => Vector.ofFn (fun i => img32 m (a + 4 * i.val))
  | none => Vector.replicate 16 Config.builtinResv
/-- The smallest receive reservation of a present port. -/
def minRxResv (present : BitVec 16) (r : Vector Word 16) : Nat :=
  ((maskPorts present).map (fun p => (bits r[p] 0 16).toNat)).foldl min 65535
/-- The reservations row of Table 14.6. -/
def resvOk (present : BitVec 16) (r : Vector Word 16) : Bool :=
  (maskPorts present).all (fun p =>
    decide (8 ≤ (bits r[p] 0 16).toNat ∧ (bits r[p] 0 16).toNat ≤ 2048) &&
    decide (8 ≤ (bits r[p] 16 16).toNat ∧ (bits r[p] 16 16).toNat ≤ 2048)) &&
  (List.finRange 4).all (fun g =>
    decide ((((maskPorts present).filter (fun p => p.val / 4 == g.val)).map (fun p =>
      (bits r[p] 0 16).toNat + (bits r[p] 16 16).toNat)).sum ≤ Config.maxResv))

/-- Every half word of an optional section keeps a mask of zero bits. -/
def halvesOk (m : List Host.Cell) (o : Option Nat) (n : Nat) (zero : BitVec 16) : Bool :=
  match o with
  | some a => (List.range n).all (fun i => (img16 m (a + 2 * i) &&& zero) == 0)
  | none => true
/-- The zero bits of the ATTENTION section. -/
def attentionOk (m : List Host.Cell) : Bool :=
  match imgOff m 5 with
  | some a => (flashRange m a 160).all (fun b => (b &&& 0xE0#8) == 0)
  | none => true

/-- Every check of Table 14.6. -/
def contentOk (present : BitVec 16) (m : List Host.Cell) : Bool :=
  headerOk m && dirOk m &&
    match imgOff m 1, imgOff m 2 with
    | some d, some p =>
      deviceOk m d && resvOk present (imgResv m) &&
        (List.range 16).all (fun k => profileFormOk (imgProfile m p k) &&
          profileFlowOk (minRxResv present (imgResv m)) (imgProfile m p k)) &&
        halvesOk m (imgOff m 3) 64 0x1C00#16 && attentionOk m && halvesOk m (imgOff m 6) 32 0xFC00#16
    | _, _ => false

/-! ### Outcome and shadow (R387, R393) -/

/-- SLIP_RESULT of Table 13.5. -/
def slipOutcome (present : BitVec 16) (m : List Host.Cell) : BitVec 2 :=
  if img32 m 0 != 0x4F4C554C#32 then 1
  else if !lengthOk m || !crcOk m then 2
  else if !contentOk present m then 3 else 0

/-- The image shadow a good image gives; an absent section keeps its built-in default (R390). -/
def imgShadow (m : List Host.Cell) : Image :=
  let d := (imgOff m 1).getD 0
  let p := (imgOff m 2).getD 0
  let builtin : Image := {}
  { dev0 := img32 m d
    trkCfg := img32 m (d + 4)
    dev2 := img32 m (d + 8)
    profiles := Vector.ofFn (fun k => imgProfile m p k.val)
    frames := match imgOff m 3 with
      | some a => Vector.ofFn (fun i => img16 m (a + 2 * i.val))
      | none => builtin.frames
    resv := imgResv m
    att := match imgOff m 5 with
      | some a => Vector.ofFn (fun i => flashRead m (a + i.val))
      | none => builtin.att
    cnts := match imgOff m 6 with
      | some a => Vector.ofFn (fun i => img16 m (a + 2 * i.val))
      | none => builtin.cnts }

/-- PRESENT of IMG_SECTIONS: section types 1 to 6 of a good image (Table 14.9). -/
def imgSections (m : List Host.Cell) : BitVec 6 :=
  (List.range 6).foldl (fun v t => if (imgOff m (t + 1)).isSome then v ||| oneBit 6 t else v) 0

end Sys2Proof.Machine
end

