-- ==== Sys2Proof/Machine/Sieve.lean ====
section
/-! DEFINITION. Items (02_ordering_contract.md R39 to R46), one queue's lanes, segments and epochs, and the Sieve read
decision (07_queues_and_store.md R182 to R202, R284). Everything here is a function of one queue and the number of
free pool segments of its region. -/

namespace Sys2Proof.Machine

/-! ### Items -/

/-- A mark item: bit 15 of its first cell (R39). -/
def Item.isMark (i : Item) : Bool := i.cell.getLsbD 15
/-- The TYPE field of a mark (R41). -/
def Item.typ (i : Item) : BitVec 5 := i.cell.extractLsb' 10 5
/-- The ARG field of a mark (R41). -/
def Item.arg (i : Item) : BitVec 10 := i.cell.extractLsb' 0 10
/-- The item is the mark of a type. -/
def Item.isType (i : Item) (t : BitVec 5) : Bool := i.isMark && i.typ == t
/-- A barrier (R42): TIE, FLUSH, and a GAP with its extension (R267). -/
def Item.barrier (i : Item) : Bool :=
  i.isMark && (i.typ == 7#5 || i.typ == 8#5 || (i.typ == 2#5 && i.ext.isSome))

/-- A mark of one cell (R41). -/
def mark1 (t : BitVec 5) (arg : BitVec 10) : Item :=
  { cell := 0x8000#16 ||| (t.setWidth 16 <<< 10) ||| arg.setWidth 16, ext := none }
/-- A mark of two cells (R41). -/
def mark2 (t : BitVec 5) (arg : BitVec 10) (ext : CellW) : Item :=
  { cell := 0x8000#16 ||| (t.setWidth 16 <<< 10) ||| arg.setWidth 16, ext := some ext }
/-- A BREAK mark (Table 2.2); the length saturates. -/
def breakMark (stuck : Bool) (len : Nat) : Item :=
  mark2 1 (if stuck then 1 else 0) (BitVec.ofNat 16 (min len 0xFFFF))
/-- A GAP mark: the reason and the loss count, unknown as 0x3F_FFFF (R45, R46). -/
def gapMark (reason : BitVec 4) (count : Option Nat) : Item :=
  let c : BitVec 22 := match count with
    | some n => BitVec.ofNat 22 (min n Config.maxLoss)
    | none => 0x3FFFFF#22
  mark2 2 ((reason.setWidth 10 <<< 6) ||| (c.extractLsb' 16 6).setWidth 10) (c.extractLsb' 0 16)
/-- A LINE mark (Table 2.2). -/
def lineMark (scope : BitVec 2) (code : Nat) : Item :=
  mark1 9 ((scope.setWidth 10 <<< 8) ||| BitVec.ofNat 10 (code % 256))
/-- A RATE mark (Table 2.2). -/
def rateMark (before after : BitVec 2) : Item := mark1 10 ((before.setWidth 10 <<< 2) ||| after.setWidth 10)
/-- The FLUSH the Lulos writes (R206). -/
def flushMark : Item := mark1 8 0
/-- A character cell as written into a receive queue (Table 2.1): condition and character. -/
def charItem (cond : BitVec 3) (ch : BitVec 9) : Item :=
  { cell := (cond.setWidth 16 <<< 11) ||| ch.setWidth 16, ext := none }
/-- An item with its URGENT bit as its lane gives it; marks carry none (Table 2.1, R42, R50). -/
def Item.withUrgent (i : Item) (u : Bool) : Item :=
  if i.isMark then i
  else { i with cell := if u then i.cell ||| 0x4000#16 else i.cell &&& 0xBFFF#16 }

/-- Waiting events of a list of entries. -/
def notesOf (es : List Entry) : List Note := (es.map (fun e => e.notes)).flatten

/-! ### Loss records (R46, R47) -/

/-- Sum of two loss counts with saturation; any unknown part makes it unknown. -/
def addLoss : Option Nat → Option Nat → Option Nat
  | some a, some b => some (min (a + b) Config.maxLoss)
  | _, _ => none

/-- A loss joins the pending record, or opens one (R47). -/
def joinLoss (p : Option Loss) (reason : BitVec 4) (count : Option Nat) (notes : List Note) : Option Loss :=
  match p with
  | none => some { reason := reason, count := addLoss count (some 0), notes := notes }
  | some r => some { r with count := addLoss r.count count, notes := r.notes ++ notes }

/-! ### Space (R186 to R188, R162, R273) -/

/-- Unwritten cells of the open tail segment. -/
def Queue.tailFree (q : Queue) : Nat := (q.segs.getLast?.map (fun g => g.cells)).getD 0 - q.tailUsed
/-- Unwritten cells of a reserved segment that is set aside: the guard's (R162; log 19). -/
def Queue.spare (q : Queue) : Nat := (q.segs.map (fun g => g.spare)).sum
/-- Free cells of the queue (R188). -/
def Queue.freeCells (q : Queue) (pool : Nat) : Nat := 64 * q.freeOwn + 64 * pool + q.spare + q.tailFree
/-- The tail segment is a reserved one. -/
def Queue.tailReserved (q : Queue) : Bool := q.segs.getLast?.any (fun g => g.reserved)
/-- Free reserved cells (R162). -/
def Queue.freeReserved (q : Queue) : Nat := 64 * q.freeOwn + q.spare + (if q.tailReserved then q.tailFree else 0)
/-- Reserved segments the queue holds. -/
def Queue.ownSegs (q : Queue) : Nat := (q.segs.filter (fun g => g.last && g.reserved)).length
/-- Pool segments the queue holds. -/
def Queue.poolSegs (q : Queue) : Nat := (q.segs.filter (fun g => g.last && !g.reserved)).length
/-- Room: free reserved cells beyond the guard and the pool's free cells (R162). -/
def Queue.room (q : Queue) (guard pool : Nat) : Nat :=
  (q.freeReserved - guard) + 64 * pool + (if q.tailReserved then 0 else q.tailFree)
/-- Segments the queue holds, those a reclaim has not yet returned included (R215). -/
def Queue.held (q : Queue) : Nat := q.ownSegs + q.poolSegs + q.reclaimOwn + q.reclaimPool
/-- Credit space S (R273). -/
def Queue.creditSpace (q : Queue) (resv : Nat) : Nat := 64 * resv + q.tailFree - 64 * q.held

/-- Go on with reserved cells: those of the segment set aside, else of the next one of the queue's own list. -/
def Queue.takeOwn (q : Queue) : Queue :=
  if 0 < q.spare then
    { q with
      segs := q.segs.map (fun g => if 0 < g.spare then { g with spare := 0, last := false } else g) ++
        [{ reserved := true, cells := q.spare }]
      tailUsed := 0 }
  else { q with freeOwn := q.freeOwn - 1, segs := q.segs ++ [{ reserved := true }], tailUsed := 0 }

/-- Take the next segment: reserved cells while one is left outside the guard, else the pool's, else the guard's (R15, R187,
R162). -/
def Queue.takeSeg (q : Queue) (guard pool : Nat) : Queue × Nat :=
  if 0 < q.freeOwn + q.spare ∧ (guard < 64 * q.freeOwn + q.spare ∨ pool = 0) then (q.takeOwn, pool)
  else if 0 < pool then ({ q with segs := q.segs ++ [{ reserved := false }], tailUsed := 0 }, pool - 1)
  else (q, pool)

/-- Set the open tail segment aside: its unwritten cells are the guard's, and the pool has free cells (R162; log 19, DESIGN
CHOICE). Where all that was written of it has been read it returns to the queue's own list instead (R186). -/
def Queue.setAside (q : Queue) : Queue :=
  if q.segs.length = 1 && q.headRead == q.tailUsed then { q with segs := [], headRead := 0, freeOwn := q.freeOwn + 1 }
  else { q with segs := q.segs.dropLast ++
    (q.segs.getLast?.map (fun g => { g with cells := q.tailUsed, spare := q.tailFree })).toList }

/-- The next cell of the open tail segment is in the guard though the queue has room: guard cells are taken only where the
room is 0 (R162). -/
def Queue.tailGuarded (q : Queue) (guard pool : Nat) : Bool :=
  q.tailReserved && decide (0 < q.tailFree ∧ q.freeReserved ≤ guard ∧ 0 < pool)

/-- Write one cell into the store (R186). -/
def Queue.writeCell (q : Queue) (guard pool : Nat) : Queue × Nat :=
  let r := if q.tailGuarded guard pool then q.setAside.takeSeg guard pool
    else if q.tailFree = 0 then q.takeSeg guard pool else (q, pool)
  ({ r.1 with tailUsed := r.1.tailUsed + 1 }, r.2)

/-- Read one cell from the head segment; a segment whose last cell is read returns to its list (R186). -/
def Queue.readCell (q : Queue) (pool : Nat) : Queue × Nat :=
  match q.segs with
  | [] => (q, pool)
  | g :: t =>
    if q.headRead + 1 < g.cells then ({ q with headRead := q.headRead + 1 }, pool)
    else
      let q := { q with headRead := 0, segs := t }
      if !g.last then (q, pool)
      else if g.reserved then ({ q with freeOwn := q.freeOwn + 1 }, pool)
      else (q, pool + 1)

/-- Write an item's cells. -/
def Queue.writeItem (q : Queue) (guard pool n : Nat) : Queue × Nat :=
  let r := q.writeCell guard pool
  if n = 2 then r.1.writeCell guard r.2 else r

/-- Read an item's cells. -/
def Queue.readItem (q : Queue) (pool n : Nat) : Queue × Nat :=
  let r := q.readCell pool
  if n = 2 then r.1.readCell r.2 else r

/-- Fetch whole items from the store into the settling chain while they fit its 16 stages (R184, R44). -/
def Queue.refillFrom : List Entry → Queue → Nat → Queue × Nat
  | [], q, pool => ({ q with store := [] }, pool)
  | e :: es, q, pool =>
    if cellsOf q.chain + e.item.cells ≤ Config.chainCells then
      let r := q.readItem pool e.item.cells
      Queue.refillFrom es { r.1 with chain := r.1.chain ++ [e] } r.2
    else ({ q with store := e :: es }, pool)

/-- Fetch what fits. -/
def Queue.refill (q : Queue) (pool : Nat) : Queue × Nat := Queue.refillFrom q.store q pool

/-! ### Entry (R185, R190 to R192, R197, R198) -/

/-- The item begins a packet (R51, Table 2.4). -/
def Queue.begins (q : Queue) (f : QFmt) (i : Item) : Bool :=
  i.barrier || !q.isOpen ||
    match f with
    | .each => true
    | .addrRx => i.isType 3#5 || (!i.isMark && i.cell.getLsbD 8 && !q.lastMatch)
    | .addrTx => !i.isMark && i.cell.getLsbD 8
    | .frame => i.isType 4#5 || !q.inFrame

/-- The item leaves its packet open for more items (R192). -/
def Queue.staysOpen (q : Queue) (f : QFmt) (i : Item) : Bool :=
  !i.barrier &&
    match f with
    | .each => false
    | .addrRx | .addrTx => true
    | .frame => i.isType 4#5 || (q.inFrame && !i.isType 5#5 && !i.isType 6#5)

/-- Where the queue stands in its frames once an item has passed, entered or lost on its way in: a frame begins with its
FRAME_START and ends with FRAME_END or FRAME_ERR (Table 2.4). -/
def Queue.frameAfter (q : Queue) (f : QFmt) (i : Item) : Bool :=
  f == .frame && (i.isType 4#5 || (q.inFrame && !i.isType 5#5 && !i.isType 6#5))

/-- An item offered to the queue is lost: it takes no place there, and the frame it begins or ends is begun or ended for
the items behind it (R51). -/
def Queue.passBy (q : Queue) (f : QFmt) (i : Item) : Queue := { q with inFrame := q.frameAfter f i }

/-- The epoch distance (R190). -/
def Queue.epochDist (q : Queue) : Nat := (q.wEpoch - q.rEpoch).toNat

/-- Set the pinned bits of the last packet in a lane: the entries from its last packet start on. -/
def pinLast (es : List Entry) : List Entry :=
  let tail := es.reverse.takeWhile (fun e => !e.start)
  let n := tail.length + 1
  es.take (es.length - n) ++ (es.drop (es.length - n)).map (fun e => { e with pinned := true })

/-- The packet bookkeeping after an item has entered. -/
def Queue.noteEntry (q : Queue) (f : QFmt) (i : Item) (lane : QLane) : Queue :=
  { q with
    isOpen := q.staysOpen f i
    openLane := lane
    lastMatch := i.isType 3#5
    inFrame := q.frameAfter f i
    wEpoch := if i.barrier then q.wEpoch + 1 else q.wEpoch }

/-- DEMOTING as the offered item finds it (R197): cleared where it begins a packet and the urgent lane is empty. -/
def Queue.demotingAt (q : Queue) (f : QFmt) (i : Item) : Bool :=
  q.demoting && !(q.begins f i && q.urg.isEmpty)

/-- An urgent item is demoted (R191, R197). -/
def Queue.mustDemote (q : Queue) (f : QFmt) (i : Item) : Bool :=
  q.demotingAt f i || decide (Config.urgentStages < cellsOf q.urg + i.cells) || decide (128 ≤ q.epochDist)

/-- The entry of an urgent item begins a demotion (R197). -/
def Queue.demotes (q : Queue) (f : QFmt) (i : Item) (urgent : Bool) : Bool :=
  urgent && !i.barrier && q.mustDemote f i && !q.demotingAt f i

/-- Put an item into the bulk path: store write, then the settling chain as it has room (R184). -/
def Queue.pushBulk (q : Queue) (f : QFmt) (guard pool : Nat) (e : Entry) : Queue × Nat :=
  let r := q.writeItem guard pool e.item.cells
  let q1 := { r.1 with store := r.1.store ++ [e], bulkIn := r.1.bulkIn + 1 }
  (q1.noteEntry f e.item .bulk).refill r.2

/-- What the entry of an item answers: the queue and the pool. -/
structure Entered where
  q : Queue
  pool : Nat
deriving DecidableEq, Repr

/-- Enter one item (R183 to R185, R190, R197, R198): none where the queue cannot take it. `order` is the place of the host
write it belongs to (R275). -/
def Queue.enter (q : Queue) (f : QFmt) (guard pool : Nat) (i : Item) (urgent : Bool) (notes : List Note)
    (order : Option Nat) : Option Entered :=
  let start := q.begins f i
  let was := q.demotingAt f i
  if urgent && !i.barrier && !q.mustDemote f i then
    let e : Entry := { item := i.withUrgent true, start := start, tag := q.wEpoch, notes := notes, order := order }
    some { q := ({ q with demoting := was, urg := q.urg ++ [e] }).noteEntry f i .urgent, pool := pool }
  else if q.freeCells pool < i.cells then none
  else
    let demote := urgent && !i.barrier
    let pin := demote && !start && q.isOpen && q.openLane == .urgent
    let q1 := if pin then { q with urg := pinLast q.urg, pinPos := q.bulkIn, pinValid := true } else q
    let q2 := { q1 with demoting := was || demote }
    let e : Entry := { item := i.withUrgent false, start := start, tag := q.wEpoch, notes := notes, order := order }
    let r := q2.pushBulk f guard pool e
    some { q := r.1, pool := r.2 }

/-! ### The read decision (R195) -/

/-- The packet at the head of the urgent lane is closed (R192). Where a packet's items travel in both lanes, as a host may tag
them, its urgent part is closed as soon as a bulk item of it has entered (log 150, DESIGN CHOICE). -/
def Queue.headClosed (q : Queue) : Bool :=
  !(q.isOpen && q.openLane == .urgent) || (q.urg.drop 1).any (fun e => e.start)

/-- The bulk read has reached *pin_pos*: the pinned packet leaves next, its urgent part before its tail (R198). -/
def Queue.atPin (q : Queue) : Bool := q.pinValid && q.bulkLeft == q.pinPos

/-- The packet being served: a bulk packet whose last item has left is served no longer (log 17), and the tail of a pinned
packet, which begins at *pin_pos*, is no part of the packet before it (R198). -/
def Queue.servingNow (q : Queue) : Serving :=
  if q.serving == .bulk && (q.atPin ||
      (match q.chain with
       | [] => !(q.isOpen && q.openLane == .bulk)
       | e :: _ => e.start)) then .none
  else q.serving

/-- What R195 chooses. -/
inductive Pick where
  | nothing | lane (s : Serving) | barrier
deriving DecidableEq, Repr

/-- The head of the urgent lane carries the read epoch. -/
def Queue.headOfEpoch (q : Queue) : Bool :=
  match q.urg with
  | [] => false
  | u :: _ => u.tag == q.rEpoch

/-- The choice between packets and within one (R195, R196). -/
def Queue.pick (q : Queue) : Pick :=
  match q.servingNow with
  | .urgent => if q.urg.isEmpty then .nothing else .lane .urgent
  | .pinned => if q.urg.isEmpty then .nothing else .lane .pinned
  | .bulk => if q.chain.isEmpty then .nothing else .lane .bulk
  | .none =>
    if q.atPin && !q.urg.isEmpty then .lane .pinned
    else if q.headOfEpoch && !(q.urg.take 1).any (fun e => e.pinned) && q.headClosed then .lane .urgent
    else
      match q.chain with
      | [] => .nothing
      | b :: _ => if b.item.barrier then (if q.headOfEpoch then .nothing else .barrier) else .lane .bulk

/-- What one read answers: the entry, the lane it stood in, the queue after and the pool after. -/
structure Taken where
  e : Entry
  lane : QLane
  q : Queue
  pool : Nat
deriving DecidableEq, Repr

/-- Take the head of the bulk lane and fetch the next cells. -/
def Queue.takeBulk (q : Queue) (pool : Nat) (sv : Serving) : Option Taken :=
  match q.chain with
  | [] => none
  | e :: es =>
    let r := ({ q with chain := es, bulkLeft := q.bulkLeft + 1 }).refill pool
    let q1 := { r.1 with serving := sv }
    some { e := e, lane := .bulk, q := { q1 with serving := q1.servingNow }, pool := r.2 }

/-- Take the head of the urgent lane; where its packet ends, the demoted tail of a pinned packet is served next
(R195). -/
def Queue.takeUrgent (q : Queue) (pool : Nat) (sv : Serving) : Option Taken :=
  match q.urg with
  | [] => none
  | e :: es =>
    let ends := match es with
      | [] => true
      | n :: _ => n.start
    let q1 := { q with urg := es }
    let q2 :=
      if !ends then { q1 with serving := sv }
      else if sv == .pinned && e.pinned then { q1 with serving := .bulk, pinValid := false }
      else { q1 with serving := .none }
    some { e := e, lane := .urgent, q := q2, pool := pool }

/-- The Sieve: the next whole item, or nothing (R195). -/
def Queue.sieveNext (q : Queue) (pool : Nat) : Option Taken :=
  match q.pick with
  | .nothing => none
  | .barrier => ({ q with rEpoch := q.rEpoch + 1 }).takeBulk pool .none
  | .lane .urgent => q.takeUrgent pool .urgent
  | .lane .pinned => q.takeUrgent pool .pinned
  | .lane _ => q.takeBulk pool .bulk

/-- The barrier the Sieve would take next leaves the settling chain, and no cell is fetched for it. -/
def Queue.passBarrier (q : Queue) : Queue :=
  match q.pick with
  | .barrier => { q with chain := q.chain.drop 1, bulkLeft := q.bulkLeft + 1, rEpoch := q.rEpoch + 1, serving := .none }
  | _ => q

/-- The entry R195 would take, without taking it. -/
def Queue.peekNext (q : Queue) : Option (Entry × QLane) :=
  match q.pick with
  | .nothing => none
  | .barrier => q.chain.head?.map (fun e => (e, .bulk))
  | .lane .urgent => q.urg.head?.map (fun e => (e, .urgent))
  | .lane .pinned => q.urg.head?.map (fun e => (e, .urgent))
  | .lane _ => q.chain.head?.map (fun e => (e, .bulk))

/-! ### Flushes (R205 to R207) -/

/-- The queue's flush is across and waits for its boundary. -/
def Queue.flushing (q : Queue) : Bool :=
  match q.flush with
  | .crossed _ _ => true
  | _ => false
/-- The queue stands between packets, so a crossed flush is at its boundary (R205). -/
def Queue.betweenPackets (q : Queue) : Bool := !q.isOpen
/-- A pending loss or an owed FLUSH goes first: the queue accepts no item (R47, R206). -/
def Queue.blocked (q : Queue) : Bool := q.pend.isSome || q.flushOwed != 0

/-! ### Readable items (R194, R305) -/

/-- Index of the first entry of the open urgent packet, or the lane's length where none is open. -/
def Queue.openFrom (q : Queue) : Nat :=
  if q.isOpen && q.openLane == .urgent then q.urg.length - 1 - (q.urg.reverse.takeWhile (fun e => !e.start)).length
  else q.urg.length

/-- Bulk items that leave before the pinned packet (R198). -/
def Queue.beforePin (q : Queue) : Nat := (q.pinPos - q.bulkLeft).toNat

/-- The bulk packet whose next item stands at index `j` of the settling chain has wholly come that far: the chain holds the
first item of a later packet, or nothing of the packet is in the store and it is closed (R192, R194). -/
def Queue.endInChain (q : Queue) (j : Nat) : Bool :=
  (q.chain.drop j).any (fun e => e.start) || (q.store.isEmpty && !(q.isOpen && q.openLane == .bulk))

/-- What is left of the bulk packet that is being served, which an urgent item must follow, is in the settling chain (R52,
R194). -/
def Queue.servedInChain (q : Queue) : Bool :=
  q.servingNow != .bulk || (q.pinValid && decide (q.beforePin ≤ q.chain.length)) || q.endInChain 0

/-- The tail of the pinned packet, which the urgent items behind its pinned part must follow, is in the settling chain
(R194, R198). -/
def Queue.tailInChain (q : Queue) : Bool := decide (q.beforePin ≤ q.chain.length) && q.endInChain q.beforePin

/-- The urgent entry at index `k` is readable: its packet is closed or pinned, and every item that must leave before it is
in the urgent lane or the settling chain (R194). -/
def Queue.urgReadable (q : Queue) (k : Nat) (e : Entry) : Bool :=
  let barriers := (q.chain.filter (fun b => b.item.barrier)).length
  let behindPin := q.pinValid && (q.urg.take k).any (fun x => x.pinned)
  decide ((e.tag - q.rEpoch).toNat ≤ barriers) && q.servedInChain &&
    if e.pinned then decide (q.beforePin ≤ q.chain.length)
    else decide (k < q.openFrom) && (!behindPin || q.tailInChain)

/-- The notes of the items that are readable, and the queue with those notes delivered. -/
def Queue.deliver (q : Queue) : List Note × Queue :=
  let us := q.urg.zipIdx
  let ready := us.filter (fun u => q.urgReadable u.2 u.1)
  (notesOf q.chain ++ notesOf (ready.map (fun u => u.1)),
   { q with
     chain := q.chain.map (fun e => { e with notes := [] })
     urg := us.map (fun u => if q.urgReadable u.2 u.1 then { u.1 with notes := [] } else u.1) })

/-! ### Discards (R209, R284, R215) -/

/-- All waiting notes of a queue's items. -/
def Queue.allNotes (q : Queue) : List Note := notesOf q.urg ++ notesOf q.chain ++ notesOf q.store

/-- Discard every item (R284); the segments go to the reclaim (a reset, R215) or back to their lists. -/
def Queue.clear (q : Queue) (toReclaim : Bool) (pool : Nat) : Queue × Nat :=
  let own := q.ownSegs
  let pl := q.poolSegs
  let q1 := { q with
    urg := [], store := [], chain := [], rEpoch := q.wEpoch, demoting := false, pinValid := false,
    serving := .none, bulkLeft := q.bulkIn, segs := [], headRead := 0, tailUsed := 0 }
  if toReclaim then ({ q1 with reclaimOwn := q.reclaimOwn + own, reclaimPool := q.reclaimPool + pl }, pool)
  else ({ q1 with freeOwn := q.freeOwn + own }, pool + pl)

end Sys2Proof.Machine
end

