-- ==== Sys2Proof/Machine/Blocks.lean ====
section
/-! DEFINITION. Trunk blocks as bytes (08_trunk_link.md R231 to R238, R241, R247; 09_trunk_transactions.md R255, R259,
R265 to R267): the slot packing in both directions, the words and the CRC of a stored block, and stubs. -/

namespace Sys2Proof.Machine

/-! ### Packing (R234, R235) -/

/-- An item that one slot carries: a character of condition 000 with the block's urgency, and bit 8 clear unless the
slots have nine bits. -/
def Item.plain (i : Item) (nine urgent : Bool) : Bool :=
  i.ext.isNone && (i.cell.extractLsb' 9 5 == 0#5) && !i.isMark && (i.cell.getLsbD 14 == urgent) &&
    (nine || !i.cell.getLsbD 8)

/-- The two slots of one escaped cell, low bits first. -/
def cellSlots (nine : Bool) (c : CellW) : List Nat :=
  if nine then [c.toNat % 512, c.toNat / 512] else [c.toNat % 256, c.toNat / 256]

/-- Slots and escape entries of a list of items, from slot `pos` on. -/
def slotItems (nine urgent : Bool) : List Item → Nat → List Nat × List EscEntry
  | [], _ => ([], [])
  | i :: is, pos =>
    if i.plain nine urgent then
      let r := slotItems nine urgent is (pos + 1)
      (i.cell.toNat % 512 :: r.1, r.2)
    else
      let own := cellSlots nine i.cell ++ (match i.ext with
        | some x => cellSlots nine x
        | none => [])
      let r := slotItems nine urgent is (pos + own.length)
      (own ++ r.1, { two := i.ext.isSome, slot := BitVec.ofNat 10 pos } :: r.2)

/-- Bytes of a bit stream held as a number, low bits first. -/
def natBytes : Nat → Nat → List Byte
  | 0, _ => []
  | n + 1, v => BitVec.ofNat 8 v :: natBytes n (v / 256)

/-- Nine-bit slots as one number, least significant first. -/
def slotStream : List Nat → Nat
  | [] => 0
  | x :: xs => x % 512 + 512 * slotStream xs

/-- Payload bytes of slots: one byte each, or nine bits each with the last byte filled with zeros. -/
def slotBytes (nine : Bool) (xs : List Nat) : List Byte :=
  if nine then natBytes ((9 * xs.length + 7) / 8) (slotStream xs) else xs.map (BitVec.ofNat 8)

/-- The payload and escape entries of items under a PACK code. -/
def packItems (pack : BitVec 2) (urgent : Bool) (is : List Item) : List Byte × List EscEntry :=
  if pack = 0#2 then
    ((is.map (fun i => cellBytes i.cell ++ (match i.ext with
      | some x => cellBytes x
      | none => []))).flatten, [])
  else
    let r := slotItems (pack == 2#2) urgent is 0
    (slotBytes (pack == 2#2) r.1, r.2)

/-- Payload bytes and escape entries that items take, counted without making them. -/
def packSize (pack : BitVec 2) (urgent : Bool) (is : List Item) : Nat × Nat :=
  if pack = 0#2 then (2 * (is.map Item.cells).sum, 0)
  else
    let r := is.foldl (fun (r : Nat × Nat) i =>
      if i.plain (pack == 2#2) urgent then (r.1 + 1, r.2) else (r.1 + 2 * i.cells, r.2 + 1)) (0, 0)
    (if pack = 2#2 then (9 * r.1 + 7) / 8 else r.1, r.2)

/-- Items that need an escape under a slot packing. -/
def escapesOf (nine urgent : Bool) (is : List Item) : Nat := (is.filter (fun i => !i.plain nine urgent)).length

/-! ### Blocks as bytes (R232 to R236, R244, R255) -/

/-- One escape entry (Table 8.7). -/
def escWord (e : EscEntry) : CellW := (if e.two then 0x8000#16 else 0#16) ||| e.slot.setWidth 16

/-- The block classes of Table 8.5. -/
inductive BlkClass where
  | data | interleaved | control | link
deriving DecidableEq, Repr

/-- The class TYPE names in WORD0; none where it is reserved (R232). -/
def blockClass (w : Word) : Option BlkClass :=
  match (bits w 28 4).toNat with
  | 1 => some .data | 2 => some .interleaved | 4 => some .control | 8 => some .link
  | _ => none

/-- WORD0 of a sequenced block. -/
def word0 (typ : BitVec 4) (seq : BitVec 12) (low : BitVec 16) : Word := fld 28 typ ||| fld 16 seq ||| fld 0 low

/-- The items of an interleaved block in payload order: rounds, then ports ascending (R236). -/
def ilvOrder (stride rounds : Nat) (runs : List (PortId × List Item)) : List Item :=
  ((List.range rounds).map (fun r => (runs.map (fun x => (x.2.drop (r * stride)).take stride)).flatten)).flatten

/-- A stored block as it stands in the replay buffer: header or body, CRC and payload, without SBK, EBK and PAD. -/
def blockBytes (b : Stored) : List Byte :=
  match b.body with
  | .ctl op tag ws =>
    let h := wordBytes (word0 4 b.seq (op.setWidth 16 <<< 8 ||| tag.setWidth 16)) ++ (ws.map wordBytes).flatten
    h ++ cellBytes (crc16 h)
  | .data p pack u is =>
    let r := packItems pack u is
    let lo : BitVec 16 := pack.setWidth 16 <<< 14 ||| (if u then 0x2000#16 else 0#16) ||| BitVec.ofNat 16 (p.val * 256) |||
      BitVec.ofNat 16 r.2.length
    let h := wordBytes (word0 1 b.seq lo) ++ wordBytes (BitVec.ofNat 32 (is.length * 65536 + r.1.length)) ++
      (r.2.map (fun e => cellBytes (escWord e))).flatten
    h ++ cellBytes (crc16 h) ++ r.1
  | .ilv mask pack stride rounds runs =>
    let r := packItems pack false (ilvOrder stride rounds runs)
    let lo : BitVec 16 := pack.setWidth 16 <<< 14 ||| BitVec.ofNat 16 r.2.length
    let h := wordBytes (word0 2 b.seq lo) ++ wordBytes (fld 16 mask ||| BitVec.ofNat 32 (stride * 256 + rounds)) ++
      (r.2.map (fun e => cellBytes (escWord e))).flatten
    h ++ cellBytes (crc16 h) ++ r.1

/-- The bytes a block occupies (R244). -/
def BlkBody.size : BlkBody → Nat
  | .ctl _ _ ws => 4 + 4 * ws.length + 2
  | .data _ pack u is => let r := packSize pack u is; 10 + 2 * r.2 + r.1
  | .ilv _ pack _ _ runs => let r := packSize pack false (runs.map (fun x => x.2)).flatten; 10 + 2 * r.2 + r.1

/-- A control block. -/
def BlkBody.isCtl : BlkBody → Bool
  | .ctl _ _ _ => true
  | _ => false

/-- Items a data block carries for each port. -/
def BlkBody.counts : BlkBody → List (PortId × Nat)
  | .ctl _ _ _ => []
  | .data p _ _ is => if is.isEmpty then [] else [(p, is.length)]
  | .ilv _ _ _ _ runs => runs.map (fun x => (x.1, x.2.length))

/-- The loss count a GAP mark carries; unknown is none. -/
def gapCount (i : Item) : Option Nat :=
  match i.ext with
  | some x =>
    let n := (i.arg.extractLsb' 0 6).toNat * 65536 + x.toNat
    if n = 0x3FFFFF then none else some n
  | none => none

/-- The counts of a stub's GAPs. -/
def BlkBody.gapCounts : BlkBody → List (PortId × Nat)
  | .ctl _ _ _ => []
  | .data p _ _ is => (is.map (fun i => (p, (gapCount i).getD 0)))
  | .ilv _ _ _ _ runs => (runs.map (fun x => x.2.map (fun i => (x.1, (gapCount i).getD 0)))).flatten

/-- The content of a stub with one GAP for each port listed (R247); one without GAPs names port `p`. -/
def stubBody (p : PortId) : List (PortId × Nat) → BlkBody
  | [] => .data p 0 false []
  | [(q, n)] => .data q 0 false [gapMark 2 (some n)]
  | cs => .ilv (cs.foldl (fun m c => m ||| oneBit 16 c.1.val) 0) 0 1 1 (cs.map (fun c => (c.1, [gapMark 2 (some c.2)])))

/-! ### Completions, notices, credits (R259, R272, R279) -/

/-- WORD1 of a COMPLETION. -/
def completionWord (q : Req) (status : BitVec 4) (failCount : Nat) (detail : BitVec 16) : Word :=
  fld 28 status ||| flag 27 q.sec ||| fld 25 q.proc ||| fld 16 (BitVec.ofNat 9 failCount) ||| fld 0 detail
/-- A COMPLETION. -/
def completionBlk (q : Req) (status : BitVec 4) (failCount : Nat) (detail : BitVec 16) (data : List Word) : BlkBody :=
  .ctl 0x81 q.tag (completionWord q status failCount detail :: data)
/-- A NOTICE. -/
def noticeBlk (proc : BitVec 2) (count : BitVec 4) (src : SrcId) : BlkBody :=
  .ctl 0x83 0 [fld 28 proc ||| fld 24 count ||| BitVec.ofNat 32 src.val]
/-- A TX_CREDIT with the limits of the ports listed, ascending. -/
def creditBlk (ls : List (PortId × BitVec 24)) : BlkBody :=
  .ctl 0x82 0 (fld 0 (ls.foldl (fun m l => m ||| oneBit 16 l.1.val) (0#16)) :: ls.map (fun l => fld 0 l.2))

/-! ### Reading a host block's payload (R234 to R236, R265 to R267) -/

/-- The mark cell of a BREAK or GAP, which an extension follows (R41). -/
def wantsExt (c : CellW) : Bool := c.getLsbD 15 && (c.extractLsb' 10 5 == 1#5 || c.extractLsb' 10 5 == 2#5)

/-- Full cells read as items; a BREAK or GAP takes the cell after it (R235, R267). -/
def cellItems : List CellW → List Item
  | [] => []
  | [c] => [{ cell := c, ext := none }]
  | c :: d :: cs =>
    if wantsExt c then { cell := c, ext := some d } :: cellItems cs
    else { cell := c, ext := none } :: cellItems (d :: cs)

/-- Cells of a payload; none where a byte is left over. -/
def payloadCells : List Byte → Option (List CellW)
  | [] => some []
  | [_] => none
  | a :: b :: bs => (payloadCells bs).map (fun cs => (b.setWidth 16 <<< 8 ||| a.setWidth 16) :: cs)

/-- `n` slots of nine bits of a number. -/
def slotsOfNat : Nat → Nat → List Nat
  | 0, _ => []
  | n + 1, v => v % 512 :: slotsOfNat n (v / 512)

/-- The slots of a payload. -/
def payloadSlots (nine : Bool) (bs : List Byte) : List Nat :=
  if nine then slotsOfNat (8 * bs.length / 9) (leNat bs) else bs.map (fun b => b.toNat)

/-- One cell from its two slots. -/
def joinSlots (nine : Bool) (a b : Nat) : CellW :=
  if nine then BitVec.ofNat 16 (a + 512 * (b % 128)) else BitVec.ofNat 16 (a + 256 * b)

/-- A slot item: a character with the block's urgency (R235). -/
def slotItem (nine urgent : Bool) (v : Nat) : Item :=
  ({ cell := BitVec.ofNat 16 (if nine then v % 512 else v % 256), ext := none } : Item).withUrgent urgent

/-- Items of one escape of two cells. -/
def twoItems (a b : CellW) : List Item :=
  if wantsExt a then [{ cell := a, ext := some b }] else [{ cell := a, ext := none }, { cell := b, ext := none }]

/-- Read slots with their escapes, from slot `pos` on: the items, each group of one escape kept together; none where
an escape is out of order, overlaps another or runs past the payload (R266). -/
def readSlots (nine urgent : Bool) : List Nat → Nat → List EscEntry → Option (List (List Item))
  | [], _, [] => some []
  | [], _, _ :: _ => none
  | v :: vs, pos, [] => (readSlots nine urgent vs (pos + 1) []).map (fun r => [slotItem nine urgent v] :: r)
  | v :: vs, pos, e :: es =>
    if e.slot.toNat < pos then none
    else if pos < e.slot.toNat then
      (readSlots nine urgent vs (pos + 1) (e :: es)).map (fun r => [slotItem nine urgent v] :: r)
    else if e.two then
      match vs with
      | b :: c :: d :: rest => (readSlots nine urgent rest (pos + 4) es).map (fun r =>
          twoItems (joinSlots nine v b) (joinSlots nine c d) :: r)
      | _ => none
    else
      match vs with
      | b :: rest => (readSlots nine urgent rest (pos + 2) es).map (fun r =>
          [{ cell := joinSlots nine v b, ext := none }] :: r)
      | _ => none

/-- The items a payload decodes to, in groups; none where it does not decode. -/
def blkGroups (b : DataBlk) : Option (List (List Item)) :=
  if b.pack = 3#2 then none
  else if b.pack = 0#2 then (payloadCells b.payload).map (fun cs => (cellItems cs).map (fun i => [i]))
  else readSlots (b.pack == 2#2) b.urgent (payloadSlots (b.pack == 2#2) b.payload) 0 b.escs

/-- The lane the host asks for an item in (R265). -/
def blkTxItem (b : DataBlk) (i : Item) : TxItem :=
  { item := i, urgent := if i.isMark then b.urgent && !i.barrier else b.urgent || i.cell.getLsbD 14 }

/-- The payload takes exactly the bytes its items need (R236). -/
def blkExact (b : DataBlk) (gs : List (List Item)) : Bool :=
  b.pack != 2#2 ||
    b.payload.length == (9 * (payloadSlots true b.payload).length + 7) / 8 && !gs.isEmpty

/-- No group of two items lies in two ports' runs, of `stride` items each. -/
def groupsInRuns (stride : Nat) : List (List Item) → Nat → Bool
  | [], _ => true
  | g :: gs, n => (g.length ≤ 1 || decide ((n + 1) % stride ≠ 0)) && groupsInRuns stride gs (n + g.length)

/-- The ports a block names. -/
def blkNamed (b : DataBlk) : List PortId := if b.ilv then maskPorts b.mask else [b.port]

/-- A block's items for each port it names, in the order in which they enter; none where the block is malformed
(R236, R266). A consistent payload of more than 512 bytes makes a block no malformed one (log 135, DESIGN CHOICE). -/
def blkDecode (b : DataBlk) : Option (List (PortId × List TxItem)) :=
  match blkGroups b with
  | none => none
  | some gs =>
    let is := gs.flatten
    if !b.ilv then
      if b.len = b.payload.length ∧ b.items = is.length then some [(b.port, is.map (blkTxItem b))] else none
    else
      let ps := maskPorts b.mask
      if b.mask = 0#16 ∨ b.stride = 0 ∨ b.rounds = 0 then none
      else if is.length = b.stride * b.rounds * ps.length ∧ blkExact b gs ∧ (ps.length ≤ 1 ∨ groupsInRuns b.stride gs 0) then
        some (ps.zipIdx.map (fun x =>
          (x.1, ((List.range b.rounds).map (fun r =>
            ((is.drop ((r * ps.length + x.2) * b.stride)).take b.stride).map (blkTxItem b))).flatten)))
      else none

end Sys2Proof.Machine
end

