-- ==== Sys2Proof/Machine/Flags.lean ====
section
/-! DEFINITION. Events: the event bits, the event counters (16_event_counters.md R430 to R438), the attention
sources (11_attention_unit.md R303 to R313) and the FAULT_N output (01_architecture.md R23). -/

namespace Sys2Proof.Machine

/-! ### Asserted while (Table 11.1) -/

/-- The event register for source 8p + k, of the sources that items carry. -/
def Port.eventBits (x : Port) (k : Fin 4) : BitVec 21 :=
  match k.val with
  | 0 => x.line.lineEvents
  | 1 => x.rxqEvents.setWidth 21 &&& 7#21
  | 2 => x.rx.charEvents.setWidth 21
  | _ => x.af.events.setWidth 21
/-- Those of its bits that have reached the unit (R305). -/
def Port.seenBits (x : Port) (k : Fin 4) : BitVec 21 := x.eventBits k &&& ~~~x.unseen[k]
/-- A bit is about to be set by an item that is not readable yet; a bit that reads 1 already stays as it is (R305). -/
def Port.hide (k : Fin 4) (b : Nat) (x : Port) : Port :=
  if (x.eventBits k).getLsbD b then x else { x with unseen := x.unseen.set k (x.unseen[k] ||| oneBit 21 b) }
/-- Bits of an event register reach the unit, or are cleared. -/
def Port.reveal (k : Fin 4) (m : BitVec 21) (x : Port) : Port := { x with unseen := x.unseen.set k (x.unseen[k] &&& ~~~m) }

/-- The input of port source 8p + k (Table 11.1, R305). -/
def portAsserted (x : Port) : Nat → Bool
  | 0 => x.seenBits 0 != 0
  | 1 => x.seenBits 1 != 0
  | 2 => x.seenBits 2 != 0
  | 3 => x.seenBits 3 != 0
  | 4 => x.flow.events != 0
  | 5 => (x.txqEvents &&& 15#5) != 0
  | 6 => x.qFaults != 0
  | 7 => x.stEvents != 0 || x.psel.indetEvent
  | _ => false

/-- The number of frozen ports' bits (FREEZE_STATUS). -/
def State.frozenMask (s : State) : BitVec 16 :=
  (s.presentPorts.filter (fun p => (s.port p).frozen)).foldl (fun m p => m ||| oneBit 16 p.val) 0

/-- The input of device source `i` (08 R254, 12 R351, 10 R302, 09 R282, 15 R429, 16 R438, 06 R181, 13 R376, 11
R325). -/
def State.deviceAsserted (s : State) (i : Nat) : Bool :=
  let t := s.tr.trkEvents
  let w := s.pw.events
  match i with
  | 128 => t.getLsbD 0 || t.getLsbD 1
  | 129 => t.getLsbD 2
  | 130 => t.getLsbD 3
  | 131 => t.getLsbD 4
  | 132 => t.getLsbD 5 || t.getLsbD 6 || t.getLsbD 7
  | 133 => t.getLsbD 8
  | 134 => t.getLsbD 9
  | 136 => w.getLsbD 0
  | 137 => w.getLsbD 1
  | 138 => w.getLsbD 2
  | 139 => w.getLsbD 3
  | 140 => w.getLsbD 5
  | 141 => w.getLsbD 4
  | 142 => w.getLsbD 6
  | 144 => s.frozenMask != 0 || s.parityRecord.getLsbD 31
  | 145 => s.dev.idxMismatch || s.host.errors != 0
  | 146 => (s.svc.events &&& 0x77E#11) != 0
  | 147 => s.cnt.ovf != 0
  | 148 => (s.tie 0).ready || (s.tie 0).early || (s.tie 0).stray
  | 149 => (s.tie 1).ready || (s.tie 1).early || (s.tie 1).stray
  | 150 => (s.tie 2).ready || (s.tie 2).early || (s.tie 2).stray
  | 151 => (s.tie 3).ready || (s.tie 3).early || (s.tie 3).stray
  | 152 => s.boot.startEvents != 0
  | 153 => s.att.events != 0
  | _ => false

/-- The port of a source below 128. -/
def srcPort (i : SrcId) : Option PortId := if h : i.val < 128 then some ⟨i.val / 8, by omega⟩ else none

/-- The input of source `i` as its owner's registers give it (Table 11.1). -/
def State.ownerAsserted (s : State) (i : SrcId) : Bool :=
  match srcPort i with
  | some p => s.present p && portAsserted (s.port p) (i.val % 8)
  | none => s.deviceAsserted i.val

/-- Source `i` exists: it is no absent port's (R306). -/
def State.srcPresent (s : State) (i : SrcId) : Bool :=
  match srcPort i with
  | some p => s.present p
  | none => true

/-- The source 8p + k. -/
def portSrc (p : PortId) (k : Fin 8) : SrcId := ⟨8 * p.val + k.val, by omega⟩

/-! ### One source (Table 11.2) and the due list (R310) -/

/-- An event (Table 11.2): COUNT adds one; an idle source becomes pending in a new episode; a claimed one sets
REPEND. -/
def Src.event (q : Src) : Src :=
  let q := { q with count := satInc q.count }
  if q.claimed then { q with repend := true } else if q.pend then q else { q with pend := true, noticed := 0 }

/-- PEND_SET: as an event but COUNT stays. -/
def Src.pendSet (q : Src) : Src :=
  if q.claimed then { q with repend := true } else if q.pend then q else { q with pend := true, noticed := 0 }

/-- PEND_CLR: a pending source becomes idle; a claimed one loses REPEND. -/
def Src.pendClr (q : Src) : Src := if q.claimed then { q with repend := false } else { q with pend := false }

/-- The eligible targets of a source (R308). -/
def Att.eligible (a : Att) (q : Src) : BitVec 4 :=
  q.targets &&& a.proc.extractLsb' 0 4 &&& ~~~(a.proc.extractLsb' 4 4)

/-- A source is due a notice to processor `p` (R310). -/
def Att.isDue (a : Att) (q : Src) (p : BitVec 2) : Bool :=
  q.pend && !q.masked && (a.eligible q).getLsbD p.toNat && !q.noticed.getLsbD p.toNat

/-- A pending, unmasked source without an eligible target (R312). -/
def Att.noTarget (a : Att) (q : Src) : Bool := q.pend && !q.masked && a.eligible q == 0

/-- The due pairs of one source, in ascending processor order. -/
def Att.duePairs (a : Att) (i : SrcId) : List (SrcId × BitVec 2) :=
  ([0#2, 1#2, 2#2, 3#2].filter (fun p => a.isDue a.srcs[i] p)).map (fun p => (i, p))

/-- Bring the due list up to date for one source: pairs no longer due leave, newly due ones join at the end. -/
def Att.refresh (a : Att) (i : SrcId) : Att :=
  let kept := a.due.filter (fun d => d.1 != i || a.isDue a.srcs[i] d.2)
  { a with due := kept ++ (a.duePairs i).filter (fun d => !kept.contains d) }

/-- Store a source and bring the due list up to date. -/
def Att.put (a : Att) (i : SrcId) (q : Src) : Att := { a with srcs := a.srcs.set i q }.refresh i

/-- The unit's own source. -/
def attSelf : SrcId := 153

/-- Set a bit of ATT_EVENTS: an event of source 153, whose input it raises (R325). The lack of a target for source 153
itself sets NO_TARGET with that same event (log 16). -/
def Att.selfEvent (a : Att) (b : BitVec 3) : Att :=
  let a := { a with events := a.events ||| b }
  let a' := a.put attSelf { a.srcs[attSelf].event with asserted := true }
  if a'.noTarget a'.srcs[attSelf] then { a' with events := a'.events ||| 1#3 } else a'

/-- `n` sources have become pending and unmasked with no eligible target: NO_TARGET (R312). -/
def Att.noTargets : Nat → Att → Att
  | 0, a => a
  | n + 1, a => Att.noTargets n (a.selfEvent 1#3)

/-- Store the changes of several sources in ascending order: the pairs that become due join in that order (R310), and
NO_TARGET follows for each that becomes pending and unmasked with no eligible target (R312). -/
def Att.updateAll (a : Att) (is : List SrcId) (f : SrcId → Src → Src) : Att :=
  let newly := (is.filter (fun i => a.noTarget (f i a.srcs[i]) && !a.noTarget a.srcs[i])).length
  Att.noTargets newly (is.foldl (fun b i => b.put i (f i b.srcs[i])) a)

/-- Store a changed source; where it becomes pending and unmasked with no eligible target, NO_TARGET (R312). -/
def Att.update (a : Att) (i : SrcId) (q : Src) : Att := a.updateAll [i] (fun _ _ => q)

/-- ATT_PROC is written: every source is brought up to date (R311, R312). -/
def Att.setProc (a : Att) (v : BitVec 8) : Att :=
  let b : Att := { a with proc := v }
  let newly := ((List.finRange 160).filter (fun i => b.noTarget a.srcs[i] && !a.noTarget a.srcs[i])).length
  Att.noTargets newly ((List.finRange 160).foldl Att.refresh b)

/-- An event of source `i` (R304): before Release it waits for Release (R306), while the state is saved it sets the
arrived bit (R321), else Table 11.2. -/
def State.attEvent (i : SrcId) (s : State) : State :=
  if !s.srcPresent i || s.boot.stage == .halted then s
  else if !s.released then { s with boot := { s.boot with early := s.boot.early ++ [i] } }
  else if s.att.saved then
    { s with att := { s.att with arrived := if s.att.arrived.contains i then s.att.arrived else i :: s.att.arrived } }
  else { s with att := s.att.update i { s.att.srcs[i].event with asserted := s.ownerAsserted i } }

/-- The input of source `i` after some of its event bits were cleared (R304): it can only fall. -/
def State.attFall (i : SrcId) (s : State) : State :=
  let q := s.att.srcs[i]
  { s with att := { s.att with srcs := s.att.srcs.set i { q with asserted := q.asserted && s.ownerAsserted i } } }

/-- One event of each of some sources, in order (R306, R322). -/
def State.attEvents (is : List SrcId) (s : State) : State := forEach is (fun i t => t.attEvent i) s

/-- An event of port `p` that waited for an item reaches the unit with its bit (R305). -/
def State.tell (p : PortId) (n : Note) (s : State) : State :=
  (s.modPort p (Port.reveal n.k (oneBit 21 n.bit))).attEvent (portSrc p ⟨n.k.val, by omega⟩)
/-- Deliver the events that waited for an item (R305). -/
def State.tellAll (p : PortId) (ns : List Note) (s : State) : State := forEach ns (State.tell p) s

/-! ### Event counters (16) -/

/-- Add an event of code `code` to every counter that selects it (R430, R431); also how many wrapped. -/
def Cnt.bump (c : Cnt) (code : Nat) : Cnt × Nat :=
  (List.finRange 32).foldl
    (fun (r : Cnt × Nat) (i : Fin 32) =>
      if r.1.sels[i].toNat = code then
        let v := r.1.vals[i] + 1#48
        if v = 0#48 then
          ({ r.1 with vals := r.1.vals.set i v, ovf := r.1.ovf ||| oneBit 32 i.val }, r.2 + 1)
        else ({ r.1 with vals := r.1.vals.set i v }, r.2)
      else r) (c, 0)

/-- The codes of Table 16.2: the tick, those of the regions, of the trunk, of host requests, of power, of the service port
and of attention, those of the tie groups, and the parity failure. -/
def deviceCode (code : Nat) : Bool :=
  code == 0x001 || (decide (0x040 ≤ code ∧ code ≤ 0x04E) && code % 4 != 3) || decide (0x060 ≤ code ∧ code ≤ 0x06A) ||
    decide (0x070 ≤ code ∧ code ≤ 0x073) || decide (0x080 ≤ code ∧ code ≤ 0x085) || decide (0x088 ≤ code ∧ code ≤ 0x08E) ||
    decide (0x090 ≤ code ∧ code ≤ 0x09A) || decide (0x0A0 ≤ code ∧ code ≤ 0x0A3) ||
    decide (0x0A8 ≤ code ∧ code ≤ 0x0AB) || code == 0x0B0

/-- Whether a code selects a source: one of Table 16.2, or one of Table 16.1 for a present port; 0 and the reserved codes
select none (R430, R432, R434, R435). -/
def State.selects (code : Nat) (s : State) : Bool :=
  if code < 0x100 then deviceCode code else decide (code < 0x320) && s.presentMask.getLsbD (code % 16)

/-- Count one event of a code that selects a source (R430); none while the state is saved (R433). -/
def State.count (code : Nat) (s : State) : State :=
  if s.att.saved || !s.selects code then s
  else
    let r := s.cnt.bump code
    let s := { s with cnt := r.1 }
    (List.replicate r.2 (147 : SrcId)).foldl (fun t i => t.attEvent i) s

/-- Count `n` events of one code. -/
def State.countN (code n : Nat) (s : State) : State := (List.replicate n code).foldl (fun t c => t.count c) s

/-- Count a port event of Table 16.1. -/
def State.portCount (e : Nat) (p : PortId) (s : State) : State := s.count (16 * e + p.val)

/-! ### Event bits of a port -/

/-- Set a bit of CHAR_EVENTS and count it; its source's event follows where the item is readable (R305). -/
def State.markChar (b : Fin 7) (p : PortId) (s : State) : State :=
  (s.modPort p (fun x =>
    let y := x.hide 2 b.val
    { y with rx := { y.rx with charEvents := y.rx.charEvents ||| oneBit 7 b } })).portCount (18 + b) p
/-- An event of CHAR_EVENTS that no item carries (R124). -/
def State.charEvent (b : Fin 7) (p : PortId) (s : State) : State := (s.markChar b p).tell p { k := 2, bit := b.val }

/-- Set a bit of AF_EVENTS and count it (R154). -/
def State.markAf (b : Fin 4) (p : PortId) (s : State) : State :=
  (s.modPort p (fun x =>
    let y := x.hide 3 b.val
    { y with af := { y.af with events := y.af.events ||| oneBit 4 b } })).portCount (25 + b) p
/-- An event of AF_EVENTS that no item carries. -/
def State.afEvent (b : Fin 4) (p : PortId) (s : State) : State := (s.markAf b p).tell p { k := 3, bit := b.val }

/-- An event of FLOW_EVENTS (R181). -/
def State.flowEvent (b : Fin 3) (p : PortId) (s : State) : State :=
  ((s.modPort p (fun x => { x with flow := { x.flow with events := x.flow.events ||| oneBit 3 b } })).portCount
    (31 + b) p).attEvent (portSrc p 4)

/-- Set a bit of RXQ_EVENTS and count it (R219). -/
def State.markRxq (b : Fin 4) (p : PortId) (s : State) : State :=
  (s.modPort p (fun x =>
    let y := x.hide 1 b.val
    { y with rxqEvents := y.rxqEvents ||| oneBit 4 b })).portCount (36 + b) p
/-- An event of RXQ_EVENTS at once; UNDERRUN raises no source (R219). -/
def State.rxqEvent (b : Fin 4) (p : PortId) (s : State) : State :=
  if b = 3 then s.markRxq b p else (s.markRxq b p).tell p { k := 1, bit := b.val }

/-- An event of TXQ_EVENTS; UNDERRUN raises no source (R219). -/
def State.txqEvent (b : Fin 5) (p : PortId) (s : State) : State :=
  let s := (s.modPort p (fun x => { x with txqEvents := x.txqEvents ||| oneBit 5 b })).portCount (40 + b) p
  if b = 4 then s else s.attEvent (portSrc p 5)

/-- An event of QUEUE_FAULTS (R213, R219). -/
def State.qFaultEvent (b : Fin 4) (p : PortId) (s : State) : State :=
  ((s.modPort p (fun x => { x with qFaults := x.qFaults ||| oneBit 4 b })).portCount (45 + b) p).attEvent (portSrc p 6)

/-- An event of PORT_STATE_EVENTS (R348, R351): bit 0 ACTIVITY, bit 1 REACHED. -/
def State.pstateEvent (b : Fin 2) (p : PortId) (s : State) : State :=
  (s.modPort p (fun x => { x with stEvents := x.stEvents ||| oneBit 2 b })).attEvent (portSrc p 7)

/-- Set the LINE_EVENTS bit of LINE code `c` (Table 3.9). -/
def State.markLine (c : Nat) (p : PortId) (s : State) : State :=
  s.modPort p (fun x =>
    let y := x.hide 0 (c - 1)
    { y with line := { y.line with lineEvents := y.line.lineEvents ||| oneBit 21 (c - 1) } })

/-! ### Event bits of the device -/

/-- The attention source of a TRK_EVENTS bit (R254); REWIND has none. -/
def trkSource (b : Fin 11) : Option SrcId :=
  match b.val with
  | 0 | 1 => some 128 | 2 => some 129 | 3 => some 130 | 4 => some 131
  | 5 | 6 | 7 => some 132 | 8 => some 133 | 9 => some 134 | _ => none
/-- An event of TRK_EVENTS (R253, R254). -/
def State.trkEvent (b : Fin 11) (s : State) : State :=
  let s := ({ s with tr := { s.tr with trkEvents := s.tr.trkEvents ||| oneBit 11 b } }).count (0x060 + b)
  match trkSource b with
  | some i => s.attEvent i
  | none => s

/-- An event of HOST_ERRORS (R281, R282). -/
def State.hostError (b : Fin 6) (s : State) : State :=
  (({ s with host := { s.host with errors := s.host.errors ||| oneBit 6 b } }).count (0x080 + b)).attEvent 145

/-- The attention source of a POWER_EVENTS bit (R351). -/
def powerSource (b : Fin 7) : SrcId :=
  match b.val with
  | 0 => 136 | 1 => 137 | 2 => 138 | 3 => 139 | 4 => 141 | 5 => 140 | _ => 142
/-- An event of POWER_EVENTS (R350, R351). -/
def State.powerEvent (b : Fin 7) (s : State) : State :=
  (({ s with pw := { s.pw with events := s.pw.events ||| oneBit 7 b } }).count (0x088 + b)).attEvent (powerSource b)

/-- NOTIFY_EN in force, the built-in one in the halt (R410), or not yet loaded because Slip has not ended (R420). -/
def State.mayNotify (s : State) : Bool :=
  s.boot.imgDevice.getLsbD 8 || s.boot.stage == .halted || s.boot.stage == .powerUp || s.boot.stage == .kiln || s.boot.stage == .sampling ||
    s.boot.stage == .slip
/-- The SVC_EVENTS bits that make a notice due: LOCK_BLOWN, VERIFY_ERR, FLASH_ERR, FLASH_DONE, FAULT, RELEASED
(R420). -/
def svcNotable : BitVec 11 := 0x783#11
/-- An event of SVC_EVENTS (R426, R429), with the notice it makes due (R420). -/
def State.svcEvent (b : Fin 11) (s : State) : State :=
  let newly := !s.svc.events.getLsbD b && svcNotable.getLsbD b && s.mayNotify
  let s := ({ s with svc := { s.svc with events := s.svc.events ||| oneBit 11 b,
                                         noteDue := s.svc.noteDue || newly } }).count (0x090 + b)
  if b = 0 || b = 7 then s else s.attEvent 146

/-- An event of START_EVENTS (R373, R376). -/
def State.startEvent (b : Fin 3) (s : State) : State :=
  ({ s with boot := { s.boot with startEvents := s.boot.startEvents ||| oneBit 3 b } }).attEvent 152

/-- Set the ATT_EVENTS bit STRAY_COMPLETE or RESTORE_FAIL: an event of source 153. -/
def State.attUnitEvent (b : BitVec 3) (s : State) : State := { s with att := s.att.selfEvent b }

/-- The conditions that hold FAULT_N low (R23). -/
def State.faultWanted (s : State) : Bool :=
  s.boot.kilnHalt || s.pw.crit != 0 || !s.pw.inRange || s.pw.mgmtFailed
/-- Drive FAULT_N by R23 once the bedrock is up; going low is the FAULT event of SVC_EVENTS. -/
def State.driveFault (s : State) : State :=
  let low := s.boot.regulated && s.pw.inputOn && s.faultWanted
  let was := s.pw.faultN
  let s := { s with pw := { s.pw with faultN := low } }
  if low && !was then s.svcEvent 1 else s

end Sys2Proof.Machine
end

