-- ==== Sys2Proof/Machine/Store.lean ====
section
/-! DEFINITION. Queues inside the state: the region's pool, storing a queue back, losses, GAPs, and the entry of one
item with its threshold and demotion events (07_queues_and_store.md R186 to R202; 02_ordering_contract.md R47, R48;
11_attention_unit.md R305). -/

namespace Sys2Proof.Machine

/-- The guard of a queue: HOLD_ROOM cells on receive with flow control, else none (R162). -/
def Port.guard (x : Port) : Dir → Nat
  | .rx => if x.fcMode = 0#2 then 0 else x.holdRoom
  | .tx => 0

/-- Free pool segments of a port's region. -/
def State.pool (s : State) (p : PortId) : Nat := (s.region (regionOf p)).pool

/-- Room of a port's receive queue (R162). -/
def State.rxRoom (s : State) (p : PortId) : Nat := (s.queue p .rx).room ((s.port p).guard .rx) (s.pool p)
/-- A hold code is owed since the port's room fell to 0 (R163). -/
def State.holdOwed (s : State) (p : PortId) : Bool := (s.region (regionOf p)).holdOwed.getLsbD (p.val % 4)
/-- The ports of a region whose room is 0 and whose station is not held (R163), one bit each. -/
def State.roomGone (s : State) (r : RegionId) : BitVec 4 :=
  (regionPorts r).foldl (fun m p =>
    if (s.port p).fcMode != 0 && !(s.port p).flow.holdSent && s.rxRoom p == 0 then m ||| oneBit 4 (p.val % 4) else m) 0

/-- Set the free pool segments of a port's region, keeping the least seen and the hold codes that are owed, and counting
the fall to 0 (R163, Tables 7.15, 16.2). -/
def State.setPool (p : PortId) (n : Nat) (s : State) : State :=
  let r := regionOf p
  let old := (s.region r).pool
  let s := s.modRegion r (fun x => { x with pool := n, poolMin := min x.poolMin n })
  let s := s.modRegion r (fun x => { x with holdOwed := x.holdOwed ||| s.roomGone r })
  if n = 0 && old != 0 then s.count (0x042 + 4 * r.val) else s

/-- Store a queue and the pool of its region back. -/
def State.putQueue (p : PortId) (d : Dir) (q : Queue) (n : Nat) (s : State) : State := (s.setQueue p d q).setPool p n

/-- Change a queue without touching the pool. -/
def State.modQueue (p : PortId) (d : Dir) (f : Queue → Queue) (s : State) : State := s.setQueue p d (f (s.queue p d))

/-- Deliver the events whose item of the receive queue has become readable (R305). -/
def State.deliver (p : PortId) (s : State) : State :=
  let r := (s.queue p .rx).deliver
  (s.setQueue p .rx r.2).tellAll p r.1

/-- Add a loss to a queue's pending record (R47). -/
def State.addLoss (p : PortId) (d : Dir) (reason : BitVec 4) (count : Option Nat) (notes : List Note) (s : State) :
    State :=
  s.modQueue p d (fun q => { q with pend := joinLoss q.pend reason count notes })

/-- Items of the host write at `o` are lost: they stand in the transmit queue's pending loss or in its flush's count until a
GAP covers them (R58, R275). -/
def State.lossSince (p : PortId) (o : Option Nat) (s : State) : State :=
  s.modPort p (fun x => { x with lossFrom := (x.lossFrom.toList ++ o.toList).min? })

/-- Add a State loss of unknown count to the receive queue, held under R471. -/
def State.addHeldLoss (p : PortId) (s : State) : State :=
  s.modQueue p .rx (fun q => { q with pend := (joinLoss q.pend 3 none []).map (fun r => { r with held := true }) })

/-- Discards of the transmit queue are collected without a GAP: the port is in Off or on its way to or from it, the way
through the line checks of the release among them (R338; log 168, DESIGN CHOICE). -/
def Port.txOff (x : Port) : Bool :=
  x.st == .off ||
    match x.trans with
    | some t => t.target == .off || t.source == .off
    | none => false
/-- The transmit queue takes neither items nor its GAP now (R338, R88). -/
def Port.txSinks (x : Port) : Bool := x.txOff || x.line.lfDiscard

/-- Enter one item with the events of R197 and R201; none where the queue cannot take it, or where its copies disagree
(R211, R212). A receive queue's THRESH and DEMOTED set their bits now, and their events wait for the item (R57, R194,
R305). -/
def State.enterItem (p : PortId) (d : Dir) (i : Item) (urgent : Bool) (notes : List Note) (order : Option Nat) (s : State) :
    Option State :=
  if !s.sound p d then none
  else
    let x := s.port p
    let q := x.queue d
    let crosses := decide (0 < x.thresh d ∧ q.items < x.thresh d ∧ x.thresh d ≤ q.items + 1)
    let demotes := q.demotes (x.fmt d) i urgent
    let ns := match d with
      | .rx => notes ++ (if demotes then [{ k := 1, bit := 0 }] else []) ++
          (if crosses then [{ k := 1, bit := 2 }] else [])
      | .tx => notes
    match q.enter (x.fmt d) (x.guard d) (s.pool p) i urgent ns order with
    | none => none
    | some r =>
      let s := s.putQueue p d r.q r.pool
      let s := if demotes then (match d with | .rx => s.markRxq 0 p | .tx => s.txqEvent 0 p) else s
      some (if crosses then (match d with | .rx => s.markRxq 2 p | .tx => s.txqEvent 2 p) else s)

/-- Account for a GAP that the Lulos has written into a transmit queue (R48, Tables 7.12 and 9.10). -/
def State.noteTxGap (p : PortId) (r : Loss) (s : State) : State :=
  (s.modPort p (fun x =>
    match r.count with
    | some n => { x with gaps := x.gaps + 1, lossFrom := none, txLoss := satAdd x.txLoss n }
    | none => { x with gaps := x.gaps + 1, lossFrom := none, txLossUnknown := true })).txqEvent 1 p

/-- Write the pending loss as a GAP (R46), with the events of its mark; for a frozen port a held record opens again
(R471). -/
def State.writeGap (p : PortId) (d : Dir) (s : State) : State :=
  match (s.queue p d).pend with
  | none => s
  | some r =>
    let notes := match d with
      | .rx => r.notes ++ [{ k := 1, bit := 1 }]
      | .tx => []
    match (s.modQueue p d (fun q => { q with pend := none })).enterItem p d (gapMark r.reason r.count) false notes none with
    | none => s
    | some t => match d with
      | .rx => if r.held && (s.port p).frozen then (t.markRxq 1 p).addHeldLoss p else t.markRxq 1 p
      | .tx => t.noteTxGap p r

/-- Write `n` owed FLUSH marks (R206). -/
def State.payFlush (p : PortId) (d : Dir) : Nat → State → State
  | 0, s => s
  | n + 1, s => match s.enterItem p d flushMark false [] none with
    | none => s
    | some t => State.payFlush p d n (t.modQueue p d (fun q => { q with flushOwed := n }))

/-- A queue's pending GAP waits although the queue could take it: for the boundary of a crossed flush (log 108, DESIGN
CHOICE), while R338 or R88 discards, and while R471 or R298 holds the record, which on receive a flush writes. A record of
the transmit queue that R298 keeps waits for the next Run entry, and so do the host items and the flush that come meanwhile:
the items join it, and the FLUSH follows its GAP (R47; log 68, DEDUCED). -/
def Port.gapWaits (x : Port) (d : Dir) : Bool :=
  let q := x.queue d
  q.flushing || (d == .tx && x.txSinks) || (q.pend.any (fun r => r.held) && (d == .tx || q.flushOwed == 0))

/-- Write the pending loss as a GAP, directly followed by the FLUSH marks owed, once the queue takes all their cells
(R46, R47, R206); a reset's is written at once (R209), which `force` says. -/
def State.tryGap (p : PortId) (d : Dir) (force : Bool) (s : State) : State :=
  let x := s.port p
  let q := x.queue d
  if (!force && x.gapWaits d) || !q.blocked || decide (q.freeCells (s.pool p) < (if q.pend.isSome then 2 else 0) + q.flushOwed)
  then s
  else
    let t := (s.writeGap p d).payFlush p d q.flushOwed
    match d with
    | .rx => t.deliver p
    | .tx => t

/-- Take the Sieve's next item of a queue (R195), whose copies agree (R211, R212). -/
def State.takeItem (p : PortId) (d : Dir) (s : State) : Option (Entry × QLane × State) :=
  if !s.sound p d then none
  else match (s.queue p d).sieveNext (s.pool p) with
    | none => none
    | some t => some (t.e, t.lane, s.putQueue p d t.q t.pool)

end Sys2Proof.Machine
end

