-- ==== Sys2Proof/Machine/Ties.lean ====
section
/-! DEFINITION. Flow-code and tie conditions (06_flow_control_and_ties.md R160 to R176; 10_recovery.md R297): which
code a port owes, when a member waits at its TIE mark and has reached it, and the release of a group. -/

namespace Sys2Proof.Machine

/-! ### What the flow controller owes (R163, R166, R339) -/

/-- A hold code is due: the room has fallen to 0 since the last one (R163). -/
def State.holdDue (s : State) (p : PortId) : Bool :=
  let x := s.port p
  x.fcMode != 0 && !x.flow.holdSent && (s.holdOwed p || s.rxRoom p == 0)
/-- The hold code that a port owed is sent. -/
def State.holdPaid (p : PortId) (s : State) : State :=
  s.modRegion (regionOf p) (fun y => { y with holdOwed := y.holdOwed &&& ~~~(oneBit 4 (p.val % 4)) })
/-- A resume code is due (R163, R339). -/
def State.resumeDue (s : State) (p : PortId) : Bool :=
  let x := s.port p
  x.fcMode != 0 && (x.flow.entryResume ||
    (x.flow.holdSent && decide (x.holdRoom ≤ (s.queue p .rx).freeReserved) && decide (x.resumeRoom ≤ s.rxRoom p)))
/-- The port runs fast-mode credits (R161, R165). -/
def Port.credits (x : Port) : Bool := x.fcMode == 2 && x.rate.fcFast
/-- The credit code due: the largest k that fits, where RX_OUTSTANDING is below half of CREDIT_MAX (R166). -/
def State.creditDue (s : State) (p : PortId) : Option Nat :=
  let x := s.port p
  let out := x.flow.rxOutstanding.toNat
  if x.credits && decide (2 * out < x.creditMax) then
    ((List.range 14).filter (fun k => out + 2 ^ k ≤ min x.creditMax (s.rxRoom p))).getLast?
  else none
/-- A code of the port's own is waiting (R164). -/
def State.codeDue (s : State) (p : PortId) : Bool := s.holdDue p || s.resumeDue p || (s.creditDue p).isSome

/-- Flow control stops the transmit queue (R160, R165). -/
def Port.flowStops (x : Port) : Bool := x.flow.held || (x.credits && x.flow.txCredit == 0)
/-- The pacer's window is full (R120); never on an unpaced port, PACE_N = 0, whose FULL so reads 0 (log 107, DESIGN
CHOICE). -/
def Port.paceFull (x : Port) : Bool := decide (x.paceN ≠ 0 ∧ x.paceN ≤ x.tx.paceCount.toNat)

/-! ### Waiting and reached (R171, R172) -/

/-- The group a port is a member of. -/
def State.groupOf (s : State) (p : PortId) : Option (Fin 4) :=
  (List.finRange 4).find? (fun g => (s.tie g).members.getLsbD p.val)
/-- The TIE mark at the head of a port's transmit sequence. -/
def Port.tieHead (x : Port) : Option (Fin 4) :=
  if !x.tx.header.isEmpty then none
  else match x.txq.peekNext with
    | some (e, _) => if e.item.isType 7 then some ⟨(e.item.arg.extractLsb' 0 2).toNat, (e.item.arg.extractLsb' 0 2).isLt⟩
        else none
    | none => none
/-- The port drives and obeys its line: in Run, not frozen, not in line-fault (R85, R290). -/
def Port.usable (x : Port) : Bool := x.inRun && !x.frozen && !x.lineFault
/-- A member has reached its TIE mark, or counts as having reached it (R172); one that has left the round counts as
arrived until the release (R175), though it stands at a further TIE mark of the group, which then leaves at that release
(log 157, DESIGN CHOICE). -/
def State.tieReached (s : State) (g : Fin 4) (p : PortId) : Bool :=
  let x := s.port p
  !x.usable || (s.tie g).left.getLsbD p.val ||
    (x.tieHead == some g && x.tx.now == .idle && !x.flowStops && !x.paceFull && !x.tx.backoff && !s.codeDue p)
/-- Every member of a group has reached. -/
def State.allReached (s : State) (g : Fin 4) : Bool := (s.portsOf (s.tie g).members).all (s.tieReached g)

/-! ### Keeping the rounds up to date (R171, R173, R175) -/

/-- The attention source of a group (R181). -/
def tieSrc (g : Fin 4) : SrcId := ⟨148 + g.val, by omega⟩

/-- Set a group's READY by R173, for a group that has members (log 37); its rise is an event only where it raises the
source's input (R304). -/
def State.tieReady (g : Fin 4) (s : State) : State :=
  let t := s.tie g
  let r := t.hostRel && t.members != 0 && s.allReached g
  if r == t.ready then s
  else
    let s' := s.modTie g (fun t => { t with ready := r })
    if r && !s.deviceAsserted (tieSrc g).val then s'.attEvent (tieSrc g) else s'.attFall (tieSrc g)

/-- A group with no round: none is open, and none has been left or disturbed. A round that closes without a release
takes its disturbance with it (R297, Table 10.9; log 166, DESIGN CHOICE). -/
def Tie.closed (t : Tie) : Tie := { t with opened := false, disturbed := false, left := 0 }

/-- A member leaves the open round; a round whose members have all left closes with no release (R175). -/
def State.tieLeave (p : PortId) (g : Fin 4) (s : State) : State :=
  s.modTie g (fun t =>
    let l := t.left ||| oneBit 16 p.val
    if !t.opened then t else if t.members &&& ~~~l == 0 then t.closed else { t with left := l })

/-- Open the round of a group at whose mark a member waits that has not left it (R171, R175). -/
def State.tieOpen (g : Fin 4) (s : State) : State :=
  let waits := s.presentPorts.any (fun p => (s.port p).flow.tieWait == some g)
  s.modTie g (fun t => if t.opened || !waits then t else { t with opened := true, disturbed := false, left := 0 })

/-- Bring a port's waiting state up to date after its transmit sequence changed: a mark that is gone without a release
or cancel leaves its round, and every group's round and READY follow (R171, R173, R175). -/
def State.tieSync (p : PortId) (s : State) : State :=
  let x := s.port p
  let w := match x.tieHead with
    | some g => if (s.tie g).members.getLsbD p.val then some g else none
    | none => none
  let s1 := if w == x.flow.tieWait then s else
    let s := s.modPort p (fun x => { x with flow := { x.flow with tieWait := w } })
    match x.flow.tieWait with
    | some g => s.tieLeave p g
    | none => s
  forEach (List.finRange 4) (fun g t => (t.tieOpen g).tieReady g) s1

/-- Take the TIE mark at the head of a port's sequence: the mark leaves. In Sleep, with the store banks in retention, it
leaves the settling chain, which is filled again as Sleep ends (Table 12.4; log 110). Nothing leaves a queue whose copies or
parity disagree (R211, R212). -/
def State.passTie (p : PortId) (s : State) : State :=
  if s.dev.st == .sleep then if s.sound p .tx then s.modQueue p .tx Queue.passBarrier else s
  else match s.takeItem p .tx with
    | some (_, _, t) => t
    | none => s

/-- A waiting member's TIE mark is consumed and leaves, and the member waits no longer. -/
def State.endWait (p : PortId) (s : State) : State :=
  (s.passTie p).modPort p (fun x => { x with flow := { x.flow with tieWait := none } })

/-- A waiting member leaves its round: its TIE mark is consumed and leaves (R175). -/
def State.leaveTie (p : PortId) (s : State) : State :=
  let s := match (s.port p).flow.tieWait with
    | some g => (s.endWait p).tieLeave p g
    | none => s
  let s := forEach (List.finRange 4)
    (fun g t => t.modTie g (fun y => { y with starting := y.starting.filter (fun z => z != p) })) s
  s.tieSync p

/-- The members that wait at a mark of group `g`. -/
def State.tieWaiting (s : State) (g : Fin 4) : List PortId :=
  s.presentPorts.filter (fun p => (s.port p).flow.tieWait == some g)

/-- Release a group (R173, R174, R297): the TIE mark of the group at the head of any member's sequence leaves, each usable
member that stood there has its line start scheduled, and READY follows anew. -/
def State.tieRelease (g : Fin 4) (s : State) : State :=
  let waiting := s.tieWaiting g
  let start := waiting.filter (fun p => (s.port p).usable)
  let s := forEach waiting State.endWait s
  let dist := (s.tie g).disturbed
  let s := s.modTie g (fun t => { t.closed with ready := false, releases := t.releases + 1, starting := t.starting ++ start })
  let s := { s with tieDisturbed := if dist then s.tieDisturbed ||| oneBit 4 g.val else s.tieDisturbed }
  let s := (s.attFall (tieSrc g)).count (0x0A8 + g.val)
  (forEach waiting State.tieSync s).tieReady g

end Sys2Proof.Machine
end

