-- ==== Sys2Proof/Machine/Queues.lean ====
section
/-! DEFINITION. How items reach the queues and leave them other than by the Sieve: the holding register and overrun
(04_character_engine.md R107, R108), flushes, resets and other discards (07_queues_and_store.md R205 to R215;
10_recovery.md R284, R285, R298), and the entry of host items (09_trunk_transactions.md R265, R273; 12 R338; 03
R88). -/

namespace Sys2Proof.Machine

/-! ### Flush boundary (R205, R206) -/

/-- A flush takes effect at its boundary: the count joins the pending loss, the epochs are levelled, and the pending
GAP and a FLUSH are due. -/
def State.finishFlush (p : PortId) (d : Dir) (s : State) : State :=
  match (s.queue p d).flush with
  | .crossed c ns =>
    let s := if c = 0 then s else s.addLoss p d 5 (some c) ns
    let s := s.modQueue p d (fun q =>
      { q with flush := .none, flushOwed := q.flushOwed + 1, rEpoch := q.wEpoch, demoting := false, pinValid := false,
               serving := .none })
    (s.tryGap p d false).tieSync p
  | _ => s

/-- A crossed flush ends where its queue stands between packets (R205, R206). -/
def State.atBoundary (p : PortId) (d : Dir) (s : State) : State :=
  if (s.queue p d).flushing && (s.queue p d).betweenPackets then s.finishFlush p d else s

/-- A crossed flush ends where its queue stands between packets, or where the item about to enter begins one (R205). -/
def State.boundaryBefore (p : PortId) (d : Dir) (i : Item) (s : State) : State :=
  let q := s.queue p d
  if q.flushing && (q.betweenPackets || q.begins ((s.port p).fmt d) i) then s.finishFlush p d else s

/-- A pending flush of a transmit queue whose contents R88 or R338 discards takes effect at that moment: its count joins
the record of that discard, and its FLUSH follows the GAP (R298; log 68). -/
def State.takeFlush (p : PortId) (reason : BitVec 4) (s : State) : State :=
  let owe (t : State) : State :=
    t.modQueue p .tx (fun q => { q with flush := .none, flushOwed := q.flushOwed + 1, isOpen := false })
  match (s.queue p .tx).flush with
  | .none => s
  | .waiting _ => owe s
  | .crossed c _ => owe (if c = 0 then s else s.addLoss p .tx reason (some c) [])

/-- Discard an item that enters between a flush's crossing and its boundary (R205); where the item ends its packet
the boundary follows it. -/
def State.flushDiscard (p : PortId) (d : Dir) (i : Item) (notes : List Note) (s : State) : State :=
  let f := (s.port p).fmt d
  (s.modQueue p d (fun q =>
    let q := match q.flush with
      | .crossed c ns => { q with flush := .crossed (c + 1) (ns ++ notes) }
      | _ => q
    q.noteEntry f i q.openLane)).atBoundary p d

/-! ### The holding register (R107, R108) -/

/-- The events that wait for an item of a receive queue (R305, R124, R154). -/
def rxItemNotes (h : HeldItem) : List Note :=
  let i := h.item
  let cond := i.cell.extractLsb' 11 3
  h.notes ++
  (match h.af with
   | some b => [{ k := 3, bit := b.val }]
   | none => []) ++
  (if i.isMark then (if i.isType 1 then [{ k := 2, bit := 5 }] else [])
   else if cond = 1#3 then [{ k := 2, bit := 3 }] else if cond = 2#3 then [{ k := 2, bit := 2 }]
   else if cond = 3#3 then [{ k := 2, bit := 4 }] else [])

/-- Set the event bits and counts of an item that has entered a receive queue (R124, R154, Table 16.1). -/
def State.rxEntered (p : PortId) (h : HeldItem) (s : State) : State :=
  let i := h.item
  let cond := i.cell.extractLsb' 11 3
  let s := match h.af with
    | some b => s.markAf b p
    | none => s
  if i.isMark then
    (if i.isType 1 then s.markChar 5 p else if i.isType 9 then s.portCount 49 p else s)
  else
    let s := s.portCount 16 p
    if cond = 1#3 then s.markChar 3 p else if cond = 2#3 then s.markChar 2 p
    else if cond = 3#3 then s.markChar 4 p else s

/-- The holding register is empty. -/
def State.clearHolding (p : PortId) (s : State) : State :=
  s.modPort p (fun x => { x with rx := { x.rx with holding := none } })

/-- The Sieve accepts what waits: the pending GAP first, then the item in the holding register, which between a flush's
crossing and its boundary enters and is discarded (R47, R107, R205). -/
def State.drain (p : PortId) (s : State) : State :=
  let s := (s.atBoundary p .rx).tryGap p .rx false
  match (s.port p).rx.holding with
  | none => s.tieSync p
  | some h =>
    let s := s.boundaryBefore p .rx h.item
    let t := s.clearHolding p
    if (s.queue p .rx).flushing then ((t.rxEntered p h).flushDiscard p .rx h.item (rxItemNotes h)).tieSync p
    else if (s.queue p .rx).blocked then s.tieSync p
    else match t.enterItem p .rx h.item (h.lane == .urgent) (rxItemNotes h) none with
      | none => s.tieSync p
      | some t => ((t.rxEntered p h).deliver p).tieSync p

/-- An item on its way into a queue is lost: it joins the pending loss, and its packet goes on without it (R47, R51). -/
def State.loseItem (p : PortId) (d : Dir) (reason : BitVec 4) (i : Item) (notes : List Note) (s : State) : State :=
  let f := (s.port p).fmt d
  (s.addLoss p d reason (some 1) notes).modQueue p d (fun q => q.passBy f i)

/-- Offer an item to the holding register (R107); an item the Sieve has not accepted is overwritten (R108). -/
def State.offer (p : PortId) (h : HeldItem) (s : State) : State :=
  let s := s.drain p
  let s := match (s.port p).rx.holding with
    | none => s
    | some old =>
      let s := s.loseItem p .rx 1 old.item (old.notes ++ [({ k := 2, bit := 0 } : Note)])
      (s.modPort p (fun x => { x with rx := { x.rx with overruns := satInc x.rx.overruns } })).markChar 0 p
  (s.modPort p (fun x => { x with rx := { x.rx with holding := some h } })).drain p

/-- Offer a bulk or urgent mark. -/
def State.offerMark (p : PortId) (i : Item) (lane : QLane) (s : State) : State :=
  s.offer p { item := i, lane := lane }

/-- Write a LINE mark of code `c`: its LINE_EVENTS bit is set, and its event waits for the item (R95, R305; log
12). -/
def State.offerLine (p : PortId) (scope : BitVec 2) (c : Nat) (lane : QLane) (s : State) : State :=
  (s.markLine c p).offer p { item := lineMark scope c, lane := lane, notes := [{ k := 0, bit := c - 1 }] }

/-- Discard the item still waiting in the holding register because the Sieve cannot accept it (R285); in Sleep no item
enters the store (Table 12.4). Of its events those are due at its GAP whose bits are set (R124, R305). -/
def State.discardHolding (p : PortId) (reason : BitVec 4) (s : State) : State :=
  let s := if s.dev.st == .sleep then s else s.drain p
  match (s.port p).rx.holding with
  | none => s
  | some h => (s.clearHolding p).loseItem p .rx reason h.item h.notes

/-! ### Resets (R207, R209, R213) -/

/-- A pending flush is cancelled by a reset of its queue: the items it has discarded join the pending loss (R207,
R298). -/
def State.cancelFlush (p : PortId) (d : Dir) (s : State) : State :=
  (match (s.queue p d).flush with
   | .crossed c ns => if c = 0 then s else s.addLoss p d 5 (some c) ns
   | _ => s).modQueue p d (fun q => { q with flush := .none })

/-- The queue's items are discarded with the given reason (an unknown count where the copies disagree, R213), and the GAP
is written at once (R209, R471). What it holds twice is written anew. A port in line-fault, in the hold or the discard,
discards what enters its transmit queue later into a new record (Table 10.2). -/
def State.emptyQueue (p : PortId) (d : Dir) (reason : BitVec 4) (known : Bool) (extra : Nat) (s : State) : State :=
  let q := s.queue p d
  let n := q.items + extra
  let r := q.clear true (s.pool p)
  let s := (s.modPort p (fun x => x.renewQueue d r.1)).setPool p r.2
  let s := match d with
    | .rx => s
    | .tx => s.lossSince p q.oldest
  let notes := match d with
    | .rx => q.allNotes
    | .tx => []
  let s := if !known then s.addLoss p d reason none notes
    else if n = 0 then s else s.addLoss p d reason (some n) notes
  let rg := regionOf p
  let s := if (s.region rg).reclaim then s
    else (s.modRegion rg (fun y => { y with reclaim := true })).count (0x040 + 4 * rg.val)
  let s := s.tryGap p d true
  match d with
  | .rx => s.drain p
  | .tx => (s.modPort p (fun x =>
      { x with line := { x.line with lfDiscard := x.line.lfDiscard || (x.inRun && !x.frozen && x.lineFault) } })).tieSync p

/-- The reset of one queue (R209, R213): it cancels a pending flush, whose count joins before the queue's own (R298). -/
def State.resetQueue (p : PortId) (d : Dir) (reason : BitVec 4) (known : Bool) (extra : Nat) (s : State) : State :=
  (s.cancelFlush p d).emptyQueue p d reason known extra

/-! ### Queue integrity (R211 to R213, R215) -/

/-- The QUEUE_FAULTS bit of a direction and of one of the two checks (Table 7.14). -/
def faultBit (d : Dir) (parity : Bool) : Fin 4 :=
  match d, parity with
  | .rx, false => 0 | .rx, true => 1 | .tx, false => 2 | .tx, true => 3

/-- Reserved segments whose owner tag differs from its second copy (R211). -/
def QCheck.tornTags (c q : QCheck) : Nat := ((q.tags.zip c.tags).filter (fun t => t.1 && !t.2)).length
/-- Free segments of the queue's own list of which the same holds. -/
def QCheck.tornFree (c q : QCheck) : Nat := ((q.freeTags.zip c.freeTags).filter (fun t => t.1 && !t.2)).length
/-- Of the segments a queue's reclaim returns, `n` that waited as reserved ones and `free` of its own list, whose owner tags
disagree, go to the pool (R215). -/
def State.divertTags (p : PortId) (d : Dir) (n free : Nat) (s : State) : State :=
  s.modQueue p d (fun q =>
    let k := min n q.reclaimOwn
    let f := min free q.freeOwn
    { q with reclaimOwn := q.reclaimOwn - k, freeOwn := q.freeOwn - f, reclaimPool := q.reclaimPool + k + f })

/-- The second links and tags of a region's pool are written anew (R215). -/
def State.renewPool (r : RegionId) (s : State) : State := s.modRegion r (fun y => { y with poolUpsets := [] })

/-- The reset of R213, of a queue whose copies were compared as `c` and `q`: with reason Pointer or parity, its count
known where both copies of the item count agree; the fault bits and the RESETS count follow, and 1,000 ms of outage
(Table 10.8). A segment whose owner tags the upset parts is reclaimed into the pool (R215). -/
def State.faultReset (p : PortId) (d : Dir) (c q : QCheck) (s : State) : State :=
  let ptr := c.pointerFails q || !(s.region (regionOf p)).poolUpsets.isEmpty
  let s := ((s.renewPool (regionOf p)).resetQueue p d 6 (c.items == q.items) 0).divertTags p d (c.tornTags q) (c.tornFree q)
  let s := s.modPort p (fun x => match d with
    | .rx => { x with resetsRx := satInc x.resetsRx, outage := satAdd x.outage 1000 }
    | .tx => { x with resetsTx := satInc x.resetsTx, outage := satAdd x.outage 1000 })
  let s := if ptr then s.qFaultEvent (faultBit d false) p else s
  if c.parityFails q then s.qFaultEvent (faultBit d true) p else s

/-- An access whose comparison or parity check fails resets its queue (R213). -/
def State.resetParted (p : PortId) (d : Dir) (s : State) : State :=
  if s.sound p d then s else s.faultReset p d ((s.port p).checkOf d) (s.queue p d).check

/-- A flush crosses into the core island (R205): the queue is emptied, and where it stands between packets the boundary is
now. Where the copies of its segments disagree as they are freed, the flush's count joins the reset's loss, and the flush is
cancelled (R213, R298, Table 10.3). -/
def State.crossFlush (p : PortId) (d : Dir) (s : State) : State :=
  let x := s.port p
  let q := s.queue p d
  let whole := s.sound p d
  let r := q.clear (!whole) (s.pool p)
  let s := match d with
    | .rx => s
    | .tx => s.lossSince p q.oldest
  let s := s.putQueue p d { r.1 with flush := .crossed q.items (match d with | .rx => q.allNotes | .tx => []) } r.2
  if whole then
    (if d == .tx && x.txSinks then s.takeFlush p (if x.txOff then 3 else 4) else s.atBoundary p d).tieSync p
  else s.faultReset p d (x.checkOf d) q.check

/-- Discard every item of a queue (R284, R88, R338) and add the count to its pending loss. Where the copies of its segments
disagree as they are freed, the queue is reset, and its count joins that loss (R213, R298); in Sleep the bank is in
retention, and nothing is compared until it ends. -/
def State.discardQueue (p : PortId) (d : Dir) (reason : BitVec 4) (s : State) : State :=
  let q := s.queue p d
  let whole := s.dev.st == .sleep || s.sound p d
  let r := q.clear (!whole) (s.pool p)
  let t := s.putQueue p d r.1 r.2
  let t := if q.items = 0 then t
    else match d with
      | .rx => t.addLoss p d reason (some q.items) q.allNotes
      | .tx => (t.lossSince p q.oldest).addLoss p d reason (some q.items) []
  if whole then t else t.faultReset p d ((s.port p).checkOf d) q.check

/-! ### Host items (R265, R273, R338, R88) -/

/-- A host item carried to a transmit queue that is discarded and counted (R47): it counts in ENTERED and P. `o` is the
place of its write in the order of acceptance. -/
def State.txLost (p : PortId) (reason : BitVec 4) (i : Item) (o : Nat) (s : State) : State :=
  ((s.lossSince p (some o)).loseItem p .tx reason i []).modPort p (fun x => { x with entered := x.entered + 1 })

/-- An item that finds no room is discarded with TXC_OVER (R273), but not where only a held record stops it (R47). -/
def State.txOver (p : PortId) (i : Item) (o : Nat) (s : State) : State :=
  let t := s.txLost p 7 i o
  if (s.queue p .tx).pend.any (fun r => r.held) then t else t.hostError 4

/-- Place one host item into a transmit queue: its cells count in P, and it enters, or is discarded into the pending
loss (State in Off, Line fault after the hold, Flush before a boundary, Unknown with TXC_OVER where no cell is free)
(R265, R273, R338, R88, R205, R47). `o` is the place of its write in the order of acceptance. -/
def State.txEnter (p : PortId) (i : Item) (urgent : Bool) (o : Nat) (s : State) : State :=
  let s := s.modPort p (fun x => { x with placed := x.placed + BitVec.ofNat 24 i.cells })
  let x := s.port p
  if x.txOff then s.txLost p 3 i o
  else if x.line.lfDiscard then s.txLost p 4 i o
  else
    let s := s.boundaryBefore p .tx i
    if (s.queue p .tx).flushing then
      ((s.lossSince p (some o)).flushDiscard p .tx i []).modPort p (fun x => { x with entered := x.entered + 1 })
    else
      let s := s.tryGap p .tx false
      if (s.queue p .tx).blocked then s.txOver p i o
      else match s.enterItem p .tx i urgent [] (some o) with
        | none => s.txOver p i o
        | some t => (t.modPort p (fun x => { x with entered := x.entered + 1 })).tieSync p

end Sys2Proof.Machine
end

