-- ==== Sys2Proof/Machine/Detect.lean ====
section
/-! DEFINITION. The receive path behind the character engine: flow-code recognition and station credits
(06_flow_control_and_ties.md R156 to R166), the address detector and the frame engine (05_addressing_and_frames.md
R126 to R148). -/

namespace Sys2Proof.Machine

/-! ### Lanes (R126, R127) -/

/-- The lane of a mark that falls into the current packet (R127). -/
def Port.markLane (x : Port) : QLane :=
  let u := x.rxUrgent
  if u = 1#2 then .urgent
  else if u = 2#2 && x.af.curUrgent then .urgent
  else if u = 3#2 && x.af.rxFrame == .payload && x.af.rxUrgent then .urgent
  else .bulk
/-- The lane of an item the rules call bulk: urgent under RX_URGENT = 01 (R126). -/
def Port.plainLane (x : Port) : QLane := if x.rxUrgent = 1#2 then .urgent else .bulk

/-! ### Flow codes (R156 to R159, R165, R166) -/

/-- A received value is a flow code of the port's mode (R156). -/
def Port.isFlowCode (x : Port) (ch : BitVec 9) : Bool :=
  x.fcMode != 0 &&
    if x.dataBits = 9 then ch.toNat ≥ 0x1F0
    else ch == x.holdCode.setWidth 9 || ch == x.resumeCode.setWidth 9
/-- A hold code. -/
def Port.isHold (x : Port) (ch : BitVec 9) : Bool :=
  if x.dataBits = 9 then ch == 0x1F0#9 else ch == x.holdCode.setWidth 9
/-- A resume code. -/
def Port.isResume (x : Port) (ch : BitVec 9) : Bool :=
  if x.dataBits = 9 then ch == 0x1F1#9 else ch == x.resumeCode.setWidth 9

/-- Act on a flow code and remove it (R157, R159, R165). A profile may give HOLD_CODE and RESUME_CODE one value: the character is
then always a hold (R156; log 155, DESIGN CHOICE). -/
def State.actFlowCode (p : PortId) (ch : BitVec 9) (s : State) : State :=
  let x := s.port p
  if x.isHold ch then
    if x.flow.held then s
    else
      ((s.modPort p (fun x => { x with flow := { x.flow with held := true, holdWarned := false,
                                                             holdsRx := satInc x.flow.holdsRx } })).portCount 34 p).tieSync p
  else if x.isResume ch then
    if x.flow.held then
      (s.modPort p (fun x => { x with flow := { x.flow with held := false, holdWarned := false } })).tieSync p
    else s
  else if x.credits then
    (s.modPort p (fun x =>
      { x with flow := { x.flow with txCredit := satAdd x.flow.txCredit (2 ^ (ch.toNat - 0x1F2)) } })).tieSync p
  else s

/-- A received character that is no flow code uses a granted credit, or violates it (R166). -/
def State.useGrant (p : PortId) (s : State) : State :=
  let x := s.port p
  if !x.credits then s
  else if x.flow.rxOutstanding = 0 then s.flowEvent 1 p
  else (s.modPort p (fun x => { x with flow := { x.flow with rxOutstanding := x.flow.rxOutstanding - 1 } })).tieSync p

/-! ### The address detector (R128 to R134) -/

/-- An address pair matches (R128). -/
def pairMatches (w : Word) (a : Byte) : Bool :=
  w.getLsbD 17 && ((a ^^^ bits w 0 8) &&& bits w 8 8) == 0

/-- The match: index and urgent flag of the lowest-numbered matching pair, else broadcast (R128, R129). -/
def Port.addrMatch (x : Port) (a : Byte) : Option (BitVec 4 × Bool) :=
  match (List.finRange 8).find? (fun k => pairMatches (x.cfg[8 + k.val]'(by omega)) a) with
  | some k => some (BitVec.ofNat 4 k.val, (x.cfg[8 + k.val]'(by omega)).getLsbD 16)
  | none =>
    if x.cfg[7].getLsbD 8 && a == bits x.cfg[7] 0 8 then some (8#4, x.cfg[7].getLsbD 9) else none

/-- Change the address detector and frame engine of a port. -/
def State.modAf (p : PortId) (f : AfSt → AfSt) (s : State) : State := s.modPort p (fun x => { x with af := f x.af })

/-- A character not entered (R132). -/
def State.muteDiscard (p : PortId) (s : State) : State :=
  ((s.modAf p (fun a => { a with muteDiscards := satInc a.muteDiscards })).portCount 30 p).tieSync p

/-- One character in 9-bit address mode (Table 5.2); one that is not entered ends no packet (R51; log 96). -/
def State.addrChar (p : PortId) (cond : BitVec 3) (ch : BitVec 9) (s : State) : State :=
  let x := s.port p
  let muted := x.mute && x.af.muted
  let i := charItem cond ch
  if !ch.getLsbD 8 then
    if muted then s.muteDiscard p else s.offer p { item := i, lane := x.markLane }
  else if cond = 1#3 || cond = 2#3 || cond = 4#3 then
    (s.modAf p (fun a => { a with damagedAddr := satInc a.damagedAddr, muted := x.mute, curUrgent := false,
                                  lastIndex := 15 })).offer p { item := i, lane := x.plainLane, af := some 0 }
  else match x.addrMatch (ch.setWidth 8) with
    | some (k, u) =>
      let lane : QLane := if x.rxUrgent = 1#2 || (x.rxUrgent = 2#2 && u) then .urgent else .bulk
      let m := mark1 3 ((if u then 0x10#10 else 0#10) ||| k.setWidth 10)
      let s := s.modAf p (fun a => { a with muted := false, curUrgent := lane == .urgent, lastIndex := k })
      (s.offer p { item := m, lane := lane }).offer p { item := i, lane := lane }
    | none =>
      let s := s.modAf p (fun a => { a with muted := x.mute, curUrgent := x.mute && a.curUrgent, lastIndex := 15 })
      if x.mute then s.muteDiscard p else s.offer p { item := i, lane := x.plainLane }

/-! ### The frame engine (R138 to R148) -/

/-- The identifier's parity bits (R138), as bits 1:0 of the answer: P1 P0. -/
def pidParity (id : BitVec 6) : BitVec 2 :=
  let p0 := id.getLsbD 0 ^^ id.getLsbD 2 ^^ id.getLsbD 4
  let p1 := !(id.getLsbD 1 ^^ id.getLsbD 3 ^^ id.getLsbD 5)
  (if p1 then 2#2 else 0#2) ||| (if p0 then 1#2 else 0#2)
/-- The protected identifier of an identifier. -/
def pidByte (id : BitVec 6) : Byte := ((pidParity id).setWidth 8 <<< 6) ||| id.setWidth 8
/-- The header check (R139). -/
def frameCrc (pid : Byte) (len : Nat) : Byte :=
  crc8 0xFF#8 [pid, BitVec.ofNat 8 len, BitVec.ofNat 8 (len / 256 % 4)]
/-- The frame-table entry of a protected identifier (R140). -/
def State.frameEntry (s : State) (pid : Byte) : BitVec 16 :=
  s.boot.frames[(pid.toNat % 64)]'(Nat.mod_lt _ (by decide))

/-- Write FRAME_ERR: in the frame's lane after FRAME_START, else bulk; it is counted, and its entry into the queue sets its
AF_EVENTS bit; the engine waits for a break (R146, R147, R154). -/
def State.frameErr (p : PortId) (code : BitVec 4) (s : State) : State :=
  let x := s.port p
  let lane := if x.af.rxFrame == .payload then x.markLane else x.plainLane
  (s.modAf p (fun a => { a with frameErrs := satInc a.frameErrs, rxFrame := .wait, rxRemain := 0 })).offer p
    { item := mark1 6 (code.setWidth 10), lane := lane, af := some 1 }
/-- FRAME_ERR for an open header or frame only. -/
def State.frameErrIfOpen (p : PortId) (code : BitVec 4) (s : State) : State :=
  if (s.port p).af.rxFrame == .wait then s else s.frameErr p code

/-- Write FRAME_END (R143). -/
def State.frameEnd (p : PortId) (s : State) : State :=
  let x := s.port p
  let lane := x.markLane
  let s := s.modAf p (fun a => { a with framesOk := satInc a.framesOk, rxFrame := .wait, rxRemain := 0 })
  (s.portCount 29 p).offerMark p (mark1 5 (BitVec.ofNat 10 (min x.af.rxLen 1023))) lane

/-- Write FRAME_START and open the payload (R142, R143, R148). -/
def State.frameStart (p : PortId) (s : State) : State :=
  let x := s.port p
  let e := s.frameEntry x.af.rxPid
  let arg : BitVec 10 := (if e.getLsbD 13 then 0x100#10 else 0#10) ||| x.af.rxPid.setWidth 10
  let s := s.modAf p (fun a => { a with rxFrame := .payload, rxUrgent := e.getLsbD 14,
                                        rxRemain := BitVec.ofNat 10 a.rxLen })
  let s := s.offerMark p (mark1 4 arg) (s.port p).markLane
  if x.af.rxLen = 0 then s.frameEnd p else s

/-- One character in frame mode (R142, R143, R147). RX_PID takes the identifier of every header, of one whose checks then
fail too (Table 5.15; log 109, DESIGN CHOICE). -/
def State.frameChar (p : PortId) (cond : BitVec 3) (ch : BitVec 9) (s : State) : State :=
  let x := s.port p
  let b : Byte := ch.setWidth 8
  let bad := cond = 1#3 || cond = 2#3
  match x.af.rxFrame with
  | .wait => s.offer p { item := charItem cond ch, lane := x.plainLane }
  | .payload =>
    let s := s.offer p { item := charItem cond ch, lane := x.markLane }
    let s := s.modAf p (fun a => { a with rxRemain := a.rxRemain - 1 })
    if (s.port p).af.rxRemain = 0 then s.frameEnd p else s
  | .sync =>
    if cond = 4#3 then s
    else if bad then s.frameErr p 5 else if b != x.sync then s.frameErr p 1
    else s.modAf p (fun a => { a with rxFrame := .pid })
  | .pid =>
    if cond = 4#3 then s
    else if bad then s.frameErr p 5
    else
      let s := s.modAf p (fun a => { a with rxPid := b })
      let e := s.frameEntry b
      if (b.extractLsb' 6 2) != pidParity (b.extractLsb' 0 6) then s.frameErr p 2
      else if !e.getLsbD 15 then s.frameErr p 4
      else if e.getLsbD 13 then s.modAf p (fun a => { a with rxFrame := .len })
      else s.modAf p (fun a => { a with rxFrame := .check, rxLen := (e.extractLsb' 0 10).toNat })
  | .len =>
    if cond = 4#3 then s
    else if bad then s.frameErr p 5
    else s.modAf p (fun a => { a with rxFrame := .check, rxLen := b.toNat })
  | .check =>
    if cond = 4#3 then s
    else if bad then s.frameErr p 5
    else if b != frameCrc x.af.rxPid x.af.rxLen then s.frameErr p 3
    else s.frameStart p

/-- A conditioned character passes flow control, then the detector in use, then the holding register (R131, R107). -/
def State.enterChar (p : PortId) (cond : BitVec 3) (ch : BitVec 9) (s : State) : State :=
  let x := s.port p
  if (cond = 0#3 || cond = 3#3) && x.isFlowCode ch then s.actFlowCode p ch
  else
    let s := s.useGrant p
    if x.addrMode then s.addrChar p cond ch
    else if x.frameEn then s.frameChar p cond ch
    else s.offer p { item := charItem cond ch, lane := x.plainLane }

end Sys2Proof.Machine
end

