-- ==== Sys2Proof/Machine/LineOps.lean ====
section
/-! DEFINITION. Line units at port level: LINE marks against the reported record, the line-mode decision, the entry to
and exit from line-fault and fall-back, roles and polarity (03_line_units.md R63 to R93; 10_recovery.md R285, R293 to
R296). -/

namespace Sys2Proof.Machine

/-- Replace one pair. -/
def LineSt.setPair (l : LineSt) (pr : PairId) (q : PairSt) : LineSt :=
  match pr with
  | .a => { l with a := q }
  | .b => { l with b := q }
/-- Change one pair. -/
def LineSt.modPair (l : LineSt) (pr : PairId) (f : PairSt → PairSt) : LineSt := l.setPair pr (f (l.pair pr))
/-- Change both pairs. -/
def LineSt.modBoth (l : LineSt) (f : PairSt → PairSt) : LineSt := { l with a := f l.a, b := f l.b }
/-- The other pair. -/
def otherPair : PairId → PairId
  | .a => .b
  | .b => .a
/-- Change a port's line. -/
def State.modLine (p : PortId) (f : LineSt → LineSt) (s : State) : State :=
  s.modPort p (fun x => { x with line := f x.line })

/-! ### The decision (R85, Table 3.7) -/

/-- The line mode two pairs give a port, without regard to an earlier fall-back. -/
def Port.tableMode (x : Port) (l : LineSt) : LineMode :=
  if x.multidrop then (if (l.pair l.rxRole).cond = 0#4 then .multidrop else .lineFault)
  else
    let t := (l.pair (l.txRole false)).cond
    let r := (l.pair l.rxRole).cond
    if t = 8#4 || r = 8#4 then .lineFault
    else if t = 0#4 then
      if r = 0#4 || r = 1#4 then .full else if x.fbEn then .fallback (l.txRole false) else .lineFault
    else if r = 0#4 then (if x.fbEn then .fallback l.rxRole else .lineFault)
    else .lineFault

/-- The port decides again (R85); fall-back is kept while its pair is good, until R93 ends it. -/
def Port.decideMode (x : Port) (l : LineSt) : LineMode :=
  match x.line.mode with
  | .fallback pr => if !x.multidrop && (l.pair pr).cond = 0#4 && x.tableMode l != .lineFault then .fallback pr else x.tableMode l
  | _ => x.tableMode l
/-- The driver that a retry left on at mark stays on as its pair turns good: on the transmit-role pair in full duplex,
and in fall-back on the other pair until R93 ends it (R81, Table 3.15 steps 11 and 12; log 101). -/
def LineSt.idlesDriven (l : LineSt) (pr : PairId) : Bool :=
  pr == l.txRole false && match l.mode with
    | .full => true
    | .fallback sh => pr != sh
    | _ => false
/-- Where a retry's driver stays on at mark, once the pairs have changed and the line mode is decided: while its pair
shows condition 3 or 5, and then while it is good. In any other condition the driver is off, and does not come back
(R81, R330). -/
def LineSt.endRetries (l : LineSt) : LineSt :=
  { l with a := { l.a with retry := l.a.retrying && (l.a.cond != 0#4 || l.idlesDriven .a) }
           b := { l.b with retry := l.b.retrying && (l.b.cond != 0#4 || l.idlesDriven .b) } }
/-- The port with its pairs changed, deciding its line mode again (R85). -/
def Port.withLine (x : Port) (l : LineSt) : Port :=
  { x with line := ({ l with mode := x.decideMode l } : LineSt).endRetries }

/-! ### LINE marks (R75, R86, R93, R294, Table 3.8) -/

/-- The LINE code of entering a condition (Table 3.6); "not used" has none. -/
def condCode (c : BitVec 4) : Option Nat :=
  match c.toNat with
  | 0 => some 0x07 | 1 => some 0x06 | 2 => some 0x02 | 3 => some 0x01 | 4 => some 0x03
  | 5 => some 0x04 | 6 => some 0x05 | 7 => some 0x11 | 8 => some 0x13 | _ => none
/-- The scope of a condition mark: protection and lane failure are marked for both pairs (Table 3.8). -/
def condScope (pr : PairId) (code : Nat) : BitVec 2 := if code = 0x11 || code = 0x13 then 3#2 else pairScope pr

/-- Condition marks from reported conditions `ra`, `rb` to `na`, `nb`: pair A before pair B, one mark where both show
the same change, and 0x12 with the first pair that returns from Protection to good (R75, R86, R294). -/
def condMarks (ra rb na nb : BitVec 4) : List (BitVec 2 × Nat) :=
  let a := if ra = na then none else if ra = 9#4 && na = 0#4 then none else condCode na
  let b := if rb = nb then none else if rb = 9#4 && nb = 0#4 then none else condCode nb
  let relA := ra = 7#4 && na = 0#4
  let relB := rb = 7#4 && nb = 0#4
  let rel : List (BitVec 2 × Nat) := if (relA && rb = 7#4) || (relB && ra = 7#4) then [(3#2, 0x12)] else []
  match a, b with
  | some ca, some cb =>
    if ca = cb then rel ++ [(3#2, ca)]
    else if relA then rel ++ [(condScope .a ca, ca), (condScope .b cb, cb)]
    else (condScope .a ca, ca) :: rel ++ [(condScope .b cb, cb)]
  | some ca, none => rel ++ [(condScope .a ca, ca)]
  | none, some cb => rel ++ [(condScope .b cb, cb)]
  | none, none => []

/-- Line-mode marks (R75 point 5, R86): entry to or exit from fall-back, then line-fault. -/
def modeMarks (old new : LineMode) : List (BitVec 2 × Nat) :=
  (match old, new with
   | _, .fallback pr => if old == new then [] else [(pairScope pr, 0x08)]
   | .fallback _, _ => [(3#2, 0x09)]
   | _, _ => []) ++
  (if new == .lineFault && old != .lineFault then [(0#2, 0x14)]
   else if old == .lineFault && new != .lineFault then [(0#2, 0x15)] else [])

/-- POL_UNVERIFIED (Table 3.9). -/
def LineSt.polUnverified (l : LineSt) : Bool := l.a.unverified || l.b.unverified

/-- The conditions to report: in fall-back the failed pair's return to good waits for R93. -/
def LineSt.reportConds (l : LineSt) : BitVec 4 × BitVec 4 :=
  let keep (pr : PairId) (old new : BitVec 4) : BitVec 4 :=
    match l.mode with
    | .fallback sh => if pr != sh && new = 0#4 then old else new
    | _ => new
  (keep .a l.reported.condA l.a.cond, keep .b l.reported.condB l.b.cond)

/-- The LINE marks that bring the reported record up to the line, in the order of R75. -/
def LineSt.dueMarks (l : LineSt) : List (BitVec 2 × Nat) :=
  let r := l.reported
  let n := l.reportConds
  (if l.swapped && !r.swapped then [(3#2, 0x0D)] else if !l.swapped && r.swapped then [(3#2, 0x0E)] else []) ++
  (if l.a.inv && !r.invA then [(1#2, 0x0B)] else if !l.a.inv && r.invA then [(1#2, 0x0C)] else []) ++
  (if l.b.inv && !r.invB then [(2#2, 0x0B)] else if !l.b.inv && r.invB then [(2#2, 0x0C)] else []) ++
  (if l.polUnverified && !r.unverified then
     [((if l.a.unverified then 1#2 else 0#2) ||| (if l.b.unverified then 2#2 else 0#2), 0x0F)] else []) ++
  condMarks r.condA r.condB n.1 n.2 ++ modeMarks r.mode l.mode

/-- The record after those marks. A return to verified polarity, which writes no mark, clears the record's
POL_UNVERIFIED with them (log 100, DESIGN CHOICE). -/
def LineSt.report (l : LineSt) : LineSt :=
  let n := l.reportConds
  { l with reported :=
      { swapped := l.swapped, invA := l.a.inv, invB := l.b.inv, unverified := l.polUnverified,
        condA := n.1, condB := n.2, mode := l.mode } }

/-- LINE marks are written now: in Run, and the receiver enters items (R86, R290). -/
def Port.marksNow (x : Port) : Bool := x.inRun && !x.frozen

/-- Write the due LINE marks, each in the lane of the packet in which it falls (R127). -/
def State.writeLineMarks (p : PortId) (s : State) : State :=
  if !(s.port p).marksNow then s
  else
    let ms := (s.port p).line.dueMarks
    let s := s.modLine p LineSt.report
    ms.foldl (fun t m => t.offerLine p m.1 m.2 (t.port p).markLane) s

/-! ### Entering and leaving line-fault (R88, R133, R147, R161, R175, R285) -/

/-- No driver stays on at mark after a retry: the port's drivers are off (R290, Table 12.5). -/
def LineSt.driversOff (l : LineSt) : LineSt := l.modBoth (fun q => { q with retry := false })

/-- The transmitter stops at once, with a frame header in progress. -/
def TxSt.stop (t : TxSt) : TxSt := { t with now := .idle, header := [], driver := false, backoff := false }

/-- What a port does on entering line-fault: the transmitter stops, whatever it is sending on a pair that is still good
(log 159, DESIGN CHOICE), and a waiting tie member leaves its round. A break that goes on, on a receive pair that is
still good, is lost there: the port samples no more (R59; log 119). -/
def State.enterLineFault (p : PortId) (s : State) : State :=
  let s := if (s.port p).rx.phase == .inBreak then
      ((s.modPort p (fun x => { x with rx := { x.rx with phase := .hunting } })).addLoss p .rx 3 none []).drain p
    else s
  (s.modPort p (fun x => { x with tx := x.tx.stop })).leaveTie p

/-- A port out of line-fault: flow state cleared, detector muted, the current packet bulk, frames closed (R133, R147,
R161). -/
def Port.outOfLineFault (x : Port) : Port :=
  { x with
    line := { x.line with lfDiscard := false }
    flow := { x.flow with held := false, holdWarned := false, txCredit := 0, rxOutstanding := 0 }
    af := { x.af with muted := x.mute, curUrgent := false, rxFrame := .wait, rxRemain := 0, txFrame := .outside }
    tx := { x.tx with header := [] } }

/-- What a port does on leaving line-fault: the Line fault GAP is written, directly followed by the FLUSH of a flush that
took effect meanwhile (R88, R298). -/
def State.leaveLineFault (p : PortId) (s : State) : State :=
  ((s.modPort p Port.outOfLineFault).tryGap p .tx false).tieSync p

/-- Number of pairs in condition 3 or 5 (SHORTED, R332). -/
def State.shorted (s : State) : Nat :=
  (s.presentPorts.map (fun p =>
    let l := (s.port p).line
    (if l.a.cond = 3#4 || l.a.cond = 5#4 then 1 else 0) + (if l.b.cond = 3#4 || l.b.cond = 5#4 then 1 else 0))).sum

/-- Start and end the outage charges for conditions 8 and 7 (Table 10.8, R301): each reaches PORT_OUTAGE as its
condition ends, in whole milliseconds (log 138, DESIGN CHOICE). -/
def Port.chargeOutage (x : Port) (now : Nat) : Port :=
  let lane := x.line.a.cond = 8#4 || x.line.b.cond = 8#4
  let prot := x.line.a.cond = 7#4 || x.line.b.cond = 7#4
  let x := match lane, x.outLane with
    | true, none => { x with outLane := some now }
    | false, some t => { x with outLane := none, outage := satAdd x.outage ((now - t) / 1000) }
    | _, _ => x
  match prot, x.outProt with
  | true, none => { x with outProt := some now }
  | false, some t => { x with outProt := none, outage := satAdd x.outage ((now - t) / 1000) }
  | _, _ => x

/-- The transmitter once the pairs have changed: a character on a pair that has failed or is no longer the one used is
aborted, and on entry to half duplex the driver stays on only for a character in progress (R80, R89, R90). The driver
goes off with every condition of its pair, an open one too (log 158, DESIGN CHOICE). -/
def Port.txAfter (x : Port) (l : LineSt) : TxSt :=
  let y := { x with line := l }
  if (l.pair x.sendPair).cond != 0#4 || y.sendPair != x.sendPair then { x.tx with now := .idle, driver := false }
  else if y.halfDuplex && !x.halfDuplex then { x.tx with driver := x.tx.now != .idle }
  else x.tx

/-- A character ended under R87, its bits not yet sampled read as 1. Where it is the last of a frame's payload, FRAME_END
follows it and no FRAME_ERR of code 0x8 does (R143 against Table 5.7; log 147, DESIGN CHOICE). -/
def cutChar (dataBits : Nat) (b : BitVec 9) (n : Nat) : BitVec 9 :=
  let ones : BitVec 9 := BitVec.allOnes 9 <<< n
  (b ||| ones) &&& (BitVec.allOnes 9 >>> (9 - dataBits))

/-- A change of a port's pairs (R85 to R89, R113, R148): a break in the shifter is closed first, the mode is decided
again, the LINE marks are written, a character in the shifter is entered with condition line-fault, unless the port's
own driver blanks the receiver (R137), and an open frame on a lost receive path ends with FRAME_ERR 0x8 (log 14). The
centre offset goes to 0 where the receive-role pair, the same or another, is good again (R101). The marks of a
line-fault that ends take the lane of the packet before it, which becomes bulk after them (log 98, DESIGN CHOICE).
Outside Run the port enters no line-fault, and no tie round loses a member by one (log 127, DEDUCED). -/
def State.lineChange (p : PortId) (mid : Mid) (f : LineSt → LineSt) (s : State) : State :=
  let x := s.port p
  let l := (x.withLine (f x.line)).line
  let shorts := s.shorted
  let wasFault := x.line.mode == .lineFault
  let isFault := l.mode == .lineFault
  let listen := x.line.listen
  let lost := x.marksNow && (x.line.pair listen).cond = 0#4 && (l.pair listen).cond != 0#4
  let moved := l.listen != listen
  let cut := match mid with
    | .char _ _ => lost && x.rx.phase == .hunting && !x.blanked
    | _ => false
  -- R113: a break closes at once, ahead of the LINE marks
  let s := if lost && x.rx.phase == .inBreak then
      let n := match mid with
        | .brk k => k
        | _ => 0
      (s.modPort p (fun x => { x with rx := { x.rx with phase := .hunting } })).offerMark p (breakMark false n) x.markLane
    else s
  let s := if x.marksNow && isFault && !wasFault then s.discardHolding p 4 else s
  let s := s.modPort p (fun x =>
    ({ x with line := { l with lineEvents := x.line.lineEvents }, tx := x.txAfter l }).chargeOutage s.coreUs)
  let s := s.writeLineMarks p
  let s := match mid with
    | .char b n => if cut then s.enterChar p 4 (cutChar x.dataBits b n) else s
    | _ => s
  let s := if x.marksNow && (cut || moved || (isFault && !wasFault)) then s.frameErrIfOpen p 8 else s
  let s := if (l.pair l.rxRole).cond = 0#4 &&
        ((x.line.pair x.line.rxRole).cond != 0#4 || (x.line.pair l.rxRole).cond != 0#4) then
      s.modPort p (fun x => { x with rx := { x.rx with centre := 0 } }) else s
  let s := if x.inRun && isFault && !wasFault then s.enterLineFault p
    else if x.inRun && wasFault && !isFault then s.leaveLineFault p else s
  let s := if shorts < 4 && 4 ≤ s.shorted then s.powerEvent 4 else s
  s.tieSync p

/-! ### Roles and polarity (R71, R72) -/

/-- The pair's step 4 bias sets its polarity, or leaves it unverified (R71); only a pair that is present is sensed
(Table 3.3 step 4), and any other keeps what it had (log 160, DESIGN CHOICE). -/
def PairSt.fromBias (q : PairSt) (r : PairSense) : PairSt :=
  if q.short || q.ground || q.foreign || q.opn then q
  else if r.biasWeak then { q with inv := false, unverified := true } else { q with inv := r.biasNeg, unverified := false }
/-- A driven pair's sign sets its polarity. -/
def PairSt.fromDrive (q : PairSt) (r : PairSense) : PairSt := { q with inv := r.drive == .neg, unverified := false }

/-- One pair in its role as steps 2 and 4 of Table 3.3 find it (R71): a driven pair takes its drive's sign, in contention
where it has the transmit role; an undriven one its bias, undriven where it has the receive role. -/
def PairSt.sensed (q : PairSt) (rxRole : Bool) (r : PairSense) : PairSt :=
  if r.drive != .undriven then { q.fromDrive r with undriven := false, contention := !rxRole }
  else { q.fromBias r with undriven := rxRole, contention := false }

/-- The bus pair as steps 2 and 4 of Table 3.3 find it (R71): it has the transmit role too (Table 3.1), so one that a
station drives is in contention (Table 3.6); a free one takes its bias. Step 4 senses undriven pairs only, and a driven
bus pair keeps its polarity (log 117, DESIGN CHOICE). -/
def PairSt.sensedBus (q : PairSt) (r : PairSense) : PairSt :=
  if r.drive != .undriven then { q with undriven := false, contention := true }
  else { q.fromBias r with undriven := false, contention := false }

/-- Roles and polarity from steps 2 and 4 of Table 3.3 (R71), with the conditions those steps find. Where both pairs are
driven, the roles stay and each pair's polarity follows its drive (log 99, DESIGN CHOICE). -/
def LineSt.assign (l : LineSt) (multidrop : Bool) (sa sb : PairSense) : LineSt :=
  if multidrop then
    l.modPair l.rxRole (fun q => q.sensedBus (match l.rxRole with | .a => sa | .b => sb))
  else
    let da := sa.drive != .undriven
    let db := sb.drive != .undriven
    let l := l.modBoth (fun q => { q with notUsed := false })
    if da && db then { l with a := l.a.sensed false sa, b := l.b.sensed false sb }
    else { l with swapped := da, a := l.a.sensed da sa, b := l.b.sensed (!da) sb }

/-- The pair may change at a quick sense: it is not good, or the sense holds it back (R82, R83). -/
def PairSt.mayChange (q : PairSt) : Bool := !q.carries

/-- What a quick sense makes of the pairs (R82, R83, R71): roles change only where neither pair stayed good, and a pair
that did keeps its polarity; a pair in Protection is not measured (R296). -/
def LineSt.sense (l : LineSt) (multidrop : Bool) (sa sb : PairSense) : LineSt :=
  let n :=
    if multidrop then (if (l.pair l.rxRole).mayChange then l.assign true sa sb else l)
    else if l.a.mayChange && l.b.mayChange then l.assign false sa sb
    else { l with
      a := if l.a.mayChange then l.a.sensed l.swapped sa else l.a
      b := if l.b.mayChange then l.b.sensed (!l.swapped) sb else l.b }
  { n with
    a := { n.a with waits := false }, b := { n.b with waits := false }, sensing := false
    loopA := if l.a.prot then 0xFFF#12 else l.loopA, loopB := if l.b.prot then 0xFFF#12 else l.loopB
    loaded := l.loaded && !l.a.prot && !l.b.prot }

/-- Boost and de-emphasis from the length estimate (R72, R68): no estimate is 0xFF. -/
def boostOf (len : BitVec 8) : BitVec 4 :=
  if len = 0xFF#8 then 8#4 else BitVec.ofNat 4 (min 15 ((len.toNat * 102 + 500) / 1000))
/-- De-emphasis code of a length estimate. -/
def deemphOf (len : BitVec 8) : BitVec 2 :=
  if len = 0xFF#8 || len.toNat ≤ 40 then 0#2 else if len.toNat ≤ 80 then 1#2 else 2#2
/-- Set the initial boost and de-emphasis (R72). -/
def LineSt.setBoost (l : LineSt) : LineSt := { l with eqBoost := boostOf l.lenEst, deemph := deemphOf l.lenEst }

end Sys2Proof.Machine
end

