-- ==== Sys2Proof/Machine/Line.lean ====
section
/-! DEFINITION. The line-unit commands (03_line_units.md R70 to R93; 10_recovery.md R293 to R296; 12 R337). A command
whose premise does not hold leaves the state unchanged (log 4). -/

namespace Sys2Proof.Machine

/-- The port exists and its line units are powered and sensed: the device serves, and the port is not in Off, or on its
way out of it, the release's included (R70, R73, R80). -/
def State.lineLive (s : State) (p : PortId) : Bool :=
  s.serving && s.present p && ((s.port p).st != .off || (s.port p).trans.isSome)

/-- The port is on its way from Off, and its line check has not ended (R70, R73). -/
def Port.unchecked (x : Port) : Bool := x.trans.any (fun t => !t.checked)
/-- Keep what a sensor finds before the line check has ended, for the check's results to stand beside (R80). -/
def PairSt.noteFound (q : PairSt) (unchecked : Bool) (f : CheckFound → CheckFound) : PairSt :=
  if unchecked then { q with found := f q.found } else q

/-- Set or clear one cause of a pair. -/
def State.pairCause (p : PortId) (pr : PairId) (mid : Mid) (f : PairSt → PairSt) (s : State) : State :=
  s.lineChange p mid (fun l => l.modPair pr f)

/-- Start the quick sense of a port in Run for pairs that left, or leave, their condition: they carry no characters until
it ends (R83). -/
def State.startSense (p : PortId) (prs : List PairId) (s : State) : State :=
  if (s.port p).inRun then
    s.modLine p (fun l =>
      { l with a := { l.a with waits := l.a.waits || prs.contains .a }
               b := { l.b with waits := l.b.waits || prs.contains .b }
               sensing := true })
  else s

/-- PORT_LANE_FAILURE (R20): both pairs take condition 8. -/
def execPortLaneFailure (p : PortId) (mid : Mid) (s : State) : Out :=
  .next (if s.serving && s.present p then s.lineChange p mid (fun l => l.modBoth (fun q => { q with lane := true }))
    else s)

/-- PORT_LANE_RECOVERED (R80, R83): both pairs leave condition 8, and a quick sense starts. -/
def execPortLaneRecovered (p : PortId) (s : State) : Out :=
  .next (if s.serving && s.present p && ((s.port p).line.a.lane || (s.port p).line.b.lane) then
      (s.lineChange p .idle (fun l => l.modBoth (fun q => { q with lane := false }))).startSense p [.a, .b]
    else s)

/-- SHORT_DETECTED (R11, R80): the trip is counted and the pair takes condition 3. -/
def execShortDetected (p : PortId) (pr : PairId) (mid : Mid) (s : State) : Out :=
  .next (if s.lineLive p then
      (s.modLine p (fun l => { l with trips := satInc l.trips })).pairCause p pr mid
        (fun q => ({ q with short := true, retry := false } : PairSt).noteFound (s.port p).unchecked
          (fun f => { f with short := true }))
    else s)

/-- SHORT_TO_GROUND (R80): the pair takes condition 5. -/
def execShortToGround (p : PortId) (pr : PairId) (mid : Mid) (s : State) : Out :=
  .next (if s.lineLive p then s.pairCause p pr mid
        (fun q => ({ q with ground := true, retry := false } : PairSt).noteFound (s.port p).unchecked
          (fun f => { f with ground := true }))
    else s)

/-- SHORT_RETRY (R81, R330): a retry that trips switches off again; one that does not leaves the driver on at mark. None
is made while another driver of the port is on (log 101, DEDUCED), on a pair that is not used (R63) or shows a condition
before 3 and 5 (R80), in a freeze (R290), or outside Run, where the drivers are off (Table 12.5; log 118, DEDUCED). -/
def execShortRetry (p : PortId) (pr : PairId) (trips : Bool) (s : State) : Out :=
  .next (
    let x := s.port p
    let q := x.line.pair pr
    if s.lineLive p && x.marksNow && !q.notUsed && (q.cond == 3 || q.cond == 5) && !x.tx.driver &&
        !(x.line.pair (otherPair pr)).retrying then
      s.modLine p (fun l =>
        { l.modPair pr (fun q => { q with retry := !trips }) with trips := if trips then satInc l.trips else l.trips })
    else s)

/-- SHORT_CLEARED (R81): 1 ms without a trip, and the pair is good again; where its driver then stays on at mark
`LineSt.endRetries` says (Table 3.15 steps 11 and 12). -/
def execShortCleared (p : PortId) (pr : PairId) (s : State) : Out :=
  .next (
    let q := (s.port p).line.pair pr
    if s.lineLive p && (q.short || q.ground) && q.retry then
      s.pairCause p pr .idle (fun q => { q with short := false, ground := false })
    else s)

/-- FOREIGN_VOLTAGE (R80): the pair is isolated in condition 4. -/
def execForeignVoltage (p : PortId) (pr : PairId) (mid : Mid) (s : State) : Out :=
  .next (if s.lineLive p then s.pairCause p pr mid
        (fun q => ({ q with foreign := true } : PairSt).noteFound (s.port p).unchecked (fun f => { f with foreign := true }))
    else s)

/-- FOREIGN_VOLTAGE_END (R80): the pair is reconnected. -/
def execForeignVoltageEnd (p : PortId) (pr : PairId) (s : State) : Out :=
  .next (if s.lineLive p && ((s.port p).line.pair pr).foreign then
      s.pairCause p pr .idle
        (fun q => ({ q with foreign := false } : PairSt).noteFound (s.port p).unchecked (fun f => { f with foreign := false }))
    else s)

/-- CONTENTION (R80): the pair the port transmits on takes condition 6. -/
def execContention (p : PortId) (mid : Mid) (s : State) : Out :=
  .next (if s.lineLive p then s.pairCause p (s.port p).sendPair mid
        (fun q => ({ q with contention := true } : PairSt).noteFound (s.port p).unchecked
          (fun f => { f with contention := true }))
    else s)

/-- OPEN_WIRE (R80): the pair takes condition 2. -/
def execOpenWire (p : PortId) (pr : PairId) (mid : Mid) (s : State) : Out :=
  .next (if s.lineLive p then s.pairCause p pr mid
        (fun q => ({ q with opn := true } : PairSt).noteFound (s.port p).unchecked (fun f => { f with opn := true }))
    else s)

/-- OPEN_WIRE_END (R80, R83): the pair leaves condition 2, and a quick sense starts. -/
def execOpenWireEnd (p : PortId) (pr : PairId) (s : State) : Out :=
  .next (if s.lineLive p && ((s.port p).line.pair pr).opn then
      (s.pairCause p pr .idle (fun q =>
        ({ q with opn := false } : PairSt).noteFound (s.port p).unchecked (fun f => { f with opn := false }))).startSense p [pr]
    else s)

/-- UNDRIVEN (R80): the receive-role pair, which the bus pair is too (Table 3.1), takes condition 1. -/
def execUndriven (p : PortId) (mid : Mid) (s : State) : Out :=
  .next (if s.lineLive p then
      s.pairCause p (s.port p).line.rxRole mid
        (fun q => ({ q with undriven := true } : PairSt).noteFound (s.port p).unchecked (fun f => { f with undriven := true }))
    else s)

/-- A pair whose leaving its condition a quick sense follows (R83). -/
def PairSt.toSense (q : PairSt) : Bool := q.undriven || q.opn || q.contention || q.lane

/-- STATION_DRIVE_SEEN (R83): drive on a pair that was undriven, open, in contention or in lane failure starts a quick
sense. -/
def execStationDriveSeen (p : PortId) (s : State) : Out :=
  .next (
    let l := (s.port p).line
    let prs := [PairId.a, .b].filter (fun pr => (l.pair pr).toSense)
    if s.lineLive p && !prs.isEmpty then s.startSense p prs else s)

/-- QUICK_SENSE_END (R83, R71, R72): roles and polarity may be reassigned, and the LINE marks are written. -/
def execQuickSenseEnd (p : PortId) (sa sb : PairSense) (s : State) : Out :=
  .next (
    let x := s.port p
    if s.lineLive p && x.line.sensing then
      s.lineChange p .idle (fun l =>
        let n := l.sense x.multidrop sa sb
        if n.swapped != l.swapped then n.setBoost else n)
    else s)

/-- LINE_FAULT_HOLD_EXPIRY (R88, R298): the transmit queue is discarded into the Line fault record, and so is every
item that enters later; a pending flush takes effect now and its FLUSH follows the GAP. A frozen port's queue holds
(R290). -/
def execLineFaultHoldExpiry (p : PortId) (s : State) : Out :=
  .next (
    let x := s.port p
    if s.lineLive p && x.inRun && !x.frozen && x.lineFault && !x.line.lfDiscard then
      (((s.takeFlush p 4).discardQueue p .tx 4).modLine p (fun l => { l with lfDiscard := true })).tieSync p
    else s)

/-- FALLBACK_EXIT (R93): the failed pair is good again and the shared pair idle, the receiver inside no character or
break, so the port returns to full duplex with marks 0x07 and 0x09. -/
def execFallbackExit (a : AtPort) (s : State) : Out :=
  .next (
    let p := a.port
    let x := s.port p
    match x.line.mode with
    | .fallback sh =>
      if s.lineLive p && (x.line.pair (otherPair sh)).carries && x.tableMode x.line == .full && x.tx.now == .idle &&
          x.rx.phase == .hunting && a.mid == .idle then
        let moved := sh != x.line.rxRole
        let s := s.modPort p (fun x => { x with line := { x.line with mode := .full },
                                                tx := { x.tx with driver := false, backoff := false } })
        let s := s.writeLineMarks p
        (if moved && x.marksNow then s.frameErrIfOpen p 8 else s).tieSync p
      else s
    | _ => s)

/-- COLLISION (R91, R92, R114, R152): the driver goes off, the character or break in progress is aborted, LINE 0x0A is
written, and the back-off starts. -/
def execCollision (p : PortId) (s : State) : Out :=
  .next (
    let x := s.port p
    match x.line.mode with
    | .fallback sh =>
      if s.lineLive p && x.marksNow && x.tx.now != .idle then
        let s := s.modPort p (fun x => { x with tx := { x.tx with now := .idle, driver := false, backoff := true },
                                                rx := { x.rx with phase := .hunting } })
        (s.offerLine p (pairScope sh) 0x0A (s.port p).markLane).tieSync p
      else s
    | _ => s)

/-- What step 3 of Table 3.3 records of a pair's loop (Table 3.10): 0xFFF if above 2,047 Ω, driven or not measured. -/
def loopField (skip : Bool) (r : PairSense) : BitVec 12 :=
  if skip || r.drive != .undriven || 4094 < r.loopHalfOhm then 0xFFF#12 else BitVec.ofNat 12 r.loopHalfOhm
/-- The conditions steps 1 and 3 find on a pair (Tables 3.3 and 3.4), beside those its sensors found before the check ended
(R80). -/
def PairSt.fromCheck (q : PairSt) (skip : Bool) (r : PairSense) : PairSt :=
  let meas := !skip && r.drive == .undriven
  { q with foreign := r.foreign || q.found.foreign, ground := r.ground || q.found.ground
           short := (meas && decide (r.loopHalfOhm < 30)) || q.found.short
           opn := (meas && decide (400000 < r.loopHalfOhm)) || q.found.opn, retry := false }
/-- Contention and lost drive that the sensors found before the check ended lie on the pairs that have the transmit and the
receive role since its step 5 (R80; log 148, DESIGN CHOICE). -/
def LineSt.settleFound (l : LineSt) (multidrop : Bool) : LineSt :=
  let cont := l.a.found.contention || l.b.found.contention
  let lost := l.a.found.undriven || l.b.found.undriven
  let t := l.txRole multidrop
  let r := l.rxRole
  let settle (pr : PairId) (q : PairSt) : PairSt :=
    { q with contention := q.contention || (cont && pr == t), undriven := q.undriven || (lost && pr == r), found := {} }
  { l with a := settle .a l.a, b := settle .b l.b }
/-- The pair the check finds not used: what its loop reads and how it is driven give it no condition (R63; log 102,
DEDUCED). -/
def PairSt.spare (q : PairSt) : PairSt :=
  { q with notUsed := true, short := false, opn := false, undriven := false, contention := false, retry := false }
/-- The length estimate from the transmit-role pair's loop, made unless the pair is unterminated or not measured, and
clipped to 0 m and 120 m (R71). -/
def lengthOf (skip : Bool) (r : PairSense) : BitVec 8 :=
  if skip || r.drive != .undriven || 600 < r.loopHalfOhm then 0xFF#8
  else BitVec.ofNat 8 (min 120 ((r.loopHalfOhm - 240) * 1000 / 336))
/-- A pair carries a bus: driven, or its loop measured and classed as present (R71, Table 3.4). -/
def sensePresent (skip : Bool) (r : PairSense) : Bool :=
  !r.foreign && !r.ground &&
    (r.drive != .undriven || (!skip && decide (30 ≤ r.loopHalfOhm) && decide (r.loopHalfOhm ≤ 400000)))

/-- The results of a line check on a line (R70 to R72, R77, R296). On a bus SWAPPED reads 0: R63 swaps roles in the
full-duplex modes only (log 116, DESIGN CHOICE). -/
def LineSt.check (l : LineSt) (multidrop light : Bool) (sa sb : PairSense) : LineSt :=
  let skipA := l.a.prot
  let skipB := l.b.prot
  let l := { l with a := l.a.fromCheck skipA sa, b := l.b.fromCheck skipB sb,
                    loopA := loopField skipA sa, loopB := loopField skipB sb }
  let l := if multidrop then
      let hereA := sensePresent skipA sa
      let hereB := sensePresent skipB sb
      -- in Protection no loop is read, and where neither pair is driven the bus pair stays as it was (R296)
      let busB := if (skipA || skipB) && !hereA && !hereB then l.rxRole == .b && l.a.notUsed else !hereA && hereB
      (if busB then { l with swapped := false, a := l.a.spare, b := { l.b with notUsed := false } }
       else { l with swapped := false, a := { l.a with notUsed := false }, b := l.b.spare }).assign true sa sb
    else l.assign false sa sb
  let l := l.settleFound multidrop
  let onA := l.txRole multidrop == .a
  let len := if onA then lengthOf skipA sa else lengthOf skipB sb
  { l with lenEst := len, eqBoost := boostOf len, deemph := deemphOf len, loaded := !light && !(skipA || skipB),
           checkDone := true, checking := false }

/-- A transition that the release began (R73). -/
def Port.releasing (x : Port) : Bool := x.trans.any (fun t => !t.byCmd)
/-- The present ports whose release goes on. -/
def State.releasingPorts (s : State) : List PortId := s.presentPorts.filter (fun p => (s.port p).releasing)
/-- Every line check of the release has ended, and its calibration with every port driving runs (R73). -/
def State.loadRound (s : State) : Bool :=
  s.serving && !s.releasingPorts.isEmpty && s.releasingPorts.all (fun p => (s.port p).trans.any (fun t => t.checked))
/-- The port's receiver is calibrated with its own transmit-role pair driving: unless its profile sets light training,
not on a pair in Protection (R77, R296), and not where the port is frozen, its drivers off (R290; log 149, DEDUCED). -/
def Port.trainsLoaded (x : Port) : Bool := !x.lightTrain && !x.frozen && !(x.line.a.prot || x.line.b.prot)

/-- At release ports 4r and 4r + 1 are checked first; the check of port p + 2 follows that of port p (R73). -/
def State.nextRound (p : PortId) (s : State) : State :=
  let n : PortId := ⟨(p.val + 2) % 16, Nat.mod_lt _ (by decide)⟩
  if p.val % 4 < 2 && s.present n && (s.port n).releasing && (s.port n).trans.any (fun t => !t.checked) then
    s.modLine n (fun l => { l with checking := true })
  else s

/-- LINE_CHECK_END (R70): the results are recorded and the check channel is released. -/
def execLineCheckEnd (p : PortId) (sa sb : PairSense) (s : State) : Out :=
  .next (
    let x := s.port p
    if s.serving && s.present p && x.line.checking then
      let s := s.lineChange p .idle (fun l => l.check x.multidrop (x.lightTrain || x.frozen) sa sb)
      (s.modPort p (fun x => { x with trans := x.trans.map (fun t => { t with checked := true }) })).nextRound p
    else s)

/-- EQ_TRACK (R79): the least edge distance of a set of edges, and, outside a break or a stuck line, a boost step where
the equaliser is in use: above 2.5 Mbaud (R68), on a multi-drop bus too (log 103, DESIGN CHOICE). The edges are those of the
pair the receiver listens to, which in fall-back may be the transmit-role pair (R90; log 153, DESIGN CHOICE). -/
def execEqTrack (p : PortId) (edgeMin : BitVec 8) (step : EqStep) (s : State) : Out :=
  .next (
    let x := s.port p
    if s.lineLive p && x.receives then
      s.modLine p (fun l =>
        let b := if x.rx.phase == .hunting && x.div s.fastDisable x.rate.rxEntry < 1280 then
            match step with
            | .stay => l.eqBoost
            | .up => satInc l.eqBoost
            | .down => if l.eqBoost = 0#4 then 0#4 else l.eqBoost - 1
          else l.eqBoost
        { l with edgeMin := edgeMin, eqBoost := b })
    else s)

/-- The port neither samples nor drives and its line is sensed: in Ready, and on the way from Run to Ready (R59, R337; log
94). -/
def Port.quiet (x : Port) : Bool := x.st == .ready || (x.st == .run && x.trans.any (fun t => t.target == .ready))

/-- READY_ACTIVITY (R337): ACTIVITY, and a held State loss of unknown count. -/
def execReadyActivity (p : PortId) (s : State) : Out :=
  .next (if s.lineLive p && (s.port p).quiet then (s.addHeldLoss p).pstateEvent 0 p else s)

end Sys2Proof.Machine
end

