-- ==== Sys2Proof/Machine/Receive.lean ====
section
/-! DEFINITION. The receive commands (04_character_engine.md R99 to R112; 05_addressing_and_frames.md R141, R144). A
command whose premise does not hold leaves the state unchanged (log 4). -/

namespace Sys2Proof.Machine

/-- The receiver enters what the line carries. -/
def State.hears (s : State) (p : PortId) : Bool :=
  s.serving && s.present p && (s.port p).receives && !(s.port p).blanked
/-- Change the receiver of a port. -/
def State.modRx (p : PortId) (f : RxSt → RxSt) (s : State) : State := s.modPort p (fun x => { x with rx := f x.rx })

/-- A rejected candidate or break rise (R99, R111). -/
def State.glitch (p : PortId) (s : State) : State :=
  (s.modRx p (fun r => { r with glitches := satInc r.glitches })).charEvent 1 p

/-- START_REJECTED (R99). -/
def execStartRejected (p : PortId) (s : State) : Out :=
  .next (if s.hears p && (s.port p).rx.phase == .hunting then s.glitch p else s)

/-- The parity bit a character should carry, where the format has one (R104). -/
def expectedParity (mode : BitVec 3) (data : BitVec 9) : Option Bool :=
  match mode.toNat with
  | 1 => some (popcount data % 2 == 1)
  | 2 => some (popcount data % 2 == 0)
  | 3 => some true
  | 4 => some false
  | _ => none
/-- A character as its bits are decided (R100, R102): data, parity and first stop bit, and whether the three samples of
any bit differed. -/
structure RxBits where
  data : BitVec 9
  parity : Bool
  stop : Bool
  noise : Bool
deriving DecidableEq, Repr

/-- Sample `k` of a bit about its centre: samples 7 + c, 8 + c and 9 + c for `k` 0 to 2 (R100). -/
def nearCentre (c : BitVec 3) (b : BitVec 16) (k : Nat) : Bool := b.getLsbD ((7 + c.toInt) + k).toNat
/-- The majority of a bit's three samples (R100). -/
def majority (c : BitVec 3) (b : BitVec 16) : Bool :=
  decide (2 ≤ ([0, 1, 2].filter (nearCentre c b)).length)
/-- A bit's three samples are not all equal (R100). -/
def unequal (c : BitVec 3) (b : BitVec 16) : Bool :=
  nearCentre c b 0 != nearCentre c b 1 || nearCentre c b 1 != nearCentre c b 2
/-- The samples of bit `k` of a character; the line reads mark where none are given. -/
def charBit (c : RxChar) (k : Nat) : BitVec 16 := c.samples.getD k 0xFFFF#16

/-- The centre offset in force: the tracked one in fast mode, else 0 (R100). -/
def Port.centreNow (fastDisable : Bool) (x : Port) : BitVec 3 :=
  if x.fastEntry fastDisable x.rate.rxEntry then x.rx.centre else 0

/-- Port sample `j` of a character, counted from sample 0 of its start bit (R99). -/
def sampleAt (r : RxChar) (j : Nat) : Bool := (charBit r (j / 16)).getLsbD (j % 16)
/-- The positions of a character's data edges relative to their expected bit boundaries, in sixteenths of a bit: each change
between two port samples up to the last one that decides the first stop bit, against the boundary it lies nearest to, so
between -8 and +7; the fall at sample 0 is the start, no data edge (R98, R101; log 144, DEDUCED). -/
def Port.dataEdges (x : Port) (c : BitVec 3) (r : RxChar) : List Int :=
  let last := 16 * (1 + x.dataBits + (if x.parity = 0#3 then 0 else 1)) + (9 + c.toInt).toNat
  ((List.range last).filter (fun j => sampleAt r (j + 1) != sampleAt r j)).map (fun j => ((j + 9) % 16 : Int) - 8)

/-- Decide the bits of a character in the port's format, least significant data bit first (R100, R102, R104). -/
def Port.decideBits (x : Port) (c : BitVec 3) (r : RxChar) : RxBits :=
  let n := x.dataBits
  let par := if x.parity = 0#3 then 0 else 1
  { data := (List.range n).foldl (fun v k => if majority c (charBit r (1 + k)) then v ||| oneBit 9 k else v) 0#9
    parity := par == 1 && majority c (charBit r (1 + n))
    stop := majority c (charBit r (1 + n + par))
    noise := unequal 0#3 (charBit r 0) || (List.range (n + par + 1)).any (fun k => unequal c (charBit r (1 + k))) }

/-- The condition of a character (R100, R102, R103). -/
def conditionOf (mode : BitVec 3) (data : BitVec 9) (c : RxBits) : BitVec 3 :=
  if !c.stop then 2#3
  else match expectedParity mode data with
    | some b => if c.parity != b then 1#3 else if c.noise then 3#3 else 0#3
    | none => if c.noise then 3#3 else 0#3
/-- The centre offset after a character in fast mode, within -3 to +3: one step up where the mean of its edge positions
is 1 or more, one down where it is -1 or less (R101). -/
def trackCentre (c : BitVec 3) (edges : List Int) : BitVec 3 :=
  let n : Int := edges.length
  if edges.isEmpty then c
  else if n ≤ edges.sum then (if c = 3#3 then c else c + 1)
  else if edges.sum ≤ -n then (if c = 5#3 then c else c - 1) else c

/-- The start bit is validated: its sample 8 reads 0 (R99). -/
def startValid (c : RxChar) : Bool := !(charBit c 0).getLsbD 8

/-- CHARACTER_RECEIVED (R99, R102, R109): a start that sample 8 rejects is a glitch; else the first stop bit is decided, an
all-zero character with a zero stop bit begins a break, and any other is conditioned and passed on. A character that
arrives at a port in line-fault is a State loss of unknown count (R59; log 119, DEDUCED). -/
def execCharacterReceived (p : PortId) (c : RxChar) (s : State) : Out :=
  .next (
    let x := s.port p
    if s.serving && s.present p && x.deaf && startValid c then (s.addLoss p .rx 3 none []).drain p
    else if s.hears p && x.rx.phase == .hunting then
      if !startValid c then s.glitch p
      else
      let b := x.decideBits (x.centreNow s.fastDisable) c
      if !b.stop && b.data = 0#9 && !b.parity then
        (s.frameErrIfOpen p 6).modRx p (fun r => { r with phase := .inBreak })
      else
        let edges := x.dataEdges (x.centreNow s.fastDisable) c
        let s := s.enterChar p (conditionOf x.parity b.data b) b.data
        if x.fastEntry s.fastDisable x.rate.rxEntry then
          s.modRx p (fun r => { r with centre := trackCentre r.centre edges })
        else s
    else s)

/-- BREAK_END (R110, R141): a break of 13 to 20 bit times opens a frame header in frame mode, any other writes its
BREAK mark. -/
def execBreakEnd (p : PortId) (len : Nat) (s : State) : Out :=
  .next (
    let x := s.port p
    if s.hears p && x.rx.phase == .inBreak then
      let s := s.modRx p (fun r => { r with phase := .hunting })
      if x.frameEn && decide (13 ≤ len ∧ len ≤ 20) then
        s.modAf p (fun a => { a with rxFrame := .sync })
      else s.offerMark p (breakMark false len) x.markLane
    else s)

/-- BREAK_RISE_REJECTED (R111): the rise is a glitch and the break goes on. -/
def execBreakRiseRejected (p : PortId) (s : State) : Out :=
  .next (if s.hears p && (s.port p).rx.phase == .inBreak then s.glitch p else s)

/-- STUCK_LOW (R112): BREAK with the stuck flag and LINE 0x10 with the scope of the pair listened to, which in fall-back
is the shared pair (log 104, DESIGN CHOICE); nothing is written until STUCK_LOW_END. -/
def execStuckLow (p : PortId) (s : State) : Out :=
  .next (
    let x := s.port p
    if s.hears p && x.rx.phase == .inBreak then
      let s := (s.modRx p (fun r => { r with phase := .stuck })).offerMark p (breakMark true 0xFFFF) x.markLane
      s.offerLine p (pairScope x.line.listen) 0x10 x.markLane
    else s)

/-- STUCK_LOW_END (R112): one character time at mark, and the receiver hunts. -/
def execStuckLowEnd (p : PortId) (s : State) : Out :=
  .next (if s.serving && s.present p && (s.port p).rx.phase == .stuck then
      s.modRx p (fun r => { r with phase := .hunting })
    else s)

/-- FRAME_GAP_TIMEOUT (R144): FRAME_ERR 0x7 for an open header or frame; on a receive pair that carries nothing, and while
the port's own half-duplex driver keeps the receiver from entering anything, the time passes too. -/
def execFrameGapTimeout (p : PortId) (s : State) : Out :=
  .next (if s.serving && s.present p && (s.port p).samples && (s.port p).rx.phase == .hunting then
      s.frameErrIfOpen p 7 else s)

/-- HOLDING_REGISTER_DRAIN (R107): the Sieve accepts what waits. -/
def execHoldingRegisterDrain (p : PortId) (s : State) : Out :=
  .next (if s.storeOn && s.present p then s.drain p else s)

/-- GAP_WRITE (R47, R471): the pending loss is written where the queue takes two cells. -/
def execGapWrite (p : PortId) (d : Dir) (s : State) : Out :=
  .next (if s.storeOn && s.present p then (s.tryGap p d false).tieSync p else s)

end Sys2Proof.Machine
end

