-- ==== Sys2Proof/Machine/Transmit.lean ====
section
/-! DEFINITION. The transmit commands (04_character_engine.md R114 to R121; 05_addressing_and_frames.md R135 to R152;
06_flow_control_and_ties.md R158 to R177). A command whose premise does not hold leaves the state unchanged (log 4). -/

namespace Sys2Proof.Machine

/-- Change the transmitter of a port. -/
def State.modTx (p : PortId) (f : TxSt → TxSt) (s : State) : State := s.modPort p (fun x => { x with tx := f x.tx })
/-- Change the flow controller of a port. -/
def State.modFlow (p : PortId) (f : FlowSt → FlowSt) (s : State) : State :=
  s.modPort p (fun x => { x with flow := f x.flow })
/-- Change the rate state of a port. -/
def State.modRate (p : PortId) (f : RateSt → RateSt) (s : State) : State :=
  s.modPort p (fun x => { x with rate := f x.rate })

/-- The transmitter stands between characters and may drive: in Run, usable, on a pair that carries characters, with no
other driver on after a short retry, and in half duplex either driving already or with the receiver inside neither a
character nor a candidate start, as `mid` tells (R83, R90, R99, R167, R330). -/
def State.mayDrive (s : State) (p : PortId) (mid : Mid) : Bool :=
  let x := s.port p
  s.serving && s.present p && x.usable && (x.line.pair x.sendPair).carries && !(x.line.pair (otherPair x.sendPair)).retrying &&
    x.tx.now == .idle && (!x.halfDuplex || x.tx.driver || (x.rx.phase == .hunting && mid == .idle))
/-- The port waits for its scheduled line start after a release (R174, R177). -/
def State.lineStartDue (s : State) (p : PortId) : Bool :=
  (List.finRange 4).any (fun g => (s.tie g).starting.contains p)

/-- Bits of a character: start, data, parity, stop (R104). -/
def Port.charBits (x : Port) : Nat :=
  1 + x.dataBits + (if x.parity = 0 then 0 else 1) + (if x.cfg[0].getLsbD 7 then 2 else 1)
/-- The data bits of a character in the port's format. -/
def Port.dataMask (x : Port) : BitVec 9 := BitVec.allOnes 9 >>> (9 - x.dataBits)
/-- The bits of a character on the line, in their order: start, data least significant first, the parity the Lulos
computes over the data bits of the format, and stop bits at mark (R104). -/
def Port.charLine (x : Port) (v : BitVec 9) : List Bool :=
  false :: (List.range x.dataBits).map (fun k => v.getLsbD k) ++ (expectedParity x.parity (v &&& x.dataMask)).toList ++
    (if x.cfg[0].getLsbD 7 then [true, true] else [true])
/-- The bit times of mark before the start bit of a transmit character: ADDR_TX_IDLE before an address character in 9-bit
address mode, never before a code of the port's own (R135, R164). -/
def Port.idleBefore (x : Port) (v : BitVec 9) : Nat := if x.addrMode && v.getLsbD 8 then x.addrTxIdle else 0
/-- What the transmitter puts on its pair: a character's bits after the idle of R135, or a break's space and at least two bit
times of mark (R104, R114). -/
def Port.onLine (x : Port) : List Bool :=
  match x.tx.now with
  | .idle => []
  | .char v => List.replicate (x.idleBefore v) true ++ x.charLine v
  | .code v => x.charLine v
  | .brk n => List.replicate n false ++ [true, true]
/-- A break is at least a character time and one bit long (R114). -/
def Port.breakBits (x : Port) (n : Nat) : Nat := max n (x.charBits + 1)
/-- A character as the format sends it: bits above the data-bit count are ignored (Table 2.1). -/
def Port.sendBits (x : Port) (c : CellW) : BitVec 9 := c.setWidth 9 &&& x.dataMask

/-- Start a line effect of the transmit queue: the driver is on, the pacer and the station's credit are charged, the
back-off is over (R92, R120, R165). -/
def State.startLine (p : PortId) (n : TxNow) (s : State) : State :=
  let x := s.port p
  let s := s.modTx p (fun t => { t with now := n, driver := true, backoff := false, paceCount := satInc t.paceCount })
  if x.credits then s.modFlow p (fun f => { f with txCredit := if f.txCredit = 0 then 0 else f.txCredit - 1 }) else s

/-- An item consumed without a line effect and counted as refused (R43, R158). -/
def State.refuseItem (p : PortId) (s : State) : State :=
  (s.modPort p (fun x => { x with txRefused := satInc x.txRefused })).txqEvent 3 p

/-- The open transmit frame ends; a count that differs from its header's sets TX_LEN_MISMATCH (R151). -/
def State.closeTxFrame (p : PortId) (s : State) : State :=
  let a := (s.port p).af
  if a.txFrame == .outside then s
  else
    let s := s.modAf p (fun a => { a with txFrame := .outside })
    if a.txSent = a.txLen then s else s.afEvent 3 p

/-- Send the header of a frame whose FRAME_START has left: the break, and SYNC, identifier, length and check to
follow (R149). -/
def State.startFrame (p : PortId) (arg : BitVec 10) (len : Nat) (counted : Bool) (s : State) : State :=
  let s := s.closeTxFrame p
  let x := s.port p
  let pid := pidByte (arg.extractLsb' 0 6)
  let hdr : List (BitVec 9) := [x.sync.setWidth 9, pid.setWidth 9] ++
    (if counted then [BitVec.ofNat 9 (len % 256)] else []) ++ [(frameCrc pid len).setWidth 9]
  let s := s.modAf p (fun a => { a with txFrame := .header, txPid := pid, txLen := len, txSent := 0 })
  let s := s.modTx p (fun t => { t with header := hdr })
  s.startLine p (.brk (x.breakBits (brkTxField x.cfg[16])))

/-- The next header character (R149); the payload follows the last one. -/
def State.sendHeader (p : PortId) (c : BitVec 9) (rest : List (BitVec 9)) (s : State) : State :=
  let s := (s.modTx p (fun t => { t with header := rest })).startLine p (.char c)
  let s := if rest.isEmpty then s.modAf p (fun a => { a with txFrame := .payload }) else s
  s.portCount 17 p

/-- One item of the transmit queue has left: its line effect starts, or it is consumed (R43, R48, R149 to R151, R158,
R171, R208). -/
def State.sendItem (p : PortId) (i : Item) (s : State) : State :=
  let x := s.port p
  if !i.isMark then
    let v := x.sendBits i.cell
    if x.fcMode != 0 && x.dataBits = 9 && decide (0x1F0 ≤ v.toNat) then (s.refuseItem p).flowEvent 2 p
    else
      let s := s.startLine p (.char v)
      let s := s.modAf p (fun a => { a with txSent := if a.txFrame == .payload then a.txSent + 1 else a.txSent })
      s.portCount 17 p
  else match i.typ.toNat, i.ext with
    | 1, some n => s.startLine p (.brk (x.breakBits n.toNat))
    | 2, some _ => s
    | 5, _ => s.closeTxFrame p
    | 7, _ =>
      -- reached only by a port that is not a member (R171)
      let g : Fin 4 := ⟨(i.arg.extractLsb' 0 2).toNat, (i.arg.extractLsb' 0 2).isLt⟩
      (s.modTie g (fun t => { t with stray := true })).attEvent (tieSrc g)
    | 8, _ => s.modPort p (fun x => { x with flushTag := some i.arg })
    | _, _ => s.refuseItem p

/-- What stands directly after a FRAME_START that has just left: nothing yet, a mark, or the character that is its length.
Where its packet ended with it in frame mode, a mark follows it (R51, R150); so it does where the character written after a
bulk FRAME_START lies in the urgent lane by its own URGENT bit (R265; log 156, DESIGN CHOICE). -/
def Port.afterStart (x : Port) : Option Bool :=
  if x.fmt .tx == .frame && x.txq.servingNow == .none then some false
  else x.txq.peekNext.map (fun e => !e.1.item.isMark)

/-- The FRAME_START at the head of the sequence (R149 to R151): its frame starts, it waits for its length character, or
it is consumed with TX_LS_RESERVED; each but the second ends the frame before it. -/
def State.sendFrameStart (p : PortId) (i : Item) (s : State) : State :=
  let ls := i.arg.extractLsb' 8 2
  match s.takeItem p .tx with
  | none => s
  | some (_, _, t) =>
    let refused := ((t.closeTxFrame p).refuseItem p).afEvent 2 p
    if ls = 0#2 then
      t.startFrame p i.arg ((t.frameEntry (i.cell.setWidth 8)).extractLsb' 0 10).toNat false
    else if ls = 1#2 then
      match (t.port p).afterStart with
      | none => s
      | some false => refused
      | some true => match t.takeItem p .tx with
        | none => s
        | some (e, _, t) => t.startFrame p i.arg ((e.item.cell.setWidth 8 : BitVec 8).toNat) true
    else refused

/-- The transmitter takes its next step at a character boundary: a header character, which the pacer never holds (R120), or the
Sieve's next item, whatever it is, once flow control, tie and pacer allow a line effect (R195). A member waits at its TIE
mark. -/
def State.txStart (p : PortId) (mid : Mid) (s : State) : State :=
  let x := s.port p
  if !s.mayDrive p mid || x.flowStops || s.codeDue p then s
  else
    match x.tx.header with
    | c :: rest => (s.sendHeader p c rest).tieSync p
    | [] => match x.txq.peekNext with
      | none => s
      | some (e, _) =>
        if x.flow.tieWait.isSome || x.paceFull then s
        else if e.item.isType 4 then (s.sendFrameStart p e.item).tieSync p
        else match s.takeItem p .tx with
          | none => s
          | some (e, _, t) => (t.sendItem p e.item).tieSync p

/-- TRANSMIT_START (R195, R199): the transmitter may take its next step, so a collision's back-off is over (R92; log
105). -/
def execTransmitStart (a : AtPort) (s : State) : Out :=
  .next (if s.lineStartDue a.port || !s.mayDrive a.port a.mid then s
    else ((s.modTx a.port (fun t => { t with backoff := false })).tieSync a.port).txStart a.port a.mid)

/-- TRANSMIT_END (R114, R116): the transmitter is idle. -/
def execTransmitEnd (p : PortId) (s : State) : Out :=
  .next (if s.serving && s.present p && (s.port p).tx.now != .idle then
      (s.modTx p (fun t => { t with now := .idle })).tieSync p
    else s)

/-- DRIVER_RELEASE (R167, R137): the half-duplex driver is off and the receiver hunts. -/
def execDriverRelease (p : PortId) (s : State) : Out :=
  .next (
    let x := s.port p
    if s.serving && s.present p && x.halfDuplex && x.tx.driver && x.tx.now == .idle then
      (s.modTx p (fun t => { t with driver := false })).modRx p (fun r => { r with phase := .hunting })
    else s)

/-- PACER_WINDOW (R120, R121). -/
def execPacerWindow (p : PortId) (s : State) : Out :=
  .next (if s.serving && s.present p && (s.port p).inRun then
      (s.modTx p (fun t => { t with paceCount := 0 })).tieSync p
    else s)

/-- HOLD_LONG (R161): once for each hold, where HOLD_WARN is not 0. -/
def execHoldLong (p : PortId) (s : State) : Out :=
  .next (
    let x := s.port p
    if s.serving && s.present p && x.flow.held && !x.flow.holdWarned && decide (0 < x.holdWarn) then
      (s.modFlow p (fun f => { f with holdWarned := true })).flowEvent 0 p
    else s)

/-- The code of a kind in the port's format: 9-bit codes from 0x1F0, else the profile's (Table 6.1). -/
def Port.codeValue (x : Port) (nine : BitVec 9) (eight : Byte) : BitVec 9 :=
  if x.dataBits = 9 then nine else eight.setWidth 9

/-- Start one of the port's own codes: neither paced nor charged (R164). -/
def State.startCode (p : PortId) (v : BitVec 9) (s : State) : State :=
  s.modTx p (fun t => { t with now := .code v, driver := true, backoff := false })

/-- FLOW_CODE_SEND (R163, R164, R166, R339): the resume of a Run entry is the first code of that Run; then hold, resume,
credit. -/
def execFlowCodeSend (a : AtPort) (s : State) : Out :=
  .next (
    let p := a.port
    let x := s.port p
    if !s.mayDrive p a.mid then s
    else if s.holdDue p && !x.flow.entryResume then
      let s := (s.modFlow p (fun f => { f with holdSent := true, holdsTx := satInc f.holdsTx })).holdPaid p
      ((s.startCode p (x.codeValue 0x1F0 x.holdCode)).portCount 35 p).tieSync p
    else if s.resumeDue p then
      let s := s.modFlow p (fun f => { f with holdSent := false, entryResume := false })
      (s.startCode p (x.codeValue 0x1F1 x.resumeCode)).tieSync p
    else match s.creditDue p with
      | some k =>
        let s := s.modFlow p (fun f => { f with rxOutstanding := f.rxOutstanding + BitVec.ofNat 14 (2 ^ k) })
        (s.startCode p (BitVec.ofNat 9 (0x1F2 + k))).tieSync p
      | none => s)

/-- A pending step is complete in both directions: the entry is current, and an entry to fast mode under FC_MODE = 10
clears HELD, TX_CREDIT and the grant record (R116, R161, R336). -/
def Port.stepDone (fastDisable : Bool) (x : Port) : Port :=
  let e := x.rate.pendEntry
  let fast := x.fastEntry fastDisable e
  { x with
    rate := { x.rate with cur := e, rxEntry := e, txEntry := e, pend := false, rxTaken := false, txTaken := false,
                          fcFast := fast }
    flow := if fast && !x.rate.fcFast && x.fcMode == 2 then
        { x.flow with held := false, holdWarned := false, txCredit := 0, rxOutstanding := 0 }
      else x.flow }

/-- A step both directions have taken is complete (R116, R161). -/
def State.rateDone (p : PortId) (s : State) : State :=
  let x := s.port p
  if !(x.rate.rxTaken && x.rate.txTaken) then s
  else ((s.modPort p (Port.stepDone s.fastDisable)).charEvent 6 p).tieSync p

/-- RX_RATE_STEP (R115): the receiver takes the pending rate and writes its RATE mark; one that is stuck low, whose break is
closed (R112), too (log 154, DESIGN CHOICE). -/
def execRxRateStep (p : PortId) (s : State) : Out :=
  .next (
    let x := s.port p
    if s.serving && s.present p && x.inRun && x.rate.pend && !x.rate.rxTaken && x.rx.phase != .inBreak then
      let s := s.modPort p (fun x => { x with rate := { x.rate with rxEntry := x.rate.pendEntry, rxTaken := true },
                                              rx := { x.rx with centre := 0 } })
      let s := if x.marksNow then s.offerMark p (rateMark x.rate.rxEntry x.rate.pendEntry) x.markLane else s
      s.rateDone p
    else s)

/-- TX_RATE_STEP (R116): the transmitter takes the pending rate at the end of what it sends. -/
def execTxRateStep (p : PortId) (s : State) : Out :=
  .next (
    let x := s.port p
    if s.serving && s.present p && x.inRun && x.rate.pend && !x.rate.txTaken && x.tx.now == .idle then
      (s.modRate p (fun r => { r with txEntry := r.pendEntry, txTaken := true })).rateDone p
    else s)

/-- TIE_AUTO_RELEASE (R173). -/
def execTieAutoRelease (g : Fin 4) (s : State) : Out :=
  .next (if s.serving && (s.tie g).opened && !(s.tie g).hostRel && s.allReached g then s.tieRelease g else s)

/-- TIE_LINE_START (R174, R177): every member that is still usable starts the line effect of its next item. A next
item without a line effect is consumed and starts nothing (log 106, DESIGN CHOICE). -/
def execTieLineStart (l : LineStart) (s : State) : Out :=
  .next (
    let ps := (s.tie l.group).starting
    if s.serving then
      forEach ps.zipIdx (fun x t => t.txStart x.1 (l.mids.getD x.2 .idle)) (s.modTie l.group (fun t => { t with starting := [] }))
    else s)

end Sys2Proof.Machine
end

