-- ==== Sys2Proof/Machine/StateOps.lean ====
section
/-! DEFINITION. Port states and loads (12_power_and_states.md R334 to R340, R471; 10_recovery.md R290 to R292;
14_configuration_image.md R393; 13 R372): leaving and entering Run, transitions and their queue, the reload of a port
from the image shadow, and the freeze. -/

namespace Sys2Proof.Machine

/-! ### The image shadow (R393) -/

/-- Flip bits of one word of the sections in the shadow. Words 3 to 7 of DEVICE are zero and go nowhere (R381): only their
parity tells of an upset. -/
def Image.flip (m : Image) (u : ShadowUpset) : Image :=
  let f := u.flip
  match u.word with
  | .header _ => m
  | .device 0 => { m with dev0 := m.dev0 ^^^ f }
  | .device 1 => { m with trkCfg := m.trkCfg ^^^ f }
  | .device 2 => { m with dev2 := m.dev2 ^^^ f }
  | .device _ => m
  | .profile k i => { m with profiles := m.profiles.set k (m.profiles[k].set i (m.profiles[k][i] ^^^ f)) }
  | .frames i => { m with frames := Vector.ofFn (fun j =>
      if j.val / 2 = i.val then m.frames[j] ^^^ bits f (16 * (j.val % 2)) 16 else m.frames[j]) }
  | .resv p => { m with resv := m.resv.set p (m.resv[p] ^^^ f) }
  | .attention i => { m with att := Vector.ofFn (fun j =>
      if j.val / 4 = i.val then m.att[j] ^^^ bits f (8 * (j.val % 4)) 8 else m.att[j]) }
  | .counters i => { m with cnts := Vector.ofFn (fun j =>
      if j.val / 2 = i.val then m.cnts[j] ^^^ bits f (16 * (j.val % 2)) 16 else m.cnts[j]) }

/-- The image shadow as it stands: what Slip copied, with its upsets. -/
def Boot.shadow (b : Boot) : Image := b.upsets.foldl Image.flip b.image
/-- The bits of a shadow word that have flipped. -/
def Boot.flipsOf (b : Boot) (w : ShadowWord) : Word :=
  (b.upsets.filter (fun u => u.word == w)).foldl (fun f u => f ^^^ u.flip) 0
/-- A shadow word does not fit its parity bit: an odd number of its bits has flipped. -/
def Boot.torn (b : Boot) (w : ShadowWord) : Bool := !evenParity (b.flipsOf w)
/-- Some word of the image shadow fails its parity check (R346). -/
def Boot.shadowFails (b : Boot) : Bool := b.upsets.any (fun u => b.torn u.word)

/-- The address of the register that holds profile word `i` of a port. -/
def profileAddr (p : PortId) (i : Fin 24) : BitVec 16 :=
  match (List.range 64).find? (fun k => portReg k == some (.cfg i)) with
  | some k => BitVec.ofNat 16 (0x1000 + 0x100 * p.val + 4 * k)
  | none => 0
/-- The addresses of the RESV registers of a port (Table 17.9). -/
def resvAddrs (p : PortId) : List (BitVec 16) :=
  let a := 0x2010 + 0x100 * (p.val / 4) + 8 * (p.val % 4)
  [BitVec.ofNat 16 a, BitVec.ofNat 16 (a + 4)]

/-- The registers at `mine` have been loaded from the shadow: a value comes with its parity bit, so those in `bad`, whose
words do not fit theirs, fail from now on (R393, R447; log 59). -/
def State.loaded (mine : BitVec 16 → Bool) (bad : List (BitVec 16)) (s : State) : State :=
  { s with boot := { s.boot with cfgBad := s.boot.cfgBad.filter (fun a => !mine a) ++ bad } }

/-! ### Loads from the image shadow (R393, R446) -/

/-- Set a reservation: the queue's own free list becomes the reservation less the reserved segments it holds, out of
and into the region's pool (R187; log 25). -/
def State.setResv (p : PortId) (d : Dir) (n : BitVec 12) (s : State) : State :=
  let q := s.queue p d
  let own := q.ownSegs + q.reclaimOwn
  let total := q.freeOwn + s.pool p
  let free := min (n.toNat - own) total
  let s := s.modPort p (fun x => match d with
    | .rx => { x with resvRx := n }
    | .tx => { x with resvTx := n })
  s.putQueue p d { q with freeOwn := free } (total - free)

/-- The reservation registers of a port have been loaded from the shadow, with their parity bits. -/
def State.resvLoaded (p : PortId) (s : State) : State :=
  s.loaded (fun a => (resvAddrs p).contains a) (if s.boot.torn (.resv p) then resvAddrs p else [])

/-- Load a port's reservations from the shadow: receive [15:0], transmit [31:16] (R383). -/
def State.loadResv (p : PortId) (s : State) : State :=
  let w := s.boot.shadow.resv[p]
  ((s.setResv p .rx (bits w 0 12)).setResv p .tx (bits w 16 12)).resvLoaded p

/-- The profile a port is loaded from: LEVEL while EN is 1, else its PSEL profile (R364, R372). -/
def Port.profileNow (x : Port) : BitVec 4 := if x.benchEn then x.benchLevel else x.psel.profile

/-- In a multi-drop profile one pair carries the bus and the other is not used (R63); in any other, both are used. -/
def LineSt.forProfile (l : LineSt) (multidrop : Bool) : LineSt :=
  if multidrop then
    if l.a.notUsed || l.b.notUsed then l else { l with b := { l.b with notUsed := true, retry := false } }
  else l.modBoth (fun q => { q with notUsed := false })

/-- The profile of a port in the image shadow (R393). -/
def State.shadowProfile (s : State) (x : Port) : Vector Word 24 := s.boot.shadow.profiles[x.profileNow.toNat]'(x.profileNow.isLt)

/-- The address is one of port `p`'s block. -/
def inPortBlock (p : PortId) (a : BitVec 16) : Bool := a.extractLsb' 8 8 == 0x10#8 + BitVec.ofNat 8 p.val
/-- The address is one of region `r`'s block. -/
def inRegionBlock (r : RegionId) (a : BitVec 16) : Bool := a.extractLsb' 8 8 == 0x20#8 + BitVec.ofNat 8 r.val
/-- The IMG registers of a port whose words in the shadow fail parity. -/
def State.tornProfile (s : State) (p : PortId) : List (BitVec 16) :=
  let k : Fin 16 := ⟨(s.port p).profileNow.toNat, (s.port p).profileNow.isLt⟩
  ((List.finRange 24).filter (fun i => decide (i.val < 20) && s.boot.torn (.profile k i))).map (profileAddr p)

/-- Load every IMG register of a port from its profile in the shadow (R393, R447). The two THRESH words are no IMG registers
and stay. -/
def State.loadProfile (p : PortId) (s : State) : State :=
  let s := s.modPort p (fun x =>
    let x := { x with cfg := ((s.shadowProfile x).set 20 x.cfg[20]).set 21 x.cfg[21] }
    x.withLine (x.line.forProfile x.multidrop))
  s.loaded (inPortBlock p) (s.tornProfile p)

/-- Load the THRESH registers of a port from its profile in the shadow (R393, Table 7.8). -/
def State.loadThresh (p : PortId) (s : State) : State :=
  s.modPort p (fun x => { x with cfg := (x.cfg.set 20 (s.shadowProfile x)[20]).set 21 (s.shadowProfile x)[21] })

/-! ### The freeze (R290 to R292) -/

/-- Freeze a present port (R290): the waiting item is lost, an open frame is closed, the drivers are off, a tie
member leaves its round, and a held State loss opens. A charge that runs since an earlier freeze runs on (R300). -/
def State.freezePort (p : PortId) (s : State) : State :=
  if (s.port p).frozen then s
  else
    let x := s.port p
    let s := s.discardHolding p 3
    let s := if x.inRun then s.frameErrIfOpen p 8 else s
    let s := s.modPort p (fun x =>
      { x with tx := x.tx.stop, rx := { x.rx with phase := .hunting }, line := x.line.driversOff })
    let s := (s.leaveTie p).addHeldLoss p
    (s.modPort p (fun x => { x with frozen := true, outFreeze := some (x.outFreeze.getD s.coreUs) })).tieSync p

/-- The port is in Off or has begun a transition to Off (R292). -/
def Port.offBegun (x : Port) : Bool :=
  match x.trans with
  | some t => t.target == .off
  | none => x.st == .off

/-- The upsets of the image shadow that a reload meets: the spec gives them no other trace. A free value (R292; log 59). -/
def State.upsetShadow (s : State) : State :=
  { s with boot := { s.boot with upsets := s.boot.upsets ++ Config.shadowUpsets s.freeCtr }, freeCtr := s.freeCtr + 1 }

/-- Every IMG register of a frozen port is reloaded and checked (R292): where one fails the port is frozen by its own
register; else its own freeze ends, and it stays frozen where its region is. -/
def State.endPortFreeze (p : PortId) (s : State) : State :=
  let s := s.loadProfile p
  let bad := s.boot.cfgBad.any (inPortBlock p)
  s.modPort p (fun x => { x with ownFreeze := bad, frozen := bad || (s.region (regionOf p)).frozen })

/-- The RESV registers of a region are reloaded and checked (R292): where all pass, its freeze ends, and the ports with no
freeze of their own are free. -/
def State.endRegionFreeze (r : RegionId) (s : State) : State :=
  let ps := (regionPorts r).filter s.present
  let s := forEach ps State.loadResv s
  if s.boot.cfgBad.any (inRegionBlock r) then s
  else (forEach ps (fun q t => t.modPort q (fun x => { x with frozen := x.ownFreeze })) s).modRegion r
    (fun y => { y with frozen := false })

/-- A transition to Off begins on a frozen port (R292): its IMG registers are reloaded and checked, and a port freeze ends
now, a region freeze once every present port of the region is in Off or on its way, so one that begins while all of them
are in Off ends at the next transition of one of them to Off (log 140, DEDUCED). Where a reloaded value fails its check the
freeze continues. -/
def State.endFreeze (p : PortId) (s : State) : State :=
  if !(s.port p).frozen then s
  else
    let r := regionOf p
    let s := s.upsetShadow.endPortFreeze p
    let s := if (s.region r).frozen && ((regionPorts r).filter s.present).all (fun q => (s.port q).offBegun) then
        s.endRegionFreeze r
      else s
    s.attFall 144

/-! ### Leaving Run and going to Off (R336, R338) -/

/-- A port in line-fault leaves it with Run (R298, R161): its flow state is cleared, and its pending records are held
until its next Run entry (log 68). -/
def State.leaveFaultWithRun (p : PortId) (s : State) : State :=
  let hold (q : Queue) : Queue := { q with pend := q.pend.map (fun r => { r with held := true }) }
  if (s.port p).lineFault then ((s.modPort p Port.outOfLineFault).modQueue p .rx hold).modQueue p .tx hold else s

/-- A port leaves Run (R336): its tie round, its drivers, a character or break in progress (a State loss of
unknown count, its GAP ahead of the FRAME_ERR; log 20; one that arrives in line-fault is the loss of log 119; the port's own
on a shared pair is none, R137), an open frame and a pending rate step. -/
def State.leaveRun (p : PortId) (mid : Mid) (s : State) : State :=
  let x := s.port p
  let cut := ((x.receives && !x.blanked) || x.deaf) && (x.rx.phase == .inBreak || mid != .idle)
  let s := s.leaveTie p
  let s := if cut then (s.addLoss p .rx 3 none []).drain p else s
  let s := if x.frozen then s else s.frameErrIfOpen p 9
  let s := s.leaveFaultWithRun p
  let s := s.modPort p (fun x => { x with
    tx := x.tx.stop
    rx := { x.rx with phase := .hunting }
    line := { x.line with lfDiscard := false, sensing := false, a := { x.line.a with waits := false, retry := false },
                          b := { x.line.b with waits := false, retry := false } } })
  if x.rate.pend then
    let moved := !x.rate.rxTaken
    ((s.modPort p (fun x => { x.stepDone s.fastDisable with
      rx := { x.rx with centre := if moved then 0 else x.rx.centre } })).charEvent 6 p)
  else s

/-- A transition to Off begins (R338, R118, R292, R298). The entry that goes to 0 takes the centre offset with it, as a
rate step does (R101; log 146, DESIGN CHOICE). An item that waits in the holding register stays there, and enters once
the Sieve accepts it (log 115, DESIGN CHOICE). In Sleep the discard is at once too, and its segments are free (log 143,
DEDUCED). -/
def State.enterOff (p : PortId) (s : State) : State :=
  let s := ((s.takeFlush p 3).discardQueue p .tx 3).tieSync p
  let s := s.modPort p (fun x => { x with
    rate := { x.rate with cur := 0, rxEntry := 0, txEntry := 0, pend := false, rxTaken := false, txTaken := false }
    rx := { x.rx with centre := 0 } })
  s.endFreeze p

/-- Start a transition of a port (R334 to R338): a waiting tie member leaves its round as the transition begins, for
Ready and Retain too (R175; log 151, DESIGN CHOICE), and from Off a line check runs (R70), which holds its check channel
from the transition's start (log 142, DESIGN CHOICE). -/
def State.beginTransition (p : PortId) (target : PState) (byCmd : Bool) (mid : Mid) (s : State) : State :=
  let x := s.port p
  let s := if x.st == .run then s.leaveRun p mid else if target == .run then s else s.leaveTie p
  let t : Trans := { target := target, source := x.st, byCmd := byCmd, supply := raisesSupply x.st target,
                     checked := x.st != .off }
  let s := s.modPort p (fun x => { x with
    trans := some t, queued := none, line := { x.line with checking := x.st == .off } })
  let s := if target == .off then s.enterOff p else s
  s.tieSync p

/-! ### Run entry (R339) -/

/-- The records of a port's queues are held no longer. -/
def State.freeRecords (p : PortId) (s : State) : State :=
  let free (q : Queue) : Queue := { q with pend := q.pend.map (fun r => { r with held := false }) }
  (s.modQueue p .rx free).modQueue p .tx free

/-- The items of a Run entry: the pending GAP with the loss of Retain or Off, the LINE marks, the RATE mark (R339,
R337, R471, R75, R119). A port that enters Run in line-fault discards the item that waited (R285). -/
def State.runEntryItems (p : PortId) (s : State) : State :=
  let s := if (s.port p).missed then s.addLoss p .rx 3 none [] else s
  let s := (s.modPort p (fun x => { x with missed := false })).freeRecords p
  let s := if (s.port p).lineFault then s.discardHolding p 4 else s.drain p
  let s := s.writeLineMarks p
  let x := s.port p
  if x.rateMark then s.offerMark p (rateMark x.rate.cur x.rate.cur) x.markLane else s

/-- A port as its Run begins (R339, R161, R133, R147, R121; reset source Run-entry, R446). -/
def Port.runStart (fastDisable : Bool) (x : Port) : Port :=
  { x with
    line := { x.line with mode := x.tableMode x.line, lfDiscard := false, sensing := false, edgeMin := 0,
                          a := { x.line.a with waits := false }, b := { x.line.b with waits := false } }
    rx := { x.rx with phase := .hunting, centre := 0 }
    rate := { x.rate with fcFast := x.fastEntry fastDisable x.rate.cur }
    af := { x.af with muted := x.mute, curUrgent := false, lastIndex := 15, rxFrame := .wait, rxPid := 0, rxRemain := 0,
                      txFrame := .outside, txPid := 0 }
    tx := { x.tx with header := [], backoff := false, paceCount := 0 }
    flow := { x.flow with held := false, holdSent := false, rxOutstanding := 0, txCredit := 0, holdWarned := false,
                          entryResume := false } }

/-- The outage of a freeze that has ended is charged up to this Run entry, in whole milliseconds (R300, R301; log 138,
DESIGN CHOICE). -/
def State.chargeFreeze (p : PortId) (s : State) : State :=
  s.modPort p (fun x => match x.outFreeze with
    | some t => { x with outFreeze := none, outage := satAdd x.outage ((s.coreUs - t) / 1000) }
    | none => x)

/-- A hold code is owed where the room is 0 as Run begins, and the resume code where it is RESUME_ROOM (R163, R339). -/
def State.entryFlow (p : PortId) (s : State) : State :=
  let x := s.port p
  let room := s.rxRoom p
  let s := s.modFlow p (fun f => { f with entryResume := x.fcMode != 0 && decide (x.resumeRoom ≤ room) })
  let b := oneBit 4 (p.val % 4)
  s.modRegion (regionOf p) (fun y => { y with holdOwed := if x.fcMode != 0 && room == 0 then y.holdOwed ||| b else y.holdOwed &&& ~~~b })

/-- A port enters Run (R339, R161, R133, R147, R121, R300). A frozen port enters nothing until the freeze ends, whose charge
this Run entry does not end (log 139, DEDUCED). -/
def State.enterRun (p : PortId) (s : State) : State :=
  let s := s.modPort p (Port.runStart s.fastDisable)
  let s := if (s.port p).frozen then s else (s.runEntryItems p).chargeFreeze p
  let s := (s.entryFlow p).tryGap p .tx false
  let s := if (s.port p).lineFault then s.enterLineFault p else s
  s.tieSync p

/-! ### Transitions and their queue (R16, R334, R335, R340) -/

/-- Power transitions in progress in a region (R16). -/
def State.powerCount (s : State) (r : RegionId) : Nat :=
  ((regionPorts r).filter (fun p => s.present p && (s.port p).trans.any (fun t => t.supply))).length

/-- The queued commands of a region that are eligible: their port is in no transition (R16). -/
def State.eligible (s : State) (r : RegionId) : List (PortId × QueuedCmd) :=
  ((regionPorts r).filter (fun p => s.present p && (s.port p).trans.isNone)).filterMap
    (fun p => (s.port p).queued.map (fun q => (p, q)))

/-- A command of this order must wait: two power transitions are in progress, or will be once the sequencer has started
the eligible commands accepted before it (R16). -/
def State.mustWait (s : State) (r : RegionId) (order : Nat) : Bool :=
  decide (2 ≤ s.powerCount r + ((s.eligible r).filter (fun c => decide (c.2.order < order))).length)

/-- A command waits under R16 (Table 12.12). -/
def State.waited (r : RegionId) (s : State) : State :=
  (s.modRegion r (fun y => { y with waited := satInc y.waited })).count (0x041 + 4 * r.val)

/-- Start a command, or queue it behind the region's two power transitions (R16). -/
def State.startCmd (p : PortId) (target : PState) (order : Nat) (mid : Mid) (s : State) : State :=
  let x := s.port p
  let r := regionOf p
  if x.st == target then s.modPort p (fun x => { x with queued := none })
  else if raisesSupply x.st target && s.mustWait r order then
    let t := s.modPort p (fun x => { x with queued := some { target := target, order := order } })
    if x.queued.isNone then t.waited r else t
  else s.beginTransition p target true mid

/-- A state command for one present port (R335, R340, R16). -/
def State.portCommand (p : PortId) (target : PState) (mid : Mid) (s : State) : State :=
  let x := s.port p
  let order := match x.queued with
    | some q => q.order
    | none => s.host.accepted
  let s := s.modPort p (fun x => { x with commanded := target, deferred := none })
  if s.dev.st == .sleep && (target == .ready || target == .run) then
    s.modPort p (fun x => { x with queued := none, deferred := some { target := target, order := s.host.accepted } })
  else match x.trans with
    | some t =>
      if t.target == target && x.queued.isNone then s
      else s.modPort p (fun x => { x with queued := some { target := target, order := order } })
    | none => s.startCmd p target order mid

/-- The earliest-accepted eligible command (R16); one that raises no supply has started already. -/
def State.nextQueued (s : State) (r : RegionId) : Option (PortId × PState) :=
  ((s.eligible r).foldl (fun (best : Option (PortId × QueuedCmd)) y =>
    match best with
    | none => some y
    | some b => if y.2.order < b.2.order then some y else some b) none).map (fun y => (y.1, y.2.target))

/-- A transition ends (R334 to R339): the state is reached, Run is entered with the latest sensed roles and polarity
where no line check preceded (R74), and a queued command that raises no supply starts. -/
def State.endTransition (p : PortId) (t : Trans) (sa sb : PairSense) (s : State) : State :=
  let s := s.modPort p (fun x =>
    { x with st := t.target, trans := none, missed := x.missed || t.target == .off || t.target == .retain })
  let s := if t.target == .run then
      let s := if t.source == .off then s
        else s.modPort p (fun x => { x with line := x.line.assign x.multidrop sa sb })
      s.enterRun p
    else s
  let s := if t.byCmd then s.pstateEvent 1 p else s
  let s := match (s.port p).queued with
    | none => s
    | some q =>
      if !(raisesSupply (s.port p).st q.target) then s.startCmd p q.target q.order .idle
      else if s.mustWait (regionOf p) q.order then s.waited (regionOf p) else s
  s.tieSync p

/-- A rate command for one present port (R115, R118): one that names the current entry with none pending changes nothing; in
Run another becomes the pending step, and elsewhere its entry is taken at once. -/
def State.rateCommand (p : PortId) (e : BitVec 2) (s : State) : State :=
  let x := s.port p
  if !x.rate.pend && x.rate.cur = e then s
  else if x.inRun then s.modRate p (fun r => { r with pendEntry := e, pend := true, rxTaken := false, txTaken := false })
  else s.modPort p (fun x => { x with
    rate := { x.rate with cur := e, rxEntry := e, txEntry := e, pend := false, rxTaken := false, txTaken := false }
    rx := { x.rx with centre := 0 } })

end Sys2Proof.Machine
end

