-- ==== Sys2Proof/Machine/TrunkOps.lean ====
section
/-! DEFINITION. The trunk's shared operations (08_trunk_link.md R237 to R249; 09_trunk_transactions.md R260, R273 to R278):
the replay buffer and stubs, completions, the building of data blocks, acceptance, and what a FRESH training does. -/

namespace Sys2Proof.Machine

/-- Change the trunk. -/
def State.modTr (f : Trunk → Trunk) (s : State) : State := { s with tr := f s.tr }
/-- The link is up and the device serves on it (R226, R343). -/
def State.linkUp (s : State) : Bool := s.serving && s.tr.link == .up
/-- The trunk is powered: after release, or halted (R356). -/
def State.trunkOn (s : State) : Bool := s.pw.inputOn && (s.released || s.boot.stage == .halted)
/-- Blocks flow: the link is up. -/
def State.blocksFlow (s : State) : Bool := s.trunkOn && s.tr.link == .up

/-! ### The replay buffer (R244 to R247) -/

/-- Bytes stored (USED). -/
def Trunk.used (t : Trunk) : Nat := (t.stored.map (fun b => b.body.size)).sum
/-- Bytes of stored control blocks. -/
def Trunk.ctlUsed (t : Trunk) : Nat := ((t.stored.filter (fun b => b.body.isCtl)).map (fun b => b.body.size)).sum
/-- The rewind mark's number: the oldest stored block, or the next number where none is stored. -/
def Trunk.rewindSeq (t : Trunk) : BitVec 12 :=
  match t.stored with
  | b :: _ => b.seq
  | [] => t.txNext
/-- A new block fits (R246). -/
def Trunk.fits (t : Trunk) (b : BlkBody) : Bool :=
  decide (t.used + b.size ≤ Config.replayBytes) && decide (t.stored.length < Config.maxStored)

/-- Add `n` lost items to TRK_PORT_LOSS (R247, Table 8.21). -/
def State.trkLoss (p : PortId) (n : Nat) (s : State) : State :=
  s.modPort p (fun x => { x with portLoss := satAdd x.portLoss n })

/-- The stored list with `n` added to the GAP of port `p` in the first unsent stub that has one; none where there is
no such stub. -/
def addToStub (p : PortId) (n : Nat) : List Stored → Option (List Stored)
  | [] => none
  | b :: bs =>
    let cs := b.body.gapCounts
    if b.stub && b.fresh && cs.any (fun c => c.1 == p) then
      some ({ b with body := stubBody p (cs.map (fun c => if c.1 = p then (c.1, min (c.2 + n) Config.maxLoss) else c)) } ::
        bs)
    else (addToStub p n bs).map (fun r => b :: r)

/-- Merge a block's counts into unsent stubs; the counts that found none. -/
def mergeCounts : List (PortId × Nat) → List Stored → List Stored × List (PortId × Nat)
  | [], st => (st, [])
  | c :: cs, st =>
    match addToStub c.1 c.2 st with
    | some st' => mergeCounts cs st'
    | none => let r := mergeCounts cs st; (r.1, c :: r.2)

/-- The port a stub without GAPs names: the block's first. -/
def BlkBody.firstPort : BlkBody → PortId
  | .data p _ _ _ => p
  | .ilv _ _ _ _ ((p, _) :: _) => p
  | _ => 0

/-- Stub the oldest data block that is none (R247): its counts join unsent stubs or become its own GAPs. -/
def State.stubOldest (s : State) : Option State :=
  match s.tr.stored.find? (fun b => !b.body.isCtl && !b.stub) with
  | none => none
  | some b =>
    let cs := b.body.counts
    let m := mergeCounts cs s.tr.stored
    let st := m.1.map (fun c =>
      if c.seq = b.seq then { c with body := stubBody b.body.firstPort m.2, stub := true, fresh := true } else c)
    let s := s.modTr (fun t => { t with stored := st, stubs := satInc t.stubs })
    some ((forEach cs (fun c t => t.trkLoss c.1 c.2) s).trkEvent 4)

/-- Number and store a block (R239, R244). It is on the lanes at once where the link is up. -/
def State.storeBlk (b : BlkBody) (s : State) : State :=
  let up := s.tr.link == .up
  let s := s.modTr (fun t => { t with
    stored := t.stored ++ [{ seq := t.txNext, body := b, sent := up, fresh := false }],
    txNext := t.txNext + 1, waitBlk := none, stalled := false })
  if up then s.count 0x070 else s

/-- Place a built block: it is stored where it fits, after stubbing in the passing state; else it waits and the trunk
stalls, at 2,047 stored blocks too (R246, R250; log 126, DEDUCED). `n` bounds the stubs. -/
def State.placeBlk (b : BlkBody) : Nat → State → State
  | 0, s => s.modTr (fun t => { t with waitBlk := some b, stalled := true })
  | n + 1, s =>
    if s.tr.fits b then s.storeBlk b
    else if s.tr.passing && decide (s.tr.stored.length < Config.maxStored) then
      match s.stubOldest with
      | some t => t.placeBlk b n
      | none => s.modTr (fun t => { t with waitBlk := some b, stalled := true })
    else
      let was := s.tr.stalled || s.tr.passing
      let s := s.modTr (fun t => { t with waitBlk := some b, stalled := true })
      if was then s else s.trkEvent 3

/-- Place a block. -/
def State.place (b : BlkBody) (s : State) : State := s.placeBlk b (Config.maxStored + 2)

/-- Place the waiting block and then the control blocks in their order, while the link is up, nothing stalls and the
8 KiB limit allows: a control block that would take the stored ones past 8 KiB waits (R244, R246; log 124, DEDUCED). A data
block that waits is numbered and sent in Sleep too (log 123, DEDUCED). -/
def State.pumpN : Nat → State → State
  | 0, s => s
  | n + 1, s =>
    if s.tr.link != .up then s
    else match s.tr.waitBlk with
      | some b =>
        let t := s.place b
        if t.tr.waitBlk.isSome then t else t.pumpN n
      | none => match s.tr.ctlQ with
        | [] => s
        | b :: bs =>
          if Config.maxCtlBytes < s.tr.ctlUsed + b.size then s
          else (({ s with tr := { s.tr with ctlQ := bs } }).place b).pumpN n

/-- The equalisers of the lanes in use go on adapting while blocks flow, to codes that the spec leaves free (R223; log
170, DESIGN CHOICE). -/
def State.adapt (s : State) : State :=
  if s.linkUp then
    { s.modTr (fun r => { r with lanes := Vector.ofFn (fun k =>
        if r.activeMask.getLsbD k.val then
          (r.lanes[k] &&& 0xFFFF#32) ||| fld 16 (Config.adapted s.freeCtr k)
        else r.lanes[k]) }) with freeCtr := s.freeCtr + 1 }
  else s

/-- Begin a retrain (R226, R228, R229): it counts, and an open tie round is disturbed (R297). -/
def State.beginRetrain (s : State) : State :=
  let s := s.modTr (fun t => { t with link := .retrain, retrains := satInc t.retrains, markMissed := 0 })
  { s with ties := s.ties.map (fun g => { g with disturbed := g.disturbed || g.opened }) }

/-- The retrain of a state or width command begins once its completion is sent (R277): nothing built waits any more. -/
def State.dueChange (s : State) : State :=
  if s.dev.changeDue && s.tr.link == .up && s.tr.ctlQ.isEmpty && s.tr.waitBlk.isNone then
    { s with dev := { s.dev with changeDue := false } }.beginRetrain
  else s

/-- Build what waits, and begin the change that waits for it. -/
def State.pump (s : State) : State := (s.pumpN (s.tr.ctlQ.length + 2)).dueChange

/-- Send a control block the Lulos builds (R244). -/
def State.sendCtl (b : BlkBody) (s : State) : State := (s.modTr (fun t => { t with ctlQ := t.ctlQ ++ [b] })).pump

/-- Send a COMPLETION (R259, R260). -/
def State.complete (q : Req) (status : BitVec 4) (failCount : Nat) (detail : BitVec 16) (data : List Word) (s : State) :
    State :=
  s.sendCtl (completionBlk q status failCount detail data)

/-- A rewind (R245): every stored block is on the lanes again, one that never was for the first time. -/
def State.rewind (s : State) : State :=
  let old := (s.tr.stored.filter (fun b => b.sent)).length
  let new := s.tr.stored.length - old
  (((s.modTr (fun t => { t with stored := t.stored.map (fun b => { b with sent := true, fresh := false }) })).trkEvent
    10).countN 0x071 old).countN 0x070 new

/-- An acknowledgement of every block up to `a` (R243, R246): valid where it names a stored block that has been sent,
or the block just before the rewind mark, which advances nothing and so does not end passing (log 125, DEDUCED); else
ACK_BAD. Also whether it was valid. -/
def State.ackUpTo (a : BitVec 12) (s : State) : State × Bool :=
  match s.tr.stored.findIdx? (fun b => b.seq == a && b.sent) with
  | some k => ((s.modTr (fun t => { t with stored := t.stored.drop (k + 1), passing := false })), true)
  | none => if a = s.tr.rewindSeq - 1 then (s, true) else (s.trkEvent 7, false)

/-- Accept a sequenced block from the host (R240, R242): the expected number advances, and every eighth block is
acknowledged at once. -/
def State.acceptBlk (s : State) : State :=
  let s := ({ s with host := { s.host with accepted := s.host.accepted + 1 } }).count 0x072
  let e := s.tr.rxExpect + 1
  if 8 ≤ s.tr.sinceAck + 1 then
    (s.modTr (fun t => { t with rxExpect := e, sinceAck := 0, linkOut := .ack (e - 1) })).count 0x073
  else s.modTr (fun t => { t with rxExpect := e, sinceAck := t.sinceAck + 1 })

/-! ### Credits (R272 to R274) -/

/-- The room a limit leaves (R272). -/
def creditRoom (given : Bool) (limit carried : BitVec 24) : Nat :=
  let d := (limit - carried).toNat
  if given && decide (1 ≤ d ∧ d < 2 ^ 23) then d else 0
/-- Room under the host's receive limit (R274). -/
def Port.rxCreditRoom (x : Port) : Nat := creditRoom x.rxLimitGiven x.rxLimit x.rxCarried
/-- A port's transmit LIMIT: P + S (R273). -/
def Port.txLimit (x : Port) : BitVec 24 := x.placed + BitVec.ofNat 24 (x.txq.creditSpace (x.resv .tx))
/-- A port's LIMIT has risen since it was last sent. -/
def Port.limitRisen (x : Port) : Bool := !x.limitGiven || decide (0 < creditRoom true x.txLimit x.limitSent)

/-- Cells carried for a port of the transmit side: beyond LIMIT they set TXC_OVER (R273). -/
def State.carry (p : PortId) (n : BitVec 24) (s : State) : State :=
  let x := s.port p
  let beyond := decide (creditRoom x.limitGiven x.limitSent x.carried < n.toNat)
  let s := s.modPort p (fun x => { x with carried := x.carried + n })
  if beyond then s.hostError 4 else s

/-! ### Device-to-host data blocks (R202, R237, R248, R274, R276) -/

/-- Entries the Sieve would give in order, all of one lane (R237). -/
def Queue.collect (pool : Nat) (lane : QLane) : Nat → Queue → List Entry
  | 0, _ => []
  | n + 1, q =>
    match q.sieveNext pool with
    | none => []
    | some t => if t.lane = lane then t.e :: Queue.collect t.pool lane n t.q else []

/-- Items a block may take: the longest prefix within 512 payload bytes, 32 escapes and the credit; also whether the
block is then full (R202, R237, R274). -/
def fitRun (pack : BitVec 2) (urgent : Bool) (room : Nat) (is : List Item) : Nat × Bool :=
  let ok (n : Nat) : Bool :=
    let r := packSize pack urgent (is.take n)
    decide (r.1 ≤ Config.maxPayload) && decide (r.2 ≤ Config.maxEsc)
  let paid (n : Nat) : Bool := decide (((is.take n).map Item.cells).sum ≤ room)
  let ns := (List.range (is.length + 1)).filter (fun n => ok n && paid n)
  let n := ns.getLast?.getD 0
  (n, (decide (n < is.length) && !ok (n + 1)) || (packSize pack urgent (is.take n)).1 == Config.maxPayload)

/-- The slot packing of a port's format (R237). -/
def Port.slotPack (x : Port) : BitVec 2 := if x.dataBits = 9 then 2 else 1

/-- What a single-port block would hold: packing, lane, items with a leading GAP of R248, and whether it is full. -/
structure Plan where
  pack : BitVec 2
  urgent : Bool
  items : List Item
  drawn : Nat
  full : Bool
deriving DecidableEq, Repr

/-- The next single-port block of a port (R237, R248): none where it would hold nothing. -/
def State.planBlk (s : State) (p : PortId) : Option Plan :=
  let x := s.port p
  let lead : List Item := if x.freshGap = 0 then [] else [gapMark 2 (some x.freshGap)]
  let head := x.rxq.peekNext
  let lane : QLane := if x.freshGap = 0 then
      match head with
      | some (_, l) => l
      | none => .bulk
    else .bulk
  let run := lead ++ (if s.sound p .rx then (Queue.collect (s.pool p) lane 513 x.rxq).map (fun e => e.item) else [])
  let u := lane == .urgent
  let f1 := fitRun x.slotPack u x.rxCreditRoom run
  let pack : BitVec 2 := if f1.1 < 4 * escapesOf (x.dataBits == 9) u (run.take f1.1) then 0 else x.slotPack
  let f := if pack = 0 then fitRun 0 u x.rxCreditRoom run else f1
  if f.1 = 0 then none
  else some { pack := pack, urgent := u, items := run.take f.1, drawn := f.1 - lead.length, full := f.2 }

/-- Take `n` items of a receive queue by the Sieve. An item that leaves before its events were delivered was readable as it
left: they are due now (R57, R305). -/
def State.draw (p : PortId) : Nat → State → State
  | 0, s => s
  | n + 1, s =>
    match s.takeItem p .rx with
    | some (e, _, t) => State.draw p n (t.tellAll p e.notes)
    | none => s

/-- What becomes possible once cells of a receive queue are free and more items are readable (R107, R194, R47). -/
def State.afterDraw (p : PortId) (s : State) : State := (s.deliver p).drain p

/-- Build the single-port block of a plan: its items leave, its cells are charged, and it is placed (R53, R274). -/
def State.buildPlan (p : PortId) (pl : Plan) (s : State) : State :=
  let n := (pl.items.map Item.cells).sum
  let s := (s.draw p pl.drawn).modPort p (fun x => { x with freshGap := 0, rxCarried := x.rxCarried + BitVec.ofNat 24 n })
  (s.afterDraw p).place (.data p pl.pack pl.urgent pl.items)

/-- Ports of a kept block (R248). -/
def BlkBody.ports (b : BlkBody) : List PortId := b.counts.map (fun c => c.1)
/-- Cells a data block carries for a port. -/
def BlkBody.cellsFor (p : PortId) : BlkBody → Nat
  | .data q _ _ is => if q = p then (is.map Item.cells).sum else 0
  | .ilv _ _ _ _ runs => ((runs.filter (fun r => r.1 == p)).map (fun r => (r.2.map Item.cells).sum)).sum
  | .ctl _ _ _ => 0

/-- A block kept through a FRESH training stands before a port's other blocks: its GAP goes first in a block of its
own, then the block is numbered once every port's limit has room, charged again (R248, R274). -/
def State.heldStep (p : PortId) (b : BlkBody) (s : State) : State :=
  let x := s.port p
  if x.freshGap != 0 then
    if x.rxCreditRoom < 2 then s
    else
      let g := gapMark 2 (some x.freshGap)
      (s.modPort p (fun x => { x with freshGap := 0, rxCarried := x.rxCarried + 2 })).place (.data p 0 false [g])
  else if b.ports.all (fun q => (s.port q).freshGap = 0 && decide (b.cellsFor q ≤ (s.port q).rxCreditRoom)) then
    let s := forEach b.ports (fun q t => t.modPort q (fun x =>
      { x with rxCarried := x.rxCarried + BitVec.ofNat 24 (b.cellsFor q) })) s
    (s.modTr (fun t => { t with heldBlks := t.heldBlks.erase b })).place b
  else s

/-- Two blocks carry items of a common port. -/
def BlkBody.meets (b c : BlkBody) : Bool := b.ports.any (fun p => c.ports.contains p)

/-- The kept block that stands before a port's other blocks, where there is one; none of its own while an earlier kept
block that shares a port with it waits (R248). -/
def Trunk.heldFor (t : Trunk) (p : PortId) : Option (BlkBody × Bool) :=
  match t.heldBlks.find? (fun b => b.ports.contains p) with
  | none => none
  | some b => some (b, (t.heldBlks.takeWhile (fun c => c != b)).all (fun c => !c.meets b))

/-- The ports RX_ILV interleaves (R276). -/
def State.ilvPorts (s : State) : List PortId :=
  if s.host.rxIlv.getLsbD 31 then s.portsOf (bits s.host.rxIlv 0 16) else []
/-- Readable bulk items of a port, up to `n`. -/
def State.bulkReady (s : State) (p : PortId) (n : Nat) : List Item :=
  if s.sound p .rx then (Queue.collect (s.pool p) .bulk n (s.port p).rxq).map (fun e => e.item) else []

/-- The interleaved block that can be built: STRIDE, rounds and runs (R276, R237); none where a port is short of
STRIDE readable bulk items or of credit. -/
def State.planIlv (s : State) : Option BlkBody :=
  let ps := s.ilvPorts
  let k := strideField s.host.rxIlv
  let xs := ps.map (fun p => (p, s.bulkReady p 512))
  let packs := ps.map (fun p => (s.port p).slotPack)
  let pack : BitVec 2 := match packs with
    | c :: cs => if cs.all (fun d => d == c) then c else 0
    | [] => 0
  let ok (r : Nat) : Bool :=
    let runs := xs.map (fun x => (x.1, x.2.take (k * r)))
    let sz := packSize pack false (ilvOrder k r runs)
    runs.all (fun x => x.2.length == k * r && decide ((x.2.map Item.cells).sum ≤ (s.port x.1).rxCreditRoom)) &&
      decide (sz.1 ≤ Config.maxPayload) && decide (sz.2 ≤ Config.maxEsc)
  if ps.isEmpty || ps.any (fun p => (s.port p).freshGap != 0 || (s.tr.heldFor p).isSome) then none
  else match ((List.range 256).filter (fun r => decide (0 < r) && ok r)).getLast? with
    | none => none
    | some r => some (.ilv (ps.foldl (fun m p => m ||| oneBit 16 p.val) 0) pack k r
        (xs.map (fun x => (x.1, x.2.take (k * r)))))

/-- Build an interleaved block: each port's items leave and are charged (R276, R274). -/
def State.buildIlv (b : BlkBody) (s : State) : State :=
  let s := forEach b.counts (fun c t =>
    (((t.draw c.1 c.2).modPort c.1 (fun x => { x with rxCarried := x.rxCarried + BitVec.ofNat 24 (b.cellsFor c.1) })).afterDraw
      c.1)) s
  s.place b

/-- No data block is built while one waits, in Sleep, or with the link not up (R246, R229). -/
def State.mayBuild (s : State) : Bool := s.linkUp && s.dev.st == .awake && s.tr.waitBlk.isNone

/-! ### Host items on their way (R265, R269, R271) -/

/-- Every QWRITE whose items may have to enter, in the order of acceptance. -/
def HostSt.writes (h : HostSt) : List QWrite := h.sleepWrites ++ h.qwrites
/-- Change every QWRITE. -/
def HostSt.mapWrites (h : HostSt) (f : QWrite → QWrite) : HostSt :=
  { h with sleepWrites := h.sleepWrites.map f, qwrites := h.qwrites.map f }

/-- Enter the remaining items of QWRITEs of a port accepted before `order`. -/
def State.enterQwrites (p : PortId) (order : Nat) (s : State) : State :=
  let mine (w : QWrite) : Bool := w.p == p && decide (w.order < order)
  let items := (s.host.writes.filter mine).flatMap (fun w => w.left.map (fun i => (i, w.order)))
  let s := { s with host := s.host.mapWrites (fun w => if mine w then { w with left := [] } else w) }
  forEach items (fun i t => t.txEnter p i.1.item i.1.urgent i.2) s

/-- Place items of a data block into a port's transmit queue, after those of earlier QWRITEs (R54, R265). -/
def State.placeItems (p : PortId) (is : List TxItem) (order : Nat) (s : State) : State :=
  if !s.present p then s
  else forEach is (fun i t => t.txEnter p i.item i.urgent order) (s.enterQwrites p order)

/-- Cells of a port's items. -/
def txCells (is : List TxItem) : Nat := (is.map (fun i => i.item.cells)).sum

/-- The cells a malformed block carried for a port: those its payload decodes to, else a free value (R273; log 21). -/
def malformedCellsOf (b : DataBlk) (free : Nat) : BitVec 24 :=
  match b.ilv, blkGroups b with
  | false, some gs => BitVec.ofNat 24 ((gs.flatten.map Item.cells).sum)
  | _, _ => Config.malformedCells free

/-- The cells a block carries for the present ports it names. -/
def State.blkCells (s : State) (b : DataBlk) : List (PortId × BitVec 24) :=
  match blkDecode b with
  | some rs => (rs.filter (fun r => s.present r.1)).map (fun r => (r.1, BitVec.ofNat 24 (txCells r.2)))
  | none => ((blkNamed b).filter s.present).zipIdx.map (fun x => (x.1, malformedCellsOf b (s.freeCtr + x.2)))

/-- A malformed block (R266): an unknown loss in each present port's queue, at the block's place, its cells in P. -/
def State.malformedLoss (p : PortId) (n : BitVec 24) (order : Nat) (s : State) : State :=
  let s := s.enterQwrites p order
  let s := s.modPort p (fun x => { x with placed := x.placed + n })
  (((s.lossSince p (some order)).addLoss p .tx 7 none []).tryGap p .tx false).tieSync p

/-- The items of an accepted block enter, or its loss is recorded; the ports `gone` take no items. -/
def State.placeData (b : DataBlk) (order : Nat) (cells : List (PortId × BitVec 24)) (gone : List PortId) (s : State) :
    State :=
  match blkDecode b with
  | some rs => forEach (rs.filter (fun r => !gone.contains r.1)) (fun r t => t.placeItems r.1 r.2 order) s
  | none => forEach cells (fun c t => t.malformedLoss c.1 c.2 order) s

/-! ### FRESH (R248, R278, R318) -/

/-- The counts FRESH turns into GAPs: a stub's GAP counts, else the items; what a stub stands for is in TRK_PORT_LOSS
already and is not counted there again (R248, R246; log 136, DESIGN CHOICE). -/
def Stored.lossCounts (b : Stored) : List (PortId × Nat) := if b.stub then b.body.gapCounts else b.body.counts

/-- A source after a FRESH training: its claim is released as its completion would, and where it is pending then, no
processor has had a notice (R318, R248, R307). -/
def Src.fresh (q : Src) : Src :=
  let q := if q.claimed then { q with claimed := false, repend := false, pend := q.asserted || q.repend } else q
  if q.pend then { q with noticed := 0 } else q

/-- Release every claim, and make a fresh notice due for every pending source (R318, R248). -/
def Att.fresh (a : Att) : Att := a.updateAll (List.finRange 160) (fun _ q => q.fresh)

/-- The GAP of host blocks lost at a FRESH training, of unknown count, in a transmit queue (R278); `o` is the place of the
training in the order of acceptance. -/
def State.freshLoss (p : PortId) (o : Nat) (s : State) : State :=
  (((s.lossSince p (some o)).addLoss p .tx 2 none []).tryGap p .tx false).tieSync p

/-- Cells carried for a port that wait for the end of Sleep: of QWRITEs and of blocks held (R343). -/
def State.waitingCells (s : State) (p : PortId) : BitVec 24 :=
  BitVec.ofNat 24 (((s.host.writes.filter (fun w => w.p == p)).map (fun w => txCells w.left)).sum +
    (s.host.sleepHeld.map (fun h => ((h.cells.filter (fun c => c.1 == p)).map (fun c => c.2.toNat)).sum)).sum)

/-- Restart the counters of a port and write the GAP of lost host blocks, which TRK_PORT_LOSS shows (R272, R278, Table 8.21;
log 92). P counts no cell carried before. In Sleep, with the banks in retention, the GAP is owed, behind what is held
(log 57). -/
def State.freshPort (p : PortId) (order : Nat) (s : State) : State :=
  let asleep := s.dev.st == .sleep
  let s := if asleep then s else s.enterQwrites p (order + 1)
  let placed := if asleep then -(s.waitingCells p) else 0
  let s := s.modPort p (fun x => { x with placed := placed, carried := 0, limitGiven := false, limitSent := 0, rxLimit := 0,
                                          rxLimitGiven := false, rxCarried := 0, portLossUnknown := true })
  if asleep then { s with host := { s.host with sleepFresh := s.host.sleepFresh ++ [(p, order)] } } else s.freshLoss p order

/-- The GAPs that FRESH trainings in Sleep owe the queues of the ports `which`, of trainings before `order`, each behind the
QWRITEs accepted before its training (R278). -/
def State.writeFresh (which : PortId → Bool) (order : Nat) (s : State) : State :=
  let due (f : PortId × Nat) : Bool := which f.1 && decide (f.2 < order)
  let fs := s.host.sleepFresh.filter due
  let s := { s with host := { s.host with sleepFresh := s.host.sleepFresh.filter (fun f => !due f) } }
  forEach fs (fun f t => (t.enterQwrites f.1 (f.2 + 1)).freshLoss f.1 f.2) s

/-- A FRESH training after the one that ends start-up (R239, R248, R278, R318). Every earlier request is complete; a
control block that was built and waits is dropped with the stored ones (log 152, DEDUCED); in Sleep the items of its QWRITEs
still enter, as Sleep ends, and the claims of the saved state are released in it (log 141, DEDUCED). -/
def State.freshRestart (s : State) : State :=
  let lost := s.tr.stored.filter (fun b => !b.body.isCtl)
  let s := forEach lost (fun b t => forEach b.lossCounts (fun c u =>
    let u := u.modPort c.1 (fun x => { x with freshGap := min (x.freshGap + c.2) Config.maxLoss })
    if b.stub then u else u.trkLoss c.1 c.2) t) s
  let keep := match s.tr.waitBlk with
    | some b => if b.isCtl then s.tr.heldBlks else b :: s.tr.heldBlks
    | none => s.tr.heldBlks
  let s := s.modTr (fun t => { t with stored := [], txNext := 0, rxExpect := 0, sinceAck := 0, nakFor := none,
                                      waitBlk := none, heldBlks := keep, ctlQ := [], stalled := false, passing := false })
  let s := forEach s.presentPorts (fun p t => t.freshPort p s.host.accepted) s
  let left := if s.dev.st == .sleep then s.host.writes.filter (fun w => !w.left.isEmpty) else []
  let s := { s with host := { s.host with commits := [], qwrites := [], stalls := [], sleepWrites := left } }
  { s with att := s.att.fresh }

end Sys2Proof.Machine
end

