-- ==== Sys2Proof/Machine/DeviceOps.lean ====
section
/-! DEFINITION. Operations over the whole device: the loads from the image shadow (14_configuration_image.md R393; 17
R446), release (13 R369), retention (11_attention_unit.md R320 to R323), Sleep and Deep (12 R343 to R346), the Kiln halt
(13 R356) and the loss of power (10 R287). -/

namespace Sys2Proof.Machine

/-! ### Protection by temperature (R293) -/

/-- A thermal-critical sensor holds a port's pairs: its region's, the converters' or a logic-die one (R293). -/
def sensorHolds (i : Fin 7) (p : PortId) : Bool := decide (4 ≤ i.val) || i.val == p.val / 4
/-- Some sensor holds a port's pairs in Protection. -/
def State.protHeld (s : State) (p : PortId) : Bool :=
  (List.finRange 7).any (fun i => s.pw.crit.getLsbD i.val && sensorHolds i p)

/-! ### Loads (R393, R446) -/

/-- IMG_DEVICE from words 0 and 2 of the DEVICE section (Tables 14.4 and 14.10). -/
def imgDeviceOf (i : Image) : Word := fld 16 (bits i.dev0 0 4) ||| (i.dev2 &&& 0x37F#32)
/-- The registers of the words outside the profiles and reservations that fail parity in the shadow (Tables 14.10, 8.18). -/
def Boot.tornOther (b : Boot) : List (BitVec 16) :=
  (if b.torn (.device 0) || b.torn (.device 2) then [0x040C#16] else []) ++
  (if b.torn (.device 1) then [0x3010#16] else []) ++
  ((List.finRange 32).filter (fun i => b.torn (.frames i))).map (fun i => BitVec.ofNat 16 (0x480 + 4 * i.val))
/-- Load the IMG registers outside port and region blocks. -/
def State.loadOther (s : State) : State :=
  let m := s.boot.shadow
  { s with boot := { s.boot with frames := m.frames, trkCfg := m.trkCfg, imgDevice := imgDeviceOf m,
                                 cfgBad := s.boot.tornOther } }
/-- FRAME_TABLE*i*: two frame-table entries (R140). -/
def State.frameWord (s : State) (i : Fin 32) : Word :=
  fld 16 (s.boot.frames[2 * i.val + 1]'(by omega)) ||| fld 0 (s.boot.frames[2 * i.val]'(by omega))
/-- Store FRAME_TABLE*i*. -/
def State.setFrames (i : Fin 32) (w : Word) (s : State) : State :=
  { s with boot := { s.boot with frames :=
      (s.boot.frames.set (2 * i.val) (bits w 0 16) (by omega)).set (2 * i.val + 1) (bits w 16 16) (by omega) } }
/-- The reservation registers of a port take their values from the shadow (R383); the store's segments follow as the store
comes up. -/
def State.loadResvRegs (p : PortId) (s : State) : State :=
  let w := s.boot.shadow.resv[p]
  (s.modPort p (fun x => { x with resvRx := bits w 0 12, resvTx := bits w 16 12 })).resvLoaded p
/-- Load every IMG register: at the end of Slip, at release and at exit from Deep (R393, Table 17.3). -/
def State.loadImg (s : State) : State := forEach s.presentPorts (fun p t => (t.loadProfile p).loadResvRegs p) s.loadOther
/-- Load every IMG register, and THRESH: at release and at exit from Deep (Table 17.3). -/
def State.loadAll (s : State) : State := forEach s.presentPorts State.loadThresh s.loadImg

/-- Bring the store banks up empty: every queue of a present port its reservation, the pool the rest (R187, R384). -/
def State.initStore (s : State) : State :=
  let s := { s with regions := s.regions.map (fun y => { y with pool := Config.bankSegments, poolUpsets := [],
                                                                poolMin := Config.bankSegments, reclaim := false }) }
  let s := forEach s.presentPorts (fun p t => (t.modPort p (fun x =>
    { (x.renewQueue .rx {}).renewQueue .tx {} with lossFrom := none })).loadResv p) s
  { s with regions := s.regions.map (fun y => { y with poolMin := y.pool }) }

/-! ### Release (R73, R369) -/

/-- The image default of a source's TARGETS and mask bit (R385). -/
def State.srcDefault (s : State) (i : SrcId) (q : Src) : Src :=
  let b := s.boot.shadow.att[i]
  { q with targets := b.extractLsb' 0 4, masked := b.getLsbD 4 }

/-- A port begins its release line check; ports 4r and 4r + 1 hold the check channels first (R73). The rise to Ready at
release is none of R16's power transitions, of which R73 would run four in a region at once (log 113, DESIGN CHOICE). -/
def State.beginRelease (p : PortId) (s : State) : State :=
  s.modPort p (fun x => { x with
    commanded := .ready
    trans := some { target := .ready, source := .off, byCmd := false, supply := false, checked := false }
    line := { x.line with checking := decide (p.val % 4 < 2) } })

/-- Release (R369): the Release values are loaded, POWER_EVENTS among them (Table 12.13; log 54), the events since
power-up are applied in source order, and the line checks begin. -/
def State.release (ms : BitVec 8) (s : State) : State :=
  let s := s.loadAll.initStore
  let early := (List.finRange 160).flatMap (fun i => s.boot.early.filter (fun e => e == i))
  let s := { s with
    boot := { s.boot with stage := .released, releaseMs := ms, early := [] }
    dev := { s.dev with cmdWidth := BitVec.ofNat 3 (popcount s.tr.trained), changeDue := false }
    pw := { s.pw with events := 0 }
    att := { s.att with srcs := Vector.ofFn (fun i => s.srcDefault i {}) }
    cnt := { sels := s.boot.shadow.cnts.map (fun h => h.extractLsb' 0 10) } }
  let s := forEach s.presentPorts (fun p t =>
    (t.modPort p (fun x =>
      (x.withLine (x.line.modBoth (fun q => { q with prot := s.protHeld p }))).chargeOutage s.coreUs)).beginRelease p) s
  (s.attEvents early).svcEvent 0

/-! ### Retention (R320 to R323) -/

/-- Save the attention state and the counters (R320, R343); on the way from Sleep to Deep they are saved already. -/
def State.saveAtt (s : State) : State :=
  if s.att.saved then s else { s with att := { s.att with saved := true, arrived := [] } }

/-- A source whose retention word fails parity (R323). -/
def State.lostSrc (s : State) (i : SrcId) (q : Src) : Src :=
  s.srcDefault i { q with pend := true, claimed := false, repend := false, count := 15 }

/-- Replace what retention words that fail parity held (R323): the sources of present ports, ATT_PROC, and ATT_EVENTS,
for which the spec states no value (log 21); a source left pending without a target sets NO_TARGET (R312). -/
def State.replaceLost (bad : RetentionFault) (s : State) : State :=
  let a := if bad.events then { s.att with events := Config.lostEvents s.freeCtr } else s.att
  let a := a.updateAll ((List.finRange 160).filter (fun i => bad.sources.contains i && s.srcPresent i)) s.lostSrc
  { s with att := if bad.proc then a.setProc 0 else a, freeCtr := if bad.events then s.freeCtr + 1 else s.freeCtr }

/-- Restore the attention state and the counters (R322, R323): failed words are replaced, ASSERTED is recomputed, the
arrived sources take one event each, and every pending source is announced again in source order. -/
def State.restoreAtt (bad : RetentionFault) (s : State) : State :=
  let arrived := (List.finRange 160).filter (fun i => s.att.arrived.contains i)
  let s := ({ s with att := { s.att with saved := false, arrived := [] } }).replaceLost bad
  let s := { s with att := { s.att with
    srcs := Vector.ofFn (fun i => { s.att.srcs[i] with asserted := s.ownerAsserted i }) } }
  let s := s.attEvents arrived
  let s := if bad.sources.isEmpty && !bad.proc && !bad.events then s else s.attUnitEvent 4#3
  { s with att := (List.finRange 160).foldl (fun a i =>
    let q := a.srcs[i]
    a.put i (if q.pend then { q with noticed := 0 } else q)) { s.att with due := [] } }

/-! ### Deep (R345, R346) -/

/-- What a port keeps through Deep (a command that Sleep deferred is none of it: log 169, DESIGN CHOICE): its level, its
bench choice, the reported record and its outage with the charges in progress (R75, R446, R300); Protection goes on
(R347), any other pair condition ends. -/
def State.deepPort (s : State) (p : PortId) : Port :=
  let x := s.port p
  let prot := s.present p && s.protHeld p
  let y : Port :=
    { psel := x.psel, benchEn := x.benchEn, benchLevel := x.benchLevel, missed := true, outage := x.outage,
      outFreeze := x.outFreeze, outLane := x.outLane, outProt := x.outProt, line := { reported := x.line.reported } }
  (y.withLine (y.line.modBoth (fun q => { q with prot := prot }))).chargeOutage s.coreUs

/-- Every switched domain goes off (R345): what retention and bedrock do not hold is lost, and the registers outside
them stand at their Release values. -/
def State.enterDeep (s : State) : State :=
  let s := s.saveAtt
  { s with
    dev := { s.dev with st := .deep, changing := false, byState := false, deepWait := false, changeDue := false, exiting := false }
    ports := Vector.ofFn (fun p => s.deepPort p)
    regions := Vector.replicate 4 {}
    tr := { half := s.tr.half }
    host := { accepted := s.host.accepted }
    ties := Vector.replicate 4 {}
    tieDisturbed := 0
    parityRecord := 0
    pw := { s.pw with events := 0 }
    cnt := { s.cnt with ovf := 0 }
    svc := { s.svc with session := false, closing := false } }

/-- The domains are up on the way out of Deep, and the shadows are good, as they stand or after Kiln or Slip has run
again: the IMG registers and THRESH are loaded, the store comes up, and attention and counters are restored (Table 12.8
step 3, R370, R446). -/
def State.bringUp (s : State) : State := (s.loadAll.initStore).restoreAtt s.boot.retentionBad

/-! ### Sleep (R343, R344) -/

/-- Steps 2 to 4 of R343, at the end of the retrain to width 1; no pair but logical lane 0 is powered, so no dropped lane
has tested well (R229). -/
def State.enterSleep (s : State) : State :=
  let s := { s with dev := { s.dev with st := .sleep, changing := false, byState := false, toSleep := false },
                    tr := { s.tr with laneLocked := 0 } }
  s.saveAtt.powerEvent 5

/-- Lanes in use when the link is up: the commanded width, or one in Sleep, and no more than the lanes left (R228,
R229, R342). A command whose retrain is still to come leaves the width that was in force (log 128, DEDUCED). -/
def State.widthNow (s : State) (sleep : Bool) : BitVec 3 :=
  let want := if sleep then 1 else if s.dev.changeDue && s.tr.width != 0 then s.tr.width.toNat else s.dev.cmdWidth.toNat
  BitVec.ofNat 3 (min want (popcount s.tr.alive))

/-- The commanded state or width is in force after a training or retrain (R341): CHANGING ends, a commanded state is
reported, and a Sleep command is carried out (R343). A command whose own retrain is still to come is not in force (log
128). -/
def State.settle (s : State) : State :=
  if s.dev.changeDue then s
  else if s.dev.toSleep then s.enterSleep
  else if s.dev.exiting then s
  else
    let by_ := s.dev.byState
    let s := { s with dev := { s.dev with changing := false, byState := false } }
    if by_ then s.powerEvent 5 else s

/-! ### Halt and loss of power (R287, R356) -/

/-- What the environment and the non-volatile parts keep without phantom power: temperature, the management lane, the
fuses, the flash, and the model's own counters. -/
def State.bare (s : State) : State :=
  { State.reset with
    pending := s.pending
    boot := { State.reset.boot with fuseArray := s.boot.fuseArray }
    pw := { temps := s.pw.temps, warn := s.pw.warn, crit := s.pw.crit, mgmtFailed := s.pw.mgmtFailed, vin := s.pw.vin, pin := s.pw.pin }
    flash := s.flash
    coreUs := s.coreUs
    freeCtr := s.freeCtr }

/-- What an operation on the flash or the lock fuses leaves where it is cut short: the bytes it was to write hold free
values (log 21). -/
def State.cutWrite (s : State) : State :=
  let f := s.freeCtr
  match s.svc.busy with
  | .none => s
  | .page a bs =>
    let vs := (List.range bs.length).map (fun k => Config.cutByte (f + k))
    { s with flash := flashPutAll s.flash a.toNat vs, freeCtr := f + bs.length }
  | .erase a =>
    let lo := a.toNat / 4096 * 4096
    let vs := (List.range 4096).map (fun k => Config.cutByte (f + k))
    { s with flash := flashPutAll s.flash lo vs, freeCtr := f + 4096 }
  | .lock =>
    let w := s.boot.fuseArray[3] ||| ((Config.cutByte f).setWidth 32 &&& 7#32)
    { s with boot := { s.boot with fuseArray := s.boot.fuseArray.set 3 w }, freeCtr := f + 1 }

/-- The input stage goes off (R18, R287, R326): every item is lost. -/
def State.powerOff (high : Bool) (s : State) : State :=
  let s := s.cutWrite.bare
  { s with pw := { s.pw with overOff := high } }

/-- The service logic runs, and acknowledges the address that a stretch held (R408, R409). -/
def Svc.run (v : Svc) : Svc :=
  { v with running := true, starting := .none, addressed := v.addressed || v.starting == .stretch }

/-- The device halts (R356): no port is powered, the trunk trains again, the service logic runs, FAULT_N is low. -/
def State.halt (s : State) : State :=
  let s := s.cutWrite
  let s := { s with
    boot := { s.boot with stage := .halted, kilnHalt := true, rerunKiln := false, rerunSlip := false, early := [] }
    dev := { idx := s.dev.idx, idxWritten := s.dev.idxWritten, idxMismatch := s.dev.idxMismatch }
    ports := Vector.ofFn (fun p => s.deepPort p)
    regions := Vector.replicate 4 {}
    tr := { half := true }
    host := { accepted := s.host.accepted }
    ties := Vector.replicate 4 {}
    att := {}
    cnt := {}
    svc := { s.svc.run with session := false, closing := false, busy := .none } }
  s.driveFault

end Sys2Proof.Machine
end

