-- ==== Sys2Proof/Machine/Recovery.lean ====
section
/-! DEFINITION. Integrity (10_recovery.md R289 to R292; 13 R359; 17 R447; 07 R211 to R215): the check of a configuration
register, the reload of a fuse shadow word, the reset of a queue whose copies disagree, and the reclaim. -/

namespace Sys2Proof.Machine

/-! ### Configuration registers (R447) -/

/-- A configuration register of a part that has it: a field of code IMG, or BENCH_PSEL, of no absent port (R447). -/
def State.isCfg (s : State) (r : Reg) : Bool :=
  !s.regAbsent r && match r with
  | .imgDevice | .frameTable _ | .trkCfg | .resv _ _ | .benchPsel _ | .port _ .format | .port _ (.cfg _) => true
  | _ => false

/-- SCOPE of Table 10.11. -/
def cfgScope : Reg → BitVec 2
  | .port _ _ => 0
  | .resv _ _ => 1
  | _ => 2

/-- The stored bits of IMG_DEVICE (Table 14.10). -/
def imgDeviceMask : Word := 0x000F037F#32
/-- The stored bits of a FRAME_TABLE register (R140). -/
def frameMask : Word := 0xE3FFE3FF#32
/-- The stored bits of TRK_CFG (Table 8.18). -/
def trkCfgMask : Word := 0xFFFF03FF#32

/-- The bits a configuration register holds, which its parity covers (R447, R470). -/
def heldMask : Reg → Word
  | .port _ .format => 0x1FC#32
  | .port _ (.cfg i) => profileMask i.val
  | .resv _ _ => 0xFFF#32
  | .imgDevice => imgDeviceMask
  | .frameTable _ => frameMask
  | .trkCfg => trkCfgMask
  | .benchPsel _ => 0x8000000F#32
  | _ => 0

/-- The registers that hold bits of register `r`, at address `a`, each with its address and those of its bits: the register
itself, and PORT_FORMAT beside PORT_LINE_CFG, which hold one field and a parity bit each (R447; log 67). -/
def cfgHolders (r : Reg) (a : BitVec 16) : List (Reg × BitVec 16 × Word) :=
  (r, a, heldMask r) :: match r with
    | .port p .format => [(.port p (.cfg 0), a + 0x28#16, 0x1FC#32)]
    | .port p (.cfg 0) => [(.port p .format, a - 0x28#16, 0x1FC#32)]
    | _ => []

/-- Change one profile word of a port. -/
def State.modCfg (p : PortId) (i : Fin 24) (f : Word → Word) (s : State) : State :=
  s.modPort p (fun x => { x with cfg := x.cfg.set i (f x.cfg[i]) })

/-- Upset the bits `f` that a configuration register holds. -/
def State.flipCfg (r : Reg) (f : Word) (s : State) : State :=
  match r with
  | .port p .format => s.modCfg p 0 (fun w => w ^^^ f)
  | .port p (.cfg i) => s.modCfg p i (fun w => w ^^^ f)
  | .resv p .rx => s.modPort p (fun x => { x with resvRx := x.resvRx ^^^ bits f 0 12 })
  | .resv p .tx => s.modPort p (fun x => { x with resvTx := x.resvTx ^^^ bits f 0 12 })
  | .imgDevice => { s with boot := { s.boot with imgDevice := s.boot.imgDevice ^^^ f } }
  | .frameTable i => s.setFrames i (s.frameWord i ^^^ f)
  | .trkCfg => { s with boot := { s.boot with trkCfg := s.boot.trkCfg ^^^ f } }
  | .benchPsel p => s.modPort p (fun x =>
      { x with benchEn := x.benchEn != f.getLsbD 31, benchLevel := x.benchLevel ^^^ bits f 0 4 })
  | _ => s

/-- The built-in default of a register outside port and region blocks (R291, R390, R447). -/
def State.defaultCfg (r : Reg) (s : State) : State :=
  match r with
  | .imgDevice => { s with boot := { s.boot with imgDevice := Config.builtinImgDevice } }
  | .frameTable i => s.setFrames i (fld 16 Config.builtinFrame ||| fld 0 Config.builtinFrame)
  | .trkCfg => { s with boot := { s.boot with trkCfg := Config.builtinTrkCfg } }
  | .benchPsel p => s.modPort p (fun x => { x with benchEn := false, benchLevel := 0 })
  | _ => s

/-- Record a failing register where none is recorded (Table 10.11). -/
def State.recordParity (r : Reg) (a : BitVec 16) (s : State) : State :=
  if s.parityRecord.getLsbD 31 then s
  else { s with parityRecord := flag 31 true ||| fld 16 (cfgScope r) ||| fld 0 a }

/-- What a failing register does (R290, R291): its port freezes, or every present port of its region, or the built-in
default takes its place; it is recorded, counted, and source 144 is raised. -/
def State.parityFails (r : Reg) (a : BitVec 16) (s : State) : State :=
  let s := match r with
    | .port p _ => (s.freezePort p).modPort p (fun x => { x with ownFreeze := true })
    | .resv p _ =>
      let g := regionOf p
      forEach ((regionPorts g).filter s.present) State.freezePort (s.modRegion g (fun y => { y with frozen := true }))
    | _ => s.defaultCfg r
  let s := match r with
    | .port _ _ | .resv _ _ => s
    | _ => { s with boot := { s.boot with cfgBad := s.boot.cfgBad.filter (fun b => b != a) } }
  ((s.recordParity r a).count 0x0B0).attEvent 144

/-- A check of a configuration register (R289, R447): a register that fails acts, unless it has frozen its ports already
and is on record. -/
def State.checkCfg (a : BitVec 16) (s : State) : State :=
  match regAt a.toNat with
  | some r =>
    if s.isCfg r && s.boot.cfgBad.contains a && !(s.parityRecord.getLsbD 31 && (match r with
        | .port p _ => (s.port p).frozen
        | .resv p _ => (s.region (regionOf p)).frozen
        | _ => false)) then s.parityFails r a
    else s
  | none => s

/-- The parity of the register at `a` fails where it did not, or fails no more: an odd number of its bits has flipped. -/
def State.turnParity (a : BitVec 16) (s : State) : State :=
  let bad := s.boot.cfgBad
  { s with boot := { s.boot with cfgBad := if bad.contains a then bad.filter (fun b => b != a) else bad ++ [a] } }

/-- An upset of a configuration register that the scan visits (R289): an odd number of flips among the bits of a register
changes whether its parity fails, and a new failure acts, once for the two that share a field (R447). -/
def State.upsetCfg (a : BitVec 16) (f : Word) (s : State) : State :=
  match regAt a.toNat with
  | some r =>
    if !s.isCfg r then s
    else
      let g := f &&& heldMask r
      let turned := (cfgHolders r a).filter (fun h => popcount (g &&& h.2.2) % 2 == 1)
      let t := forEach turned (fun h u => u.turnParity h.2.1) (s.flipCfg r g)
      match turned.find? (fun h => !s.boot.cfgBad.contains h.2.1) with
      | some h => t.parityFails h.1 h.2.1
      | none => t.checkCfg a
  | none => s

/-! ### Fuse words (R354, R355, R359) -/

/-- The present mask Table 0.1 gives for a variant (R355). -/
def variantMask (v : BitVec 2) : BitVec 16 :=
  match v.toNat with
  | 0 => 0xFFFF#16 | 1 => 0x7777#16 | 2 => 0x3333#16 | _ => 0x1111#16
/-- A word as read from the fuse array passes its attempt rules (R355). -/
def fuseWordOk (w : Fin 32) (x : Word) : Bool :=
  (w == 3 || evenParity x) &&
    (w != 0 || (bits x 27 4 == 0xA#4 && bits x 0 16 == variantMask (bits x 25 2)))

/-- A fuse shadow word fails parity in service (R359): it is read again, four times at most, or the device halts. -/
def State.reloadFuse (w : Fin 32) (reads : List Word) (s : State) : State :=
  let tries := [0, 1, 2, 3].map (fun k => s.boot.fuseArray[w] ^^^ reads.getD k 0)
  match tries.find? (fuseWordOk w) with
  | some x => ({ s with boot := { s.boot with fuseShadow := s.boot.fuseShadow.set w x } }).startEvent 2
  | none =>
    let last := tries.getLastD 0
    ({ s with boot := { s.boot with kilnRead := s.boot.fuseShadow.set w last, kilnWord := BitVec.ofNat 5 w.val,
                                    kilnRetries := 3 } }).halt

/-- PARITY_SCAN (R289, R359): the scan finds nothing, an upset configuration register, or an upset fuse shadow word. -/
def execParityScan (hit : ScanHit) (s : State) : Out :=
  .next (if !s.serving then s
    else match hit with
      | .clean => forEach s.boot.cfgBad State.checkCfg s
      | .cfg a f => s.upsetCfg a f
      | .fuse w f reads =>
        let x := s.boot.fuseShadow[w] ^^^ f
        let s := { s with boot := { s.boot with fuseShadow := s.boot.fuseShadow.set w x } }
        if w != 3 && !evenParity x then s.reloadFuse w reads else s)

/-! ### Queue integrity (R211 to R215) -/

/-- The second copies and parity bits after an upset (R211, R212). -/
def QCheck.upset (c : QCheck) (u : Upset) (par : ParityUpset) : QCheck :=
  { writePos := c.writePos ^^^ u.writePos, readPos := c.readPos ^^^ u.readPos, items := c.items ^^^ u.items,
    pinPos := c.pinPos ^^^ u.pinPos,
    tags := match u.tag with
      | some k => c.tags.modify k not
      | none => c.tags
    freeTags := match u.freeTag with
      | some k => c.freeTags.modify k not
      | none => c.freeTags
    links := match u.link with
      | some k => c.links.modify k (fun _ => 0)
      | none => c.links
    urgParity := c.urgParity != par.urg, chainParity := c.chainParity != par.chain }

/-- The upsets `u` and `par` strike the second copies and the parity of a queue, and the second links and tags of its
region's pool. -/
def State.strike (p : PortId) (d : Dir) (u : Upset) (par : ParityUpset) (s : State) : State :=
  (s.modPort p (fun x => x.setCheck d ((x.checkOf d).upset u par))).modRegion (regionOf p) (fun y =>
    { y with poolUpsets := y.poolUpsets ++ u.pool.filter (fun g => (g.link || g.tag) && decide (g.seg < y.pool)) })

/-- QUEUE_INTEGRITY_FAULT (R211 to R213): the upsets `u` and `par` strike, and the next push, pop or bank access finds them
(`State.resetParted`). The banks are not in retention (Table 12.4). -/
def execQueueIntegrityFault (p : PortId) (d : Dir) (u : Upset) (par : ParityUpset) (s : State) : Out :=
  .next (
    let t := s.strike p d u par
    if s.storeOn && s.present p && !t.sound p d then t.resetParted p d else s)

/-- Return a reset queue's old segments (R215): reserved ones to its own list, pool ones and those whose tags disagree to
the pool. -/
def State.reclaimQueue (p : PortId) (d : Dir) (bad : Nat) (s : State) : State :=
  let s := s.divertTags p d bad 0
  let q := s.queue p d
  s.putQueue p d { q with freeOwn := q.freeOwn + q.reclaimOwn, reclaimOwn := 0, reclaimPool := 0 } (s.pool p + q.reclaimPool)

/-- RECLAIM_END (R215): the banks are not in retention (Table 12.4), and every segment of the bank has been examined;
`badTags` names, once each, the queues of those reserved segments whose two owner tags have come to disagree since their
reset. -/
def execReclaimEnd (r : RegionId) (badTags : List (PortId × Dir)) (s : State) : Out :=
  .next (if s.storeOn && (s.region r).reclaim then
      let one (p : PortId) (d : Dir) (t : State) : State :=
        t.reclaimQueue p d (badTags.filter (fun b => b.1 == p && b.2 == d)).length
      let s := forEach ((regionPorts r).filter s.present) (fun p t => one p .tx (one p .rx t)) s
      let s := s.modRegion r (fun y => { y with reclaim := false })
      forEach ((regionPorts r).filter s.present) (fun p t => ((t.drain p).tryGap p .tx false).tieSync p) s
    else s)

end Sys2Proof.Machine
end

