-- ==== Sys2Proof/Machine/RegRead.lean ====
section
/-! DEFINITION. What every register reads (the register tables of chapters 03 to 17; 17_register_map.md R441, R442, R448,
R470). Reading changes nothing here; claims, POP, waits and the parity check of a READ are in Requests. -/

namespace Sys2Proof.Machine

/-! ### Identity, fuses and image -/

/-- A fuse word as identity shows it: in the halt, what the last Kiln attempt read (R410, R446). -/
def State.idFuse (s : State) (w : Fin 32) : Word :=
  if s.boot.stage == .halted then s.boot.kilnRead[w] else s.boot.fuseShadow[w]

/-- STAGE of Table 13.7. -/
def Stage.code : Stage → BitVec 3
  | .powerUp => 0 | .kiln => 1 | .sampling => 2 | .slip => 3 | .training => 4 | .released => 5 | .halted => 6

/-- START_STATUS (Table 13.7). -/
def State.startStatus (s : State) : Word :=
  let b := s.boot
  fld 29 b.stage.code ||| flag 28 b.kilnHalt ||| fld 26 b.kilnRetries ||| fld 21 b.kilnWord ||| fld 18 b.slipResult |||
    flag 17 b.defaults ||| flag 16 b.heldReady ||| fld 0 b.releaseMs

/-- STRAP_STATUS (Table 13.8). -/
def State.strapStatus (s : State) : Word :=
  let b := s.boot
  fld 12 b.svcTimLevel ||| flag 11 b.svcTimIndet ||| fld 8 b.straps.svcAdr ||| flag 7 (lockBlown (s.idFuse 3)) |||
    flag 6 ((s.idFuse 1).getLsbD 1) ||| flag 5 ((s.idFuse 1).getLsbD 7) ||| flag 4 b.straps.install |||
    flag 3 b.straps.bench ||| flag 2 (b.straps.bench && !(s.idFuse 1).getLsbD 2) ||| flag 1 b.straps.trkHalf |||
    flag 0 (b.straps.trkHalf || (s.idFuse 1).getLsbD 8)

/-- ID_DEVICE (Table 17.15). -/
def State.idDevice (s : State) : Word :=
  0x10000000#32 ||| fld 24 s.boot.lineIssue ||| fld 16 (bits (s.idFuse 0) 25 2) ||| fld 0 Config.deviceCode
/-- ID_PRESENT (Table 17.16). -/
def State.idPresent (s : State) : Word := fld 16 (bits (s.idFuse 0) 27 4) ||| fld 0 (bits (s.idFuse 0) 0 16)
/-- ID_SERIALk (Table 17.17). -/
def State.idSerial (s : State) (k : Fin 4) : Word := s.idFuse ⟨4 + k.val, by omega⟩ &&& 0x7FFFFFFF#32

/-! ### Ports -/

/-- MODE of Table 3.9. -/
def LineMode.code : LineMode → BitVec 2
  | .full => 0 | .fallback _ => 1 | .multidrop => 2 | .lineFault => 3

/-- PORT_LINE_STATUS (Table 3.9). -/
def Port.lineStatus (fastDisable : Bool) (x : Port) : Word :=
  let l := x.line
  fld 28 l.b.cond ||| fld 24 l.a.cond ||| fld 22 l.mode.code ||| flag 21 (l.mode == .fallback .b) ||| flag 20 l.swapped |||
    flag 19 l.a.inv ||| flag 18 l.b.inv ||| flag 17 (l.a.unverified || l.b.unverified) ||| flag 16 l.loaded |||
    fld 12 l.eqBoost ||| fld 10 l.deemph ||| fld 8 (x.slew fastDisable) ||| fld 0 l.lenEst

/-- PORT_STATE (Table 12.11). -/
def Port.stateWord (x : Port) : Word :=
  fld 30 x.commanded.code ||| fld 28 x.st.code ||| flag 27 x.trans.isSome ||| flag 26 x.queued.isSome |||
    (match x.queued with
      | some q => fld 24 q.target.code
      | none => 0) ||| flag 23 x.deferred.isSome

/-- PORT_PROFILE (Table 13.9). -/
def Port.profileWord (x : Port) : Word :=
  flag 27 x.psel.indetEvent ||| flag 26 x.benchEn ||| fld 16 x.psel.ratio ||| flag 8 x.psel.indet |||
    fld 4 x.profileNow ||| fld 0 x.psel.level

/-- RX_STATE and TX_STATE of Table 5.15. -/
def RxFrame.code : RxFrame → BitVec 2
  | .wait => 0 | .payload => 2 | _ => 1
/-- TX_STATE. -/
def TxFrame.code : TxFrame → BitVec 2
  | .outside => 0 | .header => 1 | .payload => 2
/-- FRAME_STATUS (Table 5.15). -/
def Port.frameStatus (x : Port) : Word :=
  fld 30 x.af.rxFrame.code ||| fld 28 x.af.txFrame.code ||| fld 18 x.af.rxRemain ||| fld 8 x.af.rxPid ||| fld 0 x.af.txPid

/-- RATE_STATUS (Table 4.10). While PEND is 0, PEND_ENTRY shows the entry of the last pending step (log 120, DESIGN
CHOICE). -/
def Port.rateStatus (fastDisable : Bool) (x : Port) : Word :=
  fld 30 x.rate.cur ||| fld 28 x.rate.pendEntry ||| flag 27 x.rate.pend |||
    flag 26 (x.fastEntry fastDisable x.rate.rxEntry) ||| fld 23 x.rx.centre

/-- SERVING of Table 7.7. -/
def Serving.code : Serving → BitVec 2
  | .none => 0 | .urgent => 1 | .bulk => 2 | .pinned => 3
/-- RXQ_STATUS and TXQ_STATUS (Table 7.7). -/
def Queue.statusWord (q : Queue) : Word :=
  flag 31 q.demoting ||| flag 30 q.pinValid ||| fld 28 q.servingNow.code ||| flag 27 (q.flush != .none) |||
    BitVec.ofNat 32 (cellsOf q.urg * 2 ^ 20 + q.items % 2 ^ 20)

/-- A register of a present port's block (Table 17.8). -/
def State.readPort (s : State) (p : PortId) (r : PortReg) : Word :=
  let x := s.port p
  let fd := s.fastDisable
  match r with
  | .state => x.stateWord
  | .stateEvents => fld 0 x.stEvents
  | .profile => x.profileWord
  | .txCommit => fld 24 x.gaps ||| fld 0 x.entered
  | .txCreditState => if x.limitGiven then fld 0 x.limitSent else 0
  | .rxCreditState => BitVec.ofNat 32 x.rxCreditRoom
  | .lineStatus => x.lineStatus fd
  | .lineCheck => fld 20 x.line.loopA ||| fld 8 x.line.loopB ||| flag 7 x.line.checkDone
  | .lineEvents => fld 0 x.line.lineEvents
  | .lineMargin => fld 16 x.line.edgeMin ||| fld 0 x.line.trips
  | .format => x.formatRead fd
  | .charEvents => fld 0 x.rx.charEvents
  | .charCounts => fld 16 x.rx.glitches ||| fld 0 x.rx.overruns
  | .rateStatus => x.rateStatus fd
  | .cfg i => x.cfgRead fd i
  | .pacerStatus => flag 16 x.paceFull ||| fld 0 x.tx.paceCount
  | .addrStatus => flag 7 x.af.muted ||| flag 6 (x.markLane == .urgent) ||| fld 0 x.af.lastIndex
  | .addrCounts => fld 16 x.af.damagedAddr ||| fld 0 x.af.muteDiscards
  | .frameStatus => x.frameStatus
  | .frameCounts => fld 16 x.af.framesOk ||| fld 0 x.af.frameErrs
  | .afEvents => fld 0 x.af.events
  | .flowStatus => flag 31 x.flow.held ||| flag 30 x.flow.holdSent ||| fld 16 x.flow.rxOutstanding ||| fld 0 x.flow.txCredit
  | .flowEvents => fld 0 x.flow.events
  | .flowCounts => fld 16 x.flow.holdsRx ||| fld 0 x.flow.holdsTx
  | .queueStatus d => (x.queue d).statusWord
  | .thresh d => BitVec.ofNat 32 (x.thresh d)
  | .rxqEvents => fld 0 x.rxqEvents
  | .txqEvents => fld 0 x.txqEvents
  | .queueFaults => fld 0 x.qFaults
  | .txqLoss => flag 31 x.txLossUnknown ||| fld 0 x.txLoss
  | .queueCounts => fld 16 x.txRefused ||| fld 8 x.resetsRx ||| fld 0 x.resetsTx
  | .flushTag => match x.flushTag with
    | some t => flag 31 true ||| fld 0 t
    | none => 0

/-! ### Regions and trunk -/

/-- One bit for each port of a region, from bit `lo` on. -/
def State.regionBits (s : State) (r : RegionId) (lo : Nat) (f : Port → Bool) : Word :=
  (regionPorts r).foldl (fun w p => w ||| flag (lo + p.val % 4) (s.present p && f (s.port p))) 0

/-- STATE of Table 8.14. -/
def LinkSt.code : LinkSt → BitVec 2
  | .down => 0 | .training => 1 | .up => 2 | .retrain => 3
/-- TRK_STATUS (Table 8.14). -/
def Trunk.statusWord (t : Trunk) : Word :=
  let map := t.laneList.zipIdx.foldl (fun (w : Word) x => w ||| BitVec.ofNat 32 (x.1.val * 2 ^ (8 + 2 * x.2))) 0
  fld 30 t.link.code ||| flag 29 t.half ||| flag 28 t.holdover ||| flag 27 t.stalled ||| flag 26 t.passing |||
    fld 23 t.width ||| fld 16 t.pairInv ||| map ||| fld 4 t.activeMask

/-! ### Attention -/

/-- A source word: bit `b` of word `w` is source 32w + b (R324); absent ports' sources read zero (R306). -/
def State.attWord (s : State) (w : Fin 5) (f : Src → Bool) : Word :=
  (List.finRange 32).foldl (fun v b =>
    let i : SrcId := ⟨32 * w.val + b.val, by omega⟩
    v ||| flag b.val (s.srcPresent i && f s.att.srcs[i])) 0

/-- ATT_CTLs (Table 11.11). -/
def Src.ctlWord (q : Src) : Word :=
  fld 24 q.noticed ||| fld 20 q.count ||| fld 18 q.claimer ||| fld 8 q.targets ||| flag 4 q.repend ||| flag 3 q.asserted |||
    flag 2 q.masked ||| flag 1 q.claimed ||| flag 0 q.pend

/-! ### State commands -/

/-- The device is in Idle: the commanded width is below the lanes trained (R342). -/
def State.idle (s : State) : Bool := s.released && decide (s.dev.cmdWidth.toNat < popcount s.tr.trained)
/-- STATE of DEVICE_STATE, and of STATUS in Deep (Tables 12.13 and 15.3). -/
def State.stateCode (s : State) : BitVec 2 :=
  match s.dev.st with
  | .awake => if s.idle then 1 else 0
  | .sleep => 2
  | .deep => 3

/-- Stretch mode would apply to a service transaction now (R409). -/
def State.stretches (s : State) : Bool :=
  !s.released || s.tr.link == .training || s.tr.link == .retrain || s.benchMode

/-- POWER_STATUS (Table 12.13). -/
def State.powerStatus (s : State) : Word :=
  fld 24 s.pw.vin ||| fld 16 s.pw.pin ||| flag 15 s.pw.inRange ||| flag 14 s.pw.bridgeRev |||
    BitVec.ofNat 32 (s.shorted % 64 * 256)

/-- DEVICE_INDEX (Table 9.11): INDEX reads STRAPPED until written. -/
def State.deviceIndex (s : State) : Word :=
  flag 5 s.dev.idxWritten ||| flag 4 s.dev.idxMismatch ||| fld 2 s.boot.straps.devidx |||
    fld 0 (if s.dev.idxWritten then s.dev.idx else s.boot.straps.devidx)

/-- One group's field of TIE_STATUS (Table 6.10). -/
def Tie.statusWord (t : Tie) : Word :=
  flag 7 t.ready ||| flag 6 t.opened ||| flag 5 t.early ||| flag 4 t.stray ||| fld 0 t.releases

/-- SVC_STATUS (Table 15.6). -/
def State.svcStatus (s : State) : Word :=
  flag 4 s.svc.passive ||| flag 3 (s.svc.noteDue || s.svc.noteSending || s.svc.noteWait) ||| flag 2 s.svc.session |||
    flag 1 (s.svc.busy != .none) ||| flag 0 s.stretches

/-! ### Every register -/

/-- The value of a register, for an origin that may see it (R441, R451). Write-only registers and the windows have
none. -/
def State.readAny (s : State) (r : Reg) : Word :=
  match r with
  | .idDevice => s.idDevice
  | .idPresent => s.idPresent
  | .idMap => fld 0 Config.mapIssue
  | .idSerial k => s.idSerial k
  | .startStatus => s.startStatus
  | .strapStatus => s.strapStatus
  | .startEvents => fld 0 s.boot.startEvents
  | .fuseShadow w => s.boot.fuseShadow[w]
  | .benchPsel p => flag 31 (s.port p).benchEn ||| fld 0 (s.port p).benchLevel
  | .imgWinCtl => flag 0 s.boot.imgWinClose
  | .imgInfo => s.boot.imgInfo ^^^ s.boot.flipsOf (.header 0)
  | .imgId => s.boot.imgId ^^^ s.boot.flipsOf (.header 1)
  | .imgCrc => s.boot.imgCrc ^^^ s.boot.flipsOf (.header 2)
  | .imgDevice => s.boot.imgDevice
  | .imgSections => fld 1 s.boot.imgSections
  | .frameTable i => s.frameWord i
  | .port p x => s.readPort p x
  | .storeStatus r => flag 29 (s.region r).reclaim ||| BitVec.ofNat 32 ((s.region r).pool % 2 ^ 15)
  | .storeLow r => BitVec.ofNat 32 ((s.region r).poolMin % 2 ^ 15)
  | .resv p .rx => fld 0 (s.port p).resvRx
  | .resv p .tx => fld 0 (s.port p).resvTx
  | .regionPower r =>
    s.regionBits r 8 (fun x => x.line.checking) ||| s.regionBits r 4 (fun x => x.queued.isSome) |||
      s.regionBits r 0 (fun x => x.trans.any (fun t => t.supply))
  | .regionQueued r => fld 0 (s.region r).waited
  | .trkStatus => s.tr.statusWord
  | .trkDelay => flag 31 s.tr.delayValid ||| fld 0 s.tr.delay
  | .trkSeq => fld 16 s.tr.txNext ||| fld 0 s.tr.rxExpect
  | .trkReplay => fld 20 s.tr.rewindSeq ||| BitVec.ofNat 32 (s.tr.used % 2 ^ 17)
  | .trkCfg => (s.boot.trkCfg &&& 0xFFFF0000#32) ||| BitVec.ofNat 32 (blockWaitField s.boot.trkCfg)
  | .trkEvents => fld 0 s.tr.trkEvents
  | .trkCounts => fld 16 s.tr.discards ||| fld 8 s.tr.retrains ||| fld 0 s.tr.stubs
  | .trkLane k => s.tr.lanes[k]
  | .trkPortLoss p => flag 31 (s.port p).portLossUnknown ||| fld 0 (s.port p).portLoss
  | .attPend w => s.attWord w (fun q => q.pend)
  | .attMask w => s.attWord w (fun q => q.masked)
  | .attClaimed w => s.attWord w (fun q => q.claimed)
  | .attAsserted w => s.attWord w (fun q => q.asserted)
  | .attProc => fld 0 s.att.proc
  | .attEvents => fld 0 s.att.events
  | .attCtl i => if s.srcPresent i then s.att.srcs[i].ctlWord else 0
  | .cntLo i => s.cnt.vals[i].extractLsb' 0 32
  | .cntHi i => s.cnt.vals[i].extractLsb' 32 32 &&& 0xFFFF#32
  | .cntSel i => fld 0 s.cnt.sels[i]
  | .cntOvf => s.cnt.ovf
  | .deviceIndex => s.deviceIndex
  | .deviceState => fld 30 s.stateCode ||| flag 29 s.dev.changing ||| fld 26 s.dev.cmdWidth
  | .powerStatus => s.powerStatus
  | .powerEvents => fld 0 s.pw.events
  | .rxIlv =>
    flag 31 (s.host.rxIlv.getLsbD 31) ||| BitVec.ofNat 32 (strideField s.host.rxIlv * 65536) |||
      fld 0 (bits s.host.rxIlv 0 16 &&& s.presentMask)
  | .hostErrors => fld 0 s.host.errors
  | .hostErrRecord => s.host.errRecord
  | .tieGroup g => flag 16 (s.tie g).hostRel ||| fld 0 ((s.tie g).members &&& s.presentMask)
  | .tieStatus =>
    (s.tie 0).statusWord ||| (s.tie 1).statusWord <<< 8 ||| (s.tie 2).statusWord <<< 16 ||| (s.tie 3).statusWord <<< 24
  | .tieDisturbed => fld 0 s.tieDisturbed
  | .freezeStatus => fld 0 s.frozenMask
  | .parityRecord => s.parityRecord
  | .portOutage p => (s.port p).outage
  | .svcStatus => s.svcStatus
  | .svcEvents => fld 0 s.svc.events
  | .svcCounts => fld 16 s.svc.transactions ||| fld 0 s.svc.pages
  | .attPendSet _ | .attPendClr _ | .attMaskSet _ | .attMaskClr _ | .cntClear | .portStateCmd | .rateCmd
  | .deviceStateCmd | .trkWidthCmd | .tieCmd | .queueCmd | .claim _ | .pop _ _ | .peek _ _ | .push _ => 0

/-- What an origin reads: zero of a SEC register it may not see, and of an absent port's register (R262, R448). -/
def State.readReg (s : State) (secure : Bool) (r : Reg) : Word :=
  if (r.isSec && !secure) || s.regAbsent r then 0 else s.readAny r

end Sys2Proof.Machine
end

