-- ==== Sys2Proof/Machine/RegWrite.lean ====
section
/-! DEFINITION. What a write beat does to each register (17_register_map.md R441 to R448; 09 R262 to R264, R277; 06 R170 to
R176; 07 R205 to R218; 11 R307 to R316; 12 R341 to R345; 13 R371, R372; 14 R392; 16 R432). -/

namespace Sys2Proof.Machine

/-- What a write beat means for its request (R472): it took effect or was hidden; it was ignored, with or without
CFG_WRITE_IGNORED; or its command was refused, with DETAIL and whether it acted all the same. -/
inductive BeatRes where
  | ok
  | ignored (flagged : Bool)
  | refused (detail : BitVec 16) (acted : Bool)
deriving DecidableEq, Repr

/-! ### W1C (R441, R304) -/

/-- Clear event bits in a port's registers. -/
def State.clearPort (p : PortId) (r : PortReg) (v : Word) (s : State) : State :=
  match r with
  | .stateEvents => (s.modPort p (fun x => { x with stEvents := x.stEvents &&& ~~~(bits v 0 2) })).attFall (portSrc p 7)
  | .profile =>
    (s.modPort p (fun x => { x with psel := { x.psel with indetEvent := x.psel.indetEvent && !v.getLsbD 27 } })).attFall
      (portSrc p 7)
  | .lineEvents =>
    (s.modPort p (fun x => ({ x with line := { x.line with lineEvents := x.line.lineEvents &&& ~~~(bits v 0 21) } }).reveal
      0 (bits v 0 21))).attFall (portSrc p 0)
  | .charEvents =>
    (s.modPort p (fun x => ({ x with rx := { x.rx with charEvents := x.rx.charEvents &&& ~~~(bits v 0 7) } }).reveal
      2 (bits v 0 21))).attFall (portSrc p 2)
  | .afEvents =>
    (s.modPort p (fun x => ({ x with af := { x.af with events := x.af.events &&& ~~~(bits v 0 4) } }).reveal
      3 (bits v 0 21))).attFall (portSrc p 3)
  | .flowEvents =>
    (s.modPort p (fun x => { x with flow := { x.flow with events := x.flow.events &&& ~~~(bits v 0 3) } })).attFall
      (portSrc p 4)
  | .rxqEvents =>
    (s.modPort p (fun x => ({ x with rxqEvents := x.rxqEvents &&& ~~~(bits v 0 4) }).reveal 1 (bits v 0 21))).attFall
      (portSrc p 1)
  | .txqEvents => (s.modPort p (fun x => { x with txqEvents := x.txqEvents &&& ~~~(bits v 0 5) })).attFall (portSrc p 5)
  | .queueFaults => (s.modPort p (fun x => { x with qFaults := x.qFaults &&& ~~~(bits v 0 4) })).attFall (portSrc p 6)
  | _ => s

/-- Clear the bits of one tie group in TIE_STATUS (Table 6.10). -/
def State.clearTie (v : Word) (g : Fin 4) (s : State) : State :=
  (s.modTie g (fun t => { t with early := t.early && !v.getLsbD (8 * g.val + 5),
                                 stray := t.stray && !v.getLsbD (8 * g.val + 4) })).attFall (tieSrc g)

/-- Clear the SVC_EVENTS bits of a mask (R428). -/
def State.clearSvc (m : BitVec 11) (s : State) : State :=
  ({ s with svc := { s.svc with events := s.svc.events &&& ~~~m } }).attFall 146

/-- Write ones to a W1C register. -/
def State.clearEvents (r : Reg) (v : Word) (s : State) : State :=
  match r with
  | .startEvents => ({ s with boot := { s.boot with startEvents := s.boot.startEvents &&& ~~~(bits v 0 3) } }).attFall 152
  | .storeLow g => if v.getLsbD 0 then s.modRegion g (fun y => { y with poolMin := y.pool }) else s
  | .trkEvents =>
    forEach [128, 129, 130, 131, 132, 133, 134] State.attFall
      (s.modTr (fun t => { t with trkEvents := t.trkEvents &&& ~~~(bits v 0 11) }))
  | .attEvents => ({ s with att := { s.att with events := s.att.events &&& ~~~(bits v 0 3) } }).attFall 153
  | .cntOvf => ({ s with cnt := { s.cnt with ovf := s.cnt.ovf &&& ~~~v } }).attFall 147
  | .powerEvents =>
    forEach [136, 137, 138, 139, 140, 141, 142] State.attFall
      { s with pw := { s.pw with events := s.pw.events &&& ~~~(bits v 0 7) } }
  | .hostErrors => ({ s with host := { s.host with errors := s.host.errors &&& ~~~(bits v 0 6) } }).attFall 145
  | .tieStatus => forEach (List.finRange 4) (State.clearTie v) s
  | .tieDisturbed => { s with tieDisturbed := s.tieDisturbed &&& ~~~(bits v 0 4) }
  | .parityRecord =>
    if v.getLsbD 31 then ({ s with parityRecord := s.parityRecord &&& 0x7FFFFFFF#32 }).attFall 144 else s
  | .svcEvents => s.clearSvc (bits v 0 11)
  | .port p x => s.clearPort p x v
  | _ => s

/-! ### Bench writes to IMG registers (R263, R371, R392) -/

/-- A port stands where Table 13.6 lets its registers be written. -/
def Port.benchOpen (x : Port) : Bool := (x.st == .ready || x.st == .off) && x.trans.isNone
/-- The smallest receive reservation of a present port now, in segments. -/
def State.minRxNow (s : State) : Nat := (s.presentPorts.map (fun p => (s.port p).resvRx.toNat)).foldl min 65535
/-- A write writes the parity of every register that holds its bits good (R447; log 67). -/
def State.parityGood (a : BitVec 16) (s : State) : State :=
  let held : List (BitVec 16) := match regAt a.toNat with
    | some r => (cfgHolders r a).map (fun h => h.2.1)
    | none => [a]
  { s with boot := { s.boot with cfgBad := s.boot.cfgBad.filter (fun b => !held.contains b) } }

/-- The profile words of a port after a bench write of word `i` (`format`: of bits [8:0] of word 0 alone). -/
def Port.benchCfg (x : Port) (i : Fin 24) (format : Bool) (v : Word) : Vector Word 24 :=
  if format then x.cfg.set 0 ((x.cfg[0] &&& 0xFFFFFE03#32) ||| (v &&& 0x1FC#32)) else x.cfg.set i (v &&& profileMask i.val)

/-- A bench write to an IMG register of a port: none where it is ignored. -/
def State.writePortImg (p : PortId) (i : Fin 24) (format : Bool) (v : Word) (s : State) : Option State :=
  let x := s.port p
  let c := x.benchCfg i format v
  if s.benchMode && x.benchOpen && profileFormOk c && profileFlowOk s.minRxNow c then
    some (s.modPort p (fun x =>
      let x := { x with cfg := c }
      x.withLine (x.line.forProfile x.multidrop)))
  else none

/-- A bench write to a reservation (Table 13.6, R392). -/
def State.writeResv (p : PortId) (d : Dir) (n : BitVec 12) (s : State) : Option State :=
  let ps := (regionPorts (regionOf p)).filter s.present
  let total := (ps.map (fun o => (s.port o).resv .rx + (s.port o).resv .tx)).sum - (s.port p).resv d + n.toNat
  let wide (w : Vector Word 24) : Bool := bits w[17] 30 2 == 0#2 || decide ((bits w[18] 0 16).toNat < 64 * n.toNat)
  if s.benchMode && ps.all (fun o => (s.port o).st == .off && (s.port o).trans.isNone) &&
      decide (8 ≤ n.toNat ∧ n.toNat ≤ 2048 ∧ total ≤ Config.maxResv) &&
      (d == .tx || (s.boot.shadow.profiles.all wide && s.presentPorts.all (fun o => wide (s.port o).cfg))) then
    some (s.setResv p d n)
  else none

/-- A bench write to an IMG register outside port and region blocks. -/
def State.writeOtherImg (r : Reg) (v : Word) (s : State) : Option State :=
  if s.benchMode && s.presentPorts.all (fun p => (s.port p).benchOpen) then
    match r with
    | .imgDevice =>
      if hostAddrOk (bits v 0 7) then some { s with boot := { s.boot with imgDevice := v &&& imgDeviceMask } } else none
    | .frameTable i => some (s.setFrames i (v &&& frameMask))
    | .trkCfg => some { s with boot := { s.boot with trkCfg := v &&& trkCfgMask } }
    | _ => none
  else none

/-- A bench write to BENCH_PSEL (R372): the port's IMG registers are loaded again. -/
def State.writePsel (p : PortId) (v : Word) (s : State) : Option State :=
  if s.benchMode && (s.port p).benchOpen then
    some ((s.modPort p (fun x => { x with benchEn := v.getLsbD 31, benchLevel := bits v 0 4 })).loadProfile p)
  else none

/-- An IMG or BENCH_PSEL write that took effect, or was ignored and is to be flagged. -/
def imgDone (a : BitVec 16) (s : State) : Option State → State × BeatRes
  | some t => (t.parityGood a, .ok)
  | none => (s, .ignored true)

/-! ### State commands (R277, R335, R341 to R345) -/

/-- The state a code names (Table 12.11). -/
def stateOf (c : BitVec 2) : PState :=
  match c.toNat with
  | 0 => .off | 1 => .retain | 2 => .ready | _ => .run

/-- A command to Run is refused to Ready (R24, R264, R368). -/
def State.runHeld (s : State) : Bool := !s.dev.idxWritten || s.dev.idxMismatch || s.boot.heldReady

/-- PORT_STATE_CMD (R277); what the shifters of the ports selected hold comes in ascending port order (log 10). -/
def State.portStateCmd (v : Word) (mids : List Mid) (s : State) : State × BeatRes :=
  let ps := s.portsOf (bits v 0 16)
  let want := stateOf (bits v 16 2)
  let held := want == .run && s.runHeld && !ps.isEmpty
  let target := if held then .ready else want
  let s' := forEach ps.zipIdx (fun x t => t.portCommand x.1 target (mids.getD x.2 .idle)) s
  (s', if held then .refused (bits v 0 16 &&& s.presentMask) true else .ok)

/-- RATE_CMD (R115, R277). -/
def State.rateCmd (v : Word) (s : State) : State :=
  forEach (s.portsOf (bits v 0 16)) (fun p t => t.rateCommand p (bits v 16 2)) s

/-- Every present port is in Retain or Off, none in transition or queued (Table 12.7). -/
def State.portsQuiet (s : State) : Bool :=
  s.presentPorts.all (fun p =>
    let x := s.port p
    (x.st == .retain || x.st == .off) && x.trans.isNone && x.queued.isNone)
/-- The further conditions of Deep (Table 12.7). -/
def State.deepAllowed (s : State) : Bool :=
  s.presentPorts.all (fun p => (s.port p).st == .off && (s.port p).rxq.items == 0) && s.tr.used == 0

/-- DEVICE_STATE_CMD (R341 to R345): the change begins once the completion is built. -/
def State.deviceStateCmd (c : BitVec 2) (s : State) : State × BeatRes :=
  let d := s.dev
  if d.changing then (s, .refused 0 false)
  else if c = 0#2 ∨ c = 1#2 then
    let w : BitVec 3 := if c = 0#2 then BitVec.ofNat 3 (popcount s.tr.trained) else 1
    ({ s with dev := { d with changing := true, byState := true, cmdWidth := w, exiting := d.st == .sleep } }, .ok)
  else if !s.portsQuiet then (s, .refused 0 false)
  else if c = 2#2 then
    if d.st == .sleep then (s.powerEvent 5, .ok)
    else ({ s with dev := { d with changing := true, byState := true, toSleep := true } }, .ok)
  else if !s.deepAllowed then (s, .refused 0 false)
  else ({ s with dev := { d with changing := true, byState := true, deepWait := true } }, .ok)

/-- TRK_WIDTH_CMD (R228, R277, R342). -/
def State.trkWidthCmd (w : BitVec 3) (s : State) : State × BeatRes :=
  if s.dev.changing || s.dev.st != .awake || w == 0 || decide (popcount s.tr.trained < w.toNat) then (s, .refused 0 false)
  else ({ s with dev := { s.dev with changing := true, cmdWidth := w } }, .ok)

/-- Carry a state or width command out once its completion is sent (R277): a retrain, the end of Sleep, or Deep, which waits
for a flash operation (R418). -/
def State.beginChange (was : Bool) (s : State) : State :=
  if was || !s.dev.changing || s.dev.exiting then s
  else if s.dev.deepWait then (if s.svc.busy == .none then s.enterDeep else s)
  else { s with dev := { s.dev with changeDue := true } }.dueChange

/-- DEVICE_INDEX (R24, R264). -/
def State.deviceIndexCmd (v : Word) (s : State) : State × BeatRes :=
  if s.dev.idxWritten then (s.hostError 2, .ignored false)
  else
    let i := bits v 0 2
    let bad := i != s.boot.straps.devidx
    let s := { s with dev := { s.dev with idxWritten := true, idxMismatch := bad, idx := i } }
    (if bad then s.attEvent 145 else s, .ok)

/-! ### Ties and queues (R170, R173, R176, R205 to R209, R269) -/

/-- TIE_GROUPg (R170). -/
def State.tieGroupCmd (g : Fin 4) (v : Word) (s : State) : State × BeatRes :=
  let m := bits v 0 16 &&& s.presentMask
  let taken := (List.finRange 4).any (fun h => h != g && ((s.tie h).members &&& m) != 0)
  if (s.tie g).opened || taken then (s, .refused (oneBit 16 g.val) false)
  else
    let s := s.modTie g (fun t => { t with members := m, hostRel := v.getLsbD 16 })
    (forEach s.presentPorts State.tieSync s, .ok)

/-- The release command of TIE_CMD (R173). -/
def State.tieReleaseCmd (g : Fin 4) (s : State) : State × BeatRes :=
  let s := s.tieReady g
  let t := s.tie g
  if !t.hostRel then (s, .ok)
  else if t.ready then (s.tieRelease g, .ok)
  else ((s.modTie g (fun t => { t with early := true })).attEvent (tieSrc g), .refused (oneBit 16 g.val) false)

/-- The cancel command of TIE_CMD (R176). -/
def State.tieCancelCmd (g : Fin 4) (s : State) : State :=
  let waiting := s.tieWaiting g
  let s := forEach waiting State.endWait s
  let s := (s.modTie g (fun t => { t.closed with ready := false })).attFall (tieSrc g)
  forEach waiting State.tieSync (s.tieReady g)

/-- A flush of one queue becomes pending (R205, R207): a receive flush crosses now, a transmit flush when the items
accepted before it have entered (R269). -/
def State.flushCmd (p : PortId) (d : Dir) (s : State) : State :=
  if (s.queue p d).flush != .none then s
  else if d == .rx && s.dev.st == .awake then s.crossFlush p .rx
  else s.modQueue p d (fun q => { q with flush := .waiting s.host.accepted })

/-- QWRITEs of a port as a reset finds them (R271): the first one that is still entering has some free number of its
items in its queue by then. -/
def State.enterSome (p : PortId) (s : State) : State :=
  match s.host.qwrites.find? (fun w => w.p == p && !w.left.isEmpty) with
  | none => s
  | some w =>
    let n := Config.itemsEntered s.freeCtr % (w.left.length + 1)
    let s := { s with
      freeCtr := s.freeCtr + 1
      host := { s.host with qwrites := s.host.qwrites.map (fun y =>
        if y = w then { y with left := y.left.drop n } else y) } }
    forEach (w.left.take n) (fun i t => t.txEnter p i.item i.urgent w.order) s

/-- The items of a port that are accepted before `order` and have not entered: of QWRITEs, and of blocks held in Sleep
(R269, R343). -/
def State.notEntered (s : State) (p : PortId) (order : Nat) : List TxItem :=
  ((s.host.writes.filter (fun w => w.p == p && decide (w.order < order))).map (fun w => w.left)).flatten ++
    ((s.host.sleepHeld.filter (fun h => !h.gone.contains p && decide (h.order < order))).map (fun h =>
      match blkDecode h.blk with
      | some rs => ((rs.filter (fun r => r.1 == p)).map (fun r => r.2)).flatten
      | none => [])).flatten

/-- The earliest host write of which an item is among those. -/
def State.notEnteredSince (s : State) (p : PortId) (order : Nat) : Option Nat :=
  (((s.host.writes.filter (fun w => w.p == p && decide (w.order < order) && !w.left.isEmpty)).map (fun w => w.order)) ++
    ((s.host.sleepHeld.filter (fun h => !h.gone.contains p && decide (h.order < order) && (blkNamed h.blk).contains p)).map
      (fun h => h.order))).min?

/-- A reset fails the beats of a QWRITE accepted before it whose items have not entered (R271). -/
def QWrite.cut (p : PortId) (order : Nat) (w : QWrite) : QWrite :=
  match w.left with
  | [] => w
  | i :: _ => if w.p = p ∧ w.order < order then { w with left := [], failedAt := some i.beat } else w

/-- What a reset does takes effect, its queue's flush cancelled at its acceptance (R207, R209): on transmit the items
accepted before `order` that have not entered are discarded and counted with the queue's own, and their beats fail (R269,
R271); the reset's GAP covers them (R58). -/
def State.emptyAt (p : PortId) (d : Dir) (order : Nat) (s : State) : State :=
  match d with
  | .rx => s.emptyQueue p .rx 0 true 0
  | .tx =>
    let gone := s.notEntered p order
    let since := s.notEnteredSince p order
    let s := s.modPort p (fun x => { x with placed := x.placed + BitVec.ofNat 24 (txCells gone),
                                            entered := x.entered + BitVec.ofNat 24 gone.length })
    let s := { s with host := { s.host.mapWrites (QWrite.cut p order) with
      sleepHeld := s.host.sleepHeld.map (fun (h : HeldBlk) => if h.order < order then { h with gone := p :: h.gone } else h) } }
    (s.lossSince p since).emptyQueue p .tx 0 true gone.length

/-- A queue's reset command cancels a pending flush (R207) and empties the queue; in Sleep, with the banks in retention, it
empties it as Sleep ends (Table 12.4; log 110). -/
def State.resetCmd (p : PortId) (d : Dir) (s : State) : State :=
  if s.dev.st == .awake then
    ((match d with | .rx => s | .tx => s.enterSome p).cancelFlush p d).emptyAt p d s.host.accepted
  else
    let s := s.cancelFlush p d
    { s with host := { s.host with sleepResets := s.host.sleepResets ++ [{ p := p, d := d, order := s.host.accepted }] } }

/-- A receive flush accepted in Sleep crosses. -/
def State.crossWaiting (p : PortId) (s : State) : State :=
  match (s.queue p .rx).flush with
  | .waiting _ => s.crossFlush p .rx
  | _ => s

/-- The settling chain of a transmit queue, from which marks have left in Sleep, is filled again (R184; log 110), unless the
copies that the fetch compares, or the chain's parity, disagree (R213). -/
def State.fetchTx (p : PortId) (s : State) : State :=
  let s := s.resetParted p .tx
  let r := (s.queue p .tx).refill (s.pool p)
  (s.putQueue p .tx r.1 r.2).tieSync p

/-- The store banks are out of retention: the settling chains are filled again, and what Sleep held back of the queue
commands acts, in the order of acceptance: the resets, each after the GAPs that FRESH trainings before it owe its queue,
then the receive flushes, each accepted after the resets of its queue, which would have cancelled it; transmit flushes
cross by FLUSH_CROSSING (R207; log 110). -/
def State.runSleepCmds (s : State) : State :=
  let s' := forEach s.presentPorts State.fetchTx { s with host := { s.host with sleepResets := [] } }
  forEach s.presentPorts State.crossWaiting
    (forEach s.host.sleepResets (fun r t =>
      (match r.d with | .rx => t | .tx => t.writeFresh (fun p => p == r.p) r.order).emptyAt r.p r.d r.order) s')

/-- QUEUE_CMD (R218): each selected queue of each present port, as though it had been commanded alone. -/
def State.queueCmd (v : Word) (s : State) : State :=
  let one (p : PortId) (d : Dir) (t : State) : State :=
    if bits v 30 2 == 1#2 then t.flushCmd p d else t.resetCmd p d
  forEach (s.portsOf (bits v 0 16)) (fun p t =>
    let t := if v.getLsbD 16 then one p .rx t else t
    if v.getLsbD 17 then one p .tx t else t) s

/-! ### Attention and counters (R307 to R316, R432) -/

/-- Apply a change to the sources of word `w` that `v` names, in source order; absent ports' stay (R306). -/
def State.attBits (w : Fin 5) (v : Word) (f : Src → Src) (s : State) : State :=
  let is : List SrcId := ((List.finRange 32).filter (fun b => v.getLsbD b.val)).map (fun b => ⟨32 * w.val + b.val, by omega⟩)
  { s with att := s.att.updateAll (is.filter s.srcPresent) (fun _ q => f q) }

/-- ATT_PROC (R308, Table 11.9): WM. -/
def State.attProcCmd (v : Word) (s : State) : State :=
  let m := bits v 16 8
  { s with att := s.att.setProc ((s.att.proc &&& ~~~m) ||| (bits v 0 8 &&& m)) }

/-- TARGETS of a source (R313). -/
def State.targetsCmd (i : SrcId) (v : Word) (s : State) : State :=
  if s.srcPresent i then { s with att := s.att.update i { s.att.srcs[i] with targets := bits v 8 4 } } else s

/-- CNT_SEL (R432). -/
def State.cntSelCmd (i : Fin 32) (v : Word) (s : State) : State :=
  { s with cnt := { s.cnt with sels := s.cnt.sels.set i (bits v 0 10), vals := s.cnt.vals.set i 0 } }
/-- CNT_CLEAR (R432). -/
def State.cntClearCmd (v : Word) (s : State) : State :=
  { s with cnt := { s.cnt with vals := Vector.ofFn (fun i => if v.getLsbD i.val then 0 else s.cnt.vals[i]) } }

/-- A claim (R314): the claimed state and the source word, or the spurious number. -/
def State.claimSrc (i : SrcId) (proc : BitVec 2) (s : State) : State × Word :=
  let q := s.att.srcs[i]
  if s.srcPresent i && q.pend && q.targets.getLsbD proc.toNat then
    let s := { s with att := s.att.put i { q with pend := false, claimed := true, claimer := proc, count := 0 } }
    (s.count 0x0A1, fld 20 q.count ||| BitVec.ofNat 32 i.val)
  else (s.count 0x0A2, 0x3FF#32)

/-- A completion (R316): by the claimer it ends the claim; any other changes nothing and is stray. To a source of an absent
port it changes nothing at all (R306; log 167, DESIGN CHOICE). -/
def State.completeSrc (i : SrcId) (proc : BitVec 2) (s : State) : State :=
  let q := s.att.srcs[i]
  if !s.srcPresent i then s
  else if q.claimed && q.claimer == proc then
    let again := q.asserted || q.repend
    { s with att := s.att.update i { q with claimed := false, repend := false, pend := again,
                                            noticed := if again then 0 else q.noticed } }
  else (s.count 0x0A3).attUnitEvent 2#3

/-! ### The service port's window (R418, R427) -/

/-- End the session now, or after the flash operation in progress (R418). -/
def State.closeSession (s : State) : State :=
  if !s.svc.session then s
  else if s.svc.busy == .none then { s with svc := { s.svc with session := false, closing := false } }
  else { s with svc := { s.svc with closing := true } }

/-- IMG_WIN_CTL (R427). -/
def State.imgWinCmd (v : Word) (s : State) : State :=
  let s := { s with boot := { s.boot with imgWinClose := v.getLsbD 0 } }
  if v.getLsbD 0 then s.closeSession else s

/-! ### PUSH (R203) -/

/-- Enter one item of a PUSH, after the QWRITEs accepted before it (R203, R54): it counts as a host-written item, and as no
carried cell (R272). -/
def State.pushItem (p : PortId) (i : Item) (u : Bool) (s : State) : State :=
  let s := s.enterQwrites p s.host.accepted
  let n := (s.port p).placed
  (s.txEnter p i (if i.isMark then u && !i.barrier else u || i.cell.getLsbD 14) s.host.accepted).modPort p (fun x => { x with placed := n })

/-- PUSH (R203): the cell enters as the next cell of a data block would; a BREAK or GAP cell waits for its extension. -/
def State.pushCmd (p : PortId) (v : Word) (s : State) : State :=
  let cell : CellW := bits v 0 16
  let u := v.getLsbD 16
  match (s.port p).pushHold with
  | some (a, ua) => (s.modPort p (fun x => { x with pushHold := none })).pushItem p { cell := a, ext := some cell } ua
  | none =>
    if wantsExt cell then s.modPort p (fun x => { x with pushHold := some (cell, u) })
    else s.pushItem p { cell := cell, ext := none } u

/-! ### Every register -/

/-- A SEC register as a non-secure origin finds it, or an absent port's register: nothing changes and the beat is OK
(R262, R448). -/
def State.hidden (s : State) (q : Req) (r : Reg) : Bool := (r.isSec && !s.secure q) || s.regAbsent r

/-- One write beat at address `a`, the checks of R258 passed (R441). -/
def State.writeReg (q : Req) (a : BitVec 16) (r : Reg) (v : Word) (mids : List Mid) (s : State) : State × BeatRes :=
  if s.hidden q r then (s, .ok)
  else match r with
    | .port p .format => imgDone a s (s.writePortImg p 0 true v)
    | .port p (.cfg i) => imgDone a s (s.writePortImg p i false v)
    | .port p (.thresh .rx) => (s.modPort p (fun x => { x with cfg := x.cfg.set 20 (v &&& 0xFFFFF#32) }), .ok)
    | .port p (.thresh .tx) => (s.modPort p (fun x => { x with cfg := x.cfg.set 21 (v &&& 0xFFFFF#32) }), .ok)
    | .resv p d => imgDone a s (s.writeResv p d (bits v 0 12))
    | .imgDevice | .frameTable _ | .trkCfg => imgDone a s (s.writeOtherImg r v)
    | .benchPsel p => imgDone a s (s.writePsel p v)
    | .imgWinCtl => (s.imgWinCmd v, .ok)
    | .portStateCmd => s.portStateCmd v mids
    | .rateCmd => (s.rateCmd v, .ok)
    | .deviceStateCmd => s.deviceStateCmd (bits v 0 2)
    | .trkWidthCmd => s.trkWidthCmd (bits v 0 3)
    | .deviceIndex => s.deviceIndexCmd v
    | .rxIlv => ({ s with host := { s.host with rxIlv := v &&& 0x80FFFFFF#32 } }, .ok)
    | .tieGroup g => s.tieGroupCmd g v
    | .tieCmd =>
      let g : Fin 4 := ⟨(bits v 0 2).toNat, (bits v 0 2).isLt⟩
      if bits v 30 2 = 1#2 then s.tieReleaseCmd g else (s.tieCancelCmd g, .ok)
    | .queueCmd => (s.queueCmd v, .ok)
    | .attPendSet w => (s.attBits w v Src.pendSet, .ok)
    | .attPendClr w => (s.attBits w v Src.pendClr, .ok)
    | .attMaskSet w => (s.attBits w v (fun x => { x with masked := true }), .ok)
    | .attMaskClr w => (s.attBits w v (fun x => { x with masked := false }), .ok)
    | .attProc => (s.attProcCmd v, .ok)
    | .attCtl i => (s.targetsCmd i v, .ok)
    | .cntSel i => (s.cntSelCmd i v, .ok)
    | .cntClear => (s.cntClearCmd v, .ok)
    | .claim i => (s.completeSrc i q.proc, .ok)
    | .push p => (s.pushCmd p v, .ok)
    | _ => (s.clearEvents r v, .ok)

end Sys2Proof.Machine
end

