-- ==== Sys2Proof/Machine/ReqOps.lean ====
section
/-! DEFINITION. Requests (09_trunk_transactions.md R255 to R262, R270 to R275, R472; 17_register_map.md R439 to R451; 07
R203, R204): the checks of a READ or WRITE, its beats and its completion, and the reads that wait. -/

namespace Sys2Proof.Machine

/-! ### Acceptance -/

/-- A host control block is accepted while blocks flow (R240, R261); else nothing arrives (log 4). -/
def State.hostCtl (f : State → State) (s : State) : State := if s.blocksFlow then f s.acceptBlk else s

/-! ### The checks of Table 9.3 -/

/-- The bytes of an access (R257). -/
def sizeBytes (size : BitVec 2) : Nat := 2 ^ size.toNat

/-- POP and PUSH act only in bench mode with the port in Ready or Run (R203). -/
def State.windowShut (s : State) (p : PortId) : Bool :=
  !s.benchMode || !((s.port p).st == .ready || (s.port p).st == .run)

/-- A command register refuses this value by its OP (R218, Table 9.6). -/
def Reg.opBad (v : Word) : Reg → Bool
  | .tieCmd | .queueCmd => !(bits v 30 2 == 1#2 || bits v 30 2 == 2#2)
  | _ => false

/-- A data-window register is shut (R203). -/
def State.windowBad (s : State) : Reg → Bool
  | .pop p _ => s.windowShut p
  | .push p => s.windowShut p
  | _ => false

/-- The low word of a counter pair (R258). -/
def Reg.pair : Reg → Bool
  | .cntLo _ => true
  | _ => false

/-- A register refuses a beat of this kind and size (Table 9.3, R440). Only ADDR, the address of the `first` beat, need be the
low word of a counter pair. -/
def State.regRefuses (s : State) (q : Req) (write first : Bool) (size : BitVec 2) (v : Word) (r : Reg) : Bool :=
  (r.single && size != 2#2) ||
  (decide (size.toNat < 2) && !(r.acc == .ro || r.acc == .w1c)) ||
  (first && size == 3#2 && !r.pair) ||
  s.windowBad r ||
  if write then r.opBad v || (r.acc == .ro && !s.hidden q r) else r.acc == .wo

/-- A beat at byte address `b` is refused on its own; the alignment of ADDR is judged, that is of the `first` beat (R258, R442,
R450). -/
def State.beatRefused (s : State) (q : Req) (write first : Bool) (size : BitVec 2) (b : Nat) (v : Word) : Bool :=
  decide (65536 ≤ b) || (first && decide (b % sizeBytes size ≠ 0)) || s.blockRefused write b ||
    match regAt b with
    | none => true
    | some r => s.regRefuses q write first size v r

/-- The address of beat `i` (R257). -/
def beatAddr (addr : BitVec 16) (i : Nat) : Nat := addr.toNat + 4 * i

/-- Address `b` takes one access of 32 bits at a time: claims and data windows, and TX_COMMIT (Table 9.3, R440). -/
def singleAt (b : Nat) : Bool :=
  decide (0x7000 ≤ b) || match regAt b with
    | some r => r.single
    | none => false
/-- A burst of this shape is refused as a whole (Table 9.3, R440). -/
def burstRefused (size : BitVec 2) (addr : BitVec 16) (n : Nat) : Bool :=
  decide (1 < n) && (size != 2#2 || (List.range n).any (fun i => singleAt (beatAddr addr i)))

/-- The address recorded of a request that R258 refuses, where it does (Table 9.13). -/
def State.refusal (s : State) (q : Req) (write : Bool) (size : BitVec 2) (addr : BitVec 16) (n : Nat) (vs : List Word) :
    Option (BitVec 16) :=
  match (List.range n).find? (fun i => s.beatRefused q write (i == 0) size (beatAddr addr i) (vs.getD i 0)) with
  | some i => some (BitVec.ofNat 16 (beatAddr addr i))
  | none => if burstRefused size addr n then some addr else none

/-- Write HOST_ERR_RECORD (Table 9.13). -/
def State.recordErr (q : Req) (addr : BitVec 16) (s : State) : State :=
  { s with host := { s.host with errRecord := flag 31 q.sec ||| fld 29 q.proc ||| fld 0 addr } }

/-- Complete a request with ACCESS_ERROR (R258). -/
def State.accessError (q : Req) (addr : BitVec 16) (n : Nat) (s : State) : State :=
  ((s.recordErr q addr).hostError 0).complete q 1 n 0 []

/-- Complete a block with MALFORMED (R256). -/
def State.malformed (q : Req) (s : State) : State := s.complete q 5 0 0 []

/-! ### READ -/

/-- A value of a narrow access: the addressed bytes in the low bits (R439). -/
def narrowRead (size : BitVec 2) (b : Nat) (v : Word) : Word :=
  match size.toNat with
  | 0 => (v >>> (8 * (b % 4))) &&& 0xFF#32
  | 1 => (v >>> (8 * (b % 4))) &&& 0xFFFF#32
  | _ => v

/-- Read one beat: the register's value, and the check of a configuration register (R447). -/
def State.readBeat (q : Req) (size : BitVec 2) (b : Nat) (s : State) : List Word × State :=
  match regAt b with
  | none => ([], s)
  | some r =>
    let v := narrowRead size b (s.readReg (s.secure q) r)
    let hi := match r with
      | .cntLo i => if size = 3#2 then [s.readAny (.cntHi i)] else []
      | _ => []
    (v :: hi, s.checkCfg (BitVec.ofNat 16 (b / 4 * 4)))

/-- Read the beats of a burst in ascending order. -/
def State.readBeats (q : Req) (size : BitVec 2) : List Nat → State → List Word × State
  | [], s => ([], s)
  | b :: bs, s =>
    let r := s.readBeat q size b
    let t := State.readBeats q size bs r.2
    (r.1 ++ t.1, t.2)

/-- A data-window word (Table 7.5). -/
def windowWord (urgent start : Bool) (c : CellW) : Word :=
  flag 31 true ||| flag 30 urgent ||| flag 29 start ||| fld 0 c

/-- Keep the last value read through a queue's window (R204). -/
def State.setLast (p : PortId) (d : Dir) (v : Word) (s : State) : State := s.modQueue p d (fun q => { q with lastPop := v })

/-- A FLUSH that leaves a transmit queue copies its tag into TXQ_FLUSH_TAG (R208). -/
def State.leftFlush (p : PortId) (i : Item) (s : State) : State :=
  if i.isType 8 then s.modPort p (fun x => { x with flushTag := some i.arg }) else s

/-- What POP returns now: the extension of the item popped last, else the Sieve's next item's first cell (R203). -/
def State.popNow (p : PortId) (d : Dir) (s : State) : Option (Word × State) :=
  match (s.queue p d).popExt with
  | some x =>
    let v := windowWord ((s.queue p d).lastPop.getLsbD 30) false x
    some (v, (s.modQueue p d (fun q => { q with popExt := none })).setLast p d v)
  | none =>
    match s.takeItem p d with
    | none => none
    | some (e, lane, t) =>
      let v := windowWord (lane == .urgent) e.start e.item.cell
      let t := (t.modQueue p d (fun q => { q with popExt := e.item.ext })).setLast p d v
      some (v, match d with
        | .rx => (t.tellAll p e.notes).afterDraw p
        | .tx => (t.leftFlush p e.item).tieSync p)

/-- What PEEK returns now (R203). -/
def State.peekNow (p : PortId) (d : Dir) (s : State) : Option (Word × State) :=
  let q := s.queue p d
  match q.popExt with
  | some x => let v := windowWord (q.lastPop.getLsbD 30) false x; some (v, s.setLast p d v)
  | none => match q.peekNext with
    | none => none
    | some (e, lane) => let v := windowWord (lane == .urgent) e.start e.item.cell; some (v, s.setLast p d v)

/-- POP or PEEK now. -/
def State.windowNow (p : PortId) (d : Dir) (peek : Bool) (s : State) : Option (Word × State) :=
  if !s.present p then none else if peek then s.peekNow p d else s.popNow p d

/-- A data-window read answers, or stalls (R204). -/
def State.windowRead (q : Req) (p : PortId) (d : Dir) (peek : Bool) (s : State) : State :=
  match s.windowNow p d peek with
  | some (v, t) => t.complete q 0 0 0 [v]
  | none => { s with host := { s.host with stalls := s.host.stalls ++ [{ q := q, p := p, d := d, peek := peek }] } }

/-- A READ that passed its checks: single-access registers act, any other is read (R258, R440, R444). -/
def State.doRead (q : Req) (size : BitVec 2) (addr : BitVec 16) (n : Nat) (s : State) : State :=
  match regAt addr.toNat with
  | some (.port p .txCommit) =>
    if s.present p then
      { s with host := { s.host with commits := s.host.commits ++ [{ q := q, p := p, order := s.host.accepted }] } }
    else s.complete q 0 0 0 [0]
  | some (.claim i) => let r := s.claimSrc i q.proc; r.1.complete q 0 0 0 [r.2]
  | some (.pop p d) => s.windowRead q p d false
  | some (.peek p d) => s.windowRead q p d true
  | _ =>
    let r := s.readBeats q size ((List.range n).map (beatAddr addr))
    r.2.complete q 0 0 0 r.1

/-- A READ of `n` beats (R258). -/
def State.readReq (q : Req) (size : BitVec 2) (n : Nat) (addr : BitVec 16) (s : State) : State :=
  match s.refusal q false size addr n [] with
  | some a => s.accessError q a n
  | none => s.doRead q size addr n

/-! ### WRITE (R258, R472) -/

/-- The value a write beat brings to its register: a narrow one at the bytes it addresses (R439). -/
def narrowWrite (size : BitVec 2) (b : Nat) (v : Word) : Word :=
  match size.toNat with
  | 0 => (v &&& 0xFF#32) <<< (8 * (b % 4))
  | 1 => (v &&& 0xFFFF#32) <<< (8 * (b % 4))
  | _ => v

/-- What the beats of a WRITE have come to (R472): beats without effect, the first refused command's DETAIL, whether a
beat was ignored, and whether one was flagged and recorded. -/
structure BurstRes where
  fails : Nat := 0
  detail : Option (BitVec 16) := none
  ignored : Bool := false
  flagged : Bool := false
deriving DecidableEq, Repr

/-- One write beat with its part of the completion and, where it was ignored, its flag and record (R263). -/
def State.writeBeat (q : Req) (size : BitVec 2) (mids : List Mid) (b : Nat) (v : Word) (x : State × BurstRes) :
    State × BurstRes :=
  match regAt b with
  | none => x
  | some r =>
    let y := x.1.writeReg q (BitVec.ofNat 16 (b / 4 * 4)) r (narrowWrite size b v) mids
    match y.2 with
    | .ok => (y.1, x.2)
    | .ignored false => (y.1, { x.2 with fails := x.2.fails + 1, ignored := true })
    | .ignored true =>
      (((if x.2.flagged then y.1 else y.1.recordErr q (BitVec.ofNat 16 b)).hostError 1),
        { x.2 with fails := x.2.fails + 1, ignored := true, flagged := true })
    | .refused d acted =>
      (y.1, { x.2 with fails := if acted then x.2.fails else x.2.fails + 1, detail := some (x.2.detail.getD d) })

/-- The status of a WRITE (R472). -/
def BurstRes.status (r : BurstRes) : BitVec 4 := if r.detail.isSome then 2 else if r.ignored then 4 else 0

/-- A WRITE that passed its checks: its beats in ascending order, one completion, then the retrain or Deep that a state
command began (R277). -/
def State.doWrite (q : Req) (size : BitVec 2) (addr : BitVec 16) (vs : List Word) (mids : List Mid) (s : State) : State :=
  let was := s.dev.changing
  let r := vs.zipIdx.foldl (fun x y => State.writeBeat q size mids (beatAddr addr y.2) y.1 x) (s, {})
  (r.1.complete q r.2.status r.2.fails (r.2.detail.getD 0) []).beginChange was

/-- A WRITE of `n` beats (R256, R258). -/
def State.writeReq (q : Req) (size : BitVec 2) (n : Nat) (addr : BitVec 16) (vs : List Word) (mids : List Mid) (s : State) :
    State :=
  if vs.length ≠ (if size = 3#2 then 2 * n else n) then s.malformed q
  else match s.refusal q true size addr n vs with
    | some a => s.accessError q a n
    | none => s.doWrite q size addr vs mids

/-- A one-beat 32-bit WRITE, the shape of every command row. -/
def State.write1 (q : Req) (addr : BitVec 16) (v : Word) (mids : List Mid) (s : State) : State :=
  s.hostCtl (fun t => t.writeReq q 2 1 addr [v] mids)
/-- A one-beat 32-bit READ. -/
def State.read1 (q : Req) (addr : BitVec 16) (s : State) : State := s.hostCtl (fun t => t.readReq q 2 1 addr)

/-- A PORT_STATE_CMD WRITE (Table 9.12). -/
def State.stateCmdReq (q : Req) (st : PState) (ports : BitVec 16) (mids : List Mid) (s : State) : State :=
  s.write1 q 0x6004 (fld 16 st.code ||| fld 0 ports) mids

/-! ### QWRITE (R270, R271) -/

/-- The two cells of each beat's word, lower first; ODD leaves out the last upper one (R270). -/
def qwriteCells (odd : Bool) (ws : List Word) : List CellW :=
  let cs := (ws.map (fun w => [bits w 0 16, bits w 16 16])).flatten
  if odd then cs.dropLast else cs

/-- The items of a QWRITE, each with the beat of its first cell. -/
def qwriteItems (urgent : Bool) : List Item → Nat → List TxItem
  | [], _ => []
  | i :: is, k =>
    { item := i, urgent := if i.isMark then urgent && !i.barrier else urgent || i.cell.getLsbD 14, beat := k / 2 } ::
      qwriteItems urgent is (k + i.cells)

/-- Accept a QWRITE: its cells are carried, and its items wait to enter in order (R261, R271, R272). -/
def State.qwriteReq (q : Req) (urgent : Bool) (p : PortId) (odd : Bool) (ws : List Word) (s : State) : State :=
  if ws.length = 0 ∨ 64 < ws.length then s.malformed q
  else if s.boot.stage == .halted then s.accessError q (0x1030#16 + BitVec.ofNat 16 (0x100 * p.val)) ws.length
  else if !s.present p then s.complete q 0 0 0 []
  else
    let cs := qwriteCells odd ws
    let s := s.carry p (BitVec.ofNat 24 cs.length)
    { s with host := { s.host with qwrites := s.host.qwrites ++
        [{ q := q, p := p, order := s.host.accepted, beats := ws.length, left := qwriteItems urgent (cellItems cs) 0,
           failedAt := none }] } }

/-- The same requester (R260). -/
def sameReq (a b : Req) : Bool := a.tag == b.tag && a.proc == b.proc

/-- Data and queue writes of a port accepted before `order` can have entered: none is held in Sleep (R275, R343). -/
def State.settled (s : State) (p : PortId) (order : Nat) : Bool :=
  s.storeOn || !(s.host.writes.any (fun w => w.p == p && decide (w.order < order) && !w.left.isEmpty) ||
    s.host.sleepHeld.any (fun h => decide (h.order < order) && (blkNamed h.blk).contains p) ||
    s.host.sleepFresh.any (fun f => f.1 == p && decide (f.2 < order)))

/-- Every item of a port's host writes accepted before `order` that is lost is covered by a GAP written into the queue (R58):
none stands in a record whose GAP is still to be written, or is discarded by a flush before its boundary. Where R88, R338 or
R298 keeps that GAP until a later Run the read waits with it, past the 200 µs of R275 (log 111, DEDUCED). -/
def Port.lossesShown (x : Port) (order : Nat) : Bool := x.lossFrom.all (fun o => decide (order ≤ o))

/-! ### RX_CREDIT (R272, R274) -/

/-- A LIMIT for one port: taken, or ignored where it lies 2^23 or more ahead of the cells carried. -/
def State.takeLimit (p : PortId) (n : BitVec 24) (s : State) : State :=
  if !s.present p then s
  else if 2 ^ 23 ≤ (n - (s.port p).rxCarried).toNat then s.hostError 5
  else s.modPort p (fun x => { x with rxLimit := n, rxLimitGiven := true })

end Sys2Proof.Machine
end

