-- ==== Sys2Proof/Machine/Commands.lean ====
section
/-! DEFINITION. The rows that are one request to one register (09_trunk_transactions.md R277; 06, 07, 11, 12, 13, 15, 16):
each is the one-beat READ or WRITE that the host sends, through the checks, beats and completion of ReqOps. Then the
flush, and the stalled data-window read. A command whose premise does not hold leaves the state unchanged (log 4). -/

namespace Sys2Proof.Machine

/-! ### Port and device states (R277, R334 to R345) -/

/-- PORT_OFF (R338). -/
def execPortOff (q : Req) (ports : BitVec 16) (mids : List Mid) (s : State) : Out := .next (s.stateCmdReq q .off ports mids)
/-- PORT_RETAIN (R334). -/
def execPortRetain (q : Req) (ports : BitVec 16) (mids : List Mid) (s : State) : Out :=
  .next (s.stateCmdReq q .retain ports mids)
/-- PORT_READY (R334). -/
def execPortReady (q : Req) (ports : BitVec 16) (mids : List Mid) (s : State) : Out :=
  .next (s.stateCmdReq q .ready ports mids)
/-- PORT_RUN (R277). -/
def execPortRun (q : Req) (ports : BitVec 16) (s : State) : Out := .next (s.stateCmdReq q .run ports [])
/-- RATE_CMD (R115). -/
def execRateCmd (q : Req) (entry : BitVec 2) (ports : BitVec 16) (s : State) : Out :=
  .next (s.write1 q 0x6008 (fld 16 entry ||| fld 0 ports) [])
/-- DEVICE_STATE_CMD with STATE `c` (Table 9.12). -/
def State.deviceReq (q : Req) (c : BitVec 2) (s : State) : State := s.write1 q 0x600C (fld 0 c) []
/-- DEVICE_STATE_RUN (R342). -/
def execDeviceStateRun (q : Req) (s : State) : Out := .next (s.deviceReq q 0)
/-- DEVICE_STATE_IDLE (R342). -/
def execDeviceStateIdle (q : Req) (s : State) : Out := .next (s.deviceReq q 1)
/-- DEVICE_STATE_SLEEP (R343). -/
def execDeviceStateSleep (q : Req) (s : State) : Out := .next (s.deviceReq q 2)
/-- DEVICE_STATE_DEEP (R345). -/
def execDeviceStateDeep (q : Req) (s : State) : Out := .next (s.deviceReq q 3)
/-- TRK_WIDTH_CMD (R228). -/
def execTrkWidthCmd (q : Req) (width : BitVec 3) (s : State) : Out := .next (s.write1 q 0x6010 (fld 0 width) [])
/-- DEVICE_INDEX (R264). -/
def execDeviceIndex (q : Req) (value : Word) (s : State) : Out := .next (s.write1 q 0x6000 value [])

/-! ### Ties (R170, R173, R176) -/

/-- TIE_GROUP (R170). -/
def execTieGroup (q : Req) (g : Fin 4) (value : Word) (s : State) : Out :=
  .next (s.write1 q (0x6040#16 + BitVec.ofNat 16 (4 * g.val)) value [])
/-- TIE_RELEASE (R173). -/
def execTieRelease (q : Req) (g : Fin 4) (s : State) : Out :=
  .next (s.write1 q 0x6054 (fld 30 1#2 ||| BitVec.ofNat 32 g.val) [])
/-- TIE_CANCEL (R176). -/
def execTieCancel (q : Req) (g : Fin 4) (s : State) : Out :=
  .next (s.write1 q 0x6054 (fld 30 2#2 ||| BitVec.ofNat 32 g.val) [])

/-! ### Queues (R203 to R209, R218, R269) -/

/-- A QUEUE_CMD word (R218). -/
def queueWord (op : BitVec 2) (rx tx : Bool) (ports : BitVec 16) : Word :=
  fld 30 op ||| flag 17 tx ||| flag 16 rx ||| fld 0 ports
/-- QUEUE_FLUSH (R205). -/
def execQueueFlush (q : Req) (rx tx : Bool) (ports : BitVec 16) (s : State) : Out :=
  .next (s.write1 q 0x6060 (queueWord 1 rx tx ports) [])
/-- QUEUE_RESET (R209). -/
def execQueueReset (q : Req) (rx tx : Bool) (ports : BitVec 16) (s : State) : Out :=
  .next (s.write1 q 0x6060 (queueWord 2 rx tx ports) [])

/-- FLUSH_CROSSING (R269): every item accepted before the transmit flush has entered, and it crosses. -/
def execFlushCrossing (p : PortId) (s : State) : Out :=
  .next (match (s.queue p .tx).flush with
    | .waiting o =>
      if s.storeOn && s.present p then (s.enterQwrites p o).crossFlush p .tx else s
    | _ => s)

/-- FLUSH_BOUNDARY (R206): the crossed flush stands at a packet boundary. -/
def execFlushBoundary (p : PortId) (d : Dir) (s : State) : Out :=
  .next (if s.storeOn && s.present p then s.atBoundary p d else s)

/-- The address of a register in a queue's data window (R203). -/
def windowAddr (p : PortId) (d : Dir) (o : Nat) : BitVec 16 :=
  BitVec.ofNat 16 (0x8000 + 0x400 * (2 * p.val + (match d with | .rx => 0 | .tx => 1)) + o)
/-- POP (R203). -/
def execPop (q : Req) (p : PortId) (d : Dir) (s : State) : Out := .next (s.read1 q (windowAddr p d 0))
/-- PEEK (R203). -/
def execPeek (q : Req) (p : PortId) (d : Dir) (s : State) : Out := .next (s.read1 q (windowAddr p d 4))
/-- PUSH (R203): refused in a receive window, which has no such register. -/
def execPush (q : Req) (p : PortId) (d : Dir) (value : Word) (s : State) : Out :=
  .next (s.write1 q (windowAddr p d 8) value [])

/-- DATA_WINDOW_STALL_END (R204): the read returns a cell, or the last value of its window with VALID 0 and UNDERRUN.
What a POP needs to be accepted is not asked again (R203; log 162, DESIGN CHOICE). -/
def execDataWindowStallEnd (q : Req) (s : State) : Out :=
  .next (match s.host.stalls.find? (fun w => sameReq w.q q) with
    | none => s
    | some w =>
      if !s.serving then s
      else
        let s := { s with host := { s.host with stalls := s.host.stalls.filter (fun y => y != w) } }
        match s.windowNow w.p w.d w.peek with
        | some (v, t) => t.complete w.q 0 0 0 [v]
        | none =>
          if !s.present w.p then s.complete w.q 0 0 0 [0]
          else
            let v := (s.queue w.p w.d).lastPop &&& 0x7FFFFFFF#32
            (match w.d with
              | .rx => s.rxqEvent 3 w.p
              | .tx => s.txqEvent 4 w.p).complete w.q 0 0 0 [v])

/-! ### Attention (R307 to R316) -/

/-- The claim window of a source (R314). -/
def claimAddr (i : SrcId) : BitVec 16 := 0x7000#16 + BitVec.ofNat 16 (4 * i.val)
/-- CLAIM (R314). -/
def execClaim (q : Req) (i : SrcId) (s : State) : Out := .next (s.read1 q (claimAddr i))
/-- CLAIM_COMPLETE (R316); the value written is ignored. -/
def execClaimComplete (q : Req) (i : SrcId) (s : State) : Out := .next (s.write1 q (claimAddr i) 0 [])
/-- A write to word `w` of one of the source-word groups (Table 11.8). -/
def State.attReq (q : Req) (base : BitVec 16) (w : Fin 5) (v : Word) (s : State) : State :=
  s.write1 q (base + BitVec.ofNat 16 (4 * w.val)) v []
/-- ATT_PEND_SET (R307). -/
def execAttPendSet (q : Req) (w : Fin 5) (v : Word) (s : State) : Out := .next (s.attReq q 0x4020 w v)
/-- ATT_PEND_CLR (R307). -/
def execAttPendClr (q : Req) (w : Fin 5) (v : Word) (s : State) : Out := .next (s.attReq q 0x4040 w v)
/-- ATT_MASK_SET (R310). -/
def execAttMaskSet (q : Req) (w : Fin 5) (v : Word) (s : State) : Out := .next (s.attReq q 0x4080 w v)
/-- ATT_MASK_CLR (R311). -/
def execAttMaskClr (q : Req) (w : Fin 5) (v : Word) (s : State) : Out := .next (s.attReq q 0x40A0 w v)
/-- ATT_PROC (R308). -/
def execAttProc (q : Req) (value : Word) (s : State) : Out := .next (s.write1 q 0x4100 value [])
/-- TARGETS (R313): a write of ATT_CTL. -/
def execTargets (q : Req) (i : SrcId) (value : Word) (s : State) : Out :=
  .next (s.write1 q (0x4400#16 + BitVec.ofNat 16 (4 * i.val)) value [])

/-! ### Counters, bench overrides, image window (R432, R372, R427) -/

/-- CNT_SEL (R432). -/
def execCntSel (q : Req) (i : Fin 32) (value : Word) (s : State) : Out :=
  .next (s.write1 q (0x5008#16 + BitVec.ofNat 16 (16 * i.val)) value [])
/-- CNT_CLEAR (R432). -/
def execCntClear (q : Req) (v : Word) (s : State) : Out := .next (s.write1 q 0x5204 v [])
/-- BENCH_PSEL (R372). -/
def execBenchPsel (q : Req) (p : PortId) (value : Word) (s : State) : Out :=
  .next (s.write1 q (0x200#16 + BitVec.ofNat 16 (4 * p.val)) value [])
/-- IMG_WIN_CTL (R427). -/
def execImgWinCtl (q : Req) (value : Word) (s : State) : Out := .next (s.write1 q 0x300 value [])

/-- TICK (R435): a microsecond of CORE time, in which the equalisers of the lanes in use adapt (R223). -/
def execTick (s : State) : Out :=
  .next (let s := { s with coreUs := s.coreUs + 1 }
    if s.serving then s.adapt.count 0x001 else s)

end Sys2Proof.Machine
end

