-- ==== Sys2Proof/Machine/Boot.lean ====
section
/-! DEFINITION. Start-up (13_startup_and_straps.md R352 to R370; 14_configuration_image.md R387 to R393): the phantom
input, Kiln, the straps and resistor levels, and Slip. A command whose premise does not hold leaves the state unchanged
(log 4). -/

namespace Sys2Proof.Machine

/-! ### Power (R326, R352) -/

/-- The operating range, 37 V to 57 V, in units of 0.25 V (R326). -/
def inOperatingRange (vin : BitVec 8) : Bool := decide (148 ≤ vin.toNat ∧ vin.toNat ≤ 228)

/-- The input lets the input stage switch on: above 36 V, or within the operating range where over-voltage switched it
off (Table 12.1). -/
def Power.mayStart (w : Power) (vin : BitVec 8) : Bool :=
  !w.inputOn && (if w.overOff then inOperatingRange vin else decide (144 < vin.toNat))

/-- POWER_UP (R352, R326): the input stage is on and the start-up begins; nothing but the non-volatile parts is kept. -/
def execPowerUp (vin : BitVec 8) (rev : Bool) (s : State) : Out :=
  .next (if s.pw.mayStart vin then
      let t := s.bare
      { t with pw := { t.pw with inputOn := true, vin := vin, bridgeRev := rev, inRange := inOperatingRange vin } }
    else s)

/-- CONVERTERS_IN_REGULATION (R352 step 2): bedrock is up, FAULT_N follows R23, and Kiln begins. -/
def execConvertersInRegulation (s : State) : Out :=
  .next (if s.pw.inputOn && s.boot.stage == .powerUp then
      ({ s with boot := { s.boot with regulated := true, stage := .kiln } }).driveFault
    else s)

/-! ### Kiln (R354 to R357, R370) -/

/-- The fuse array as an attempt reads it, with the bits the reading disturbs. -/
def State.kilnReads (s : State) (flips : List (Fin 32 × Word)) : Vector Word 32 :=
  flips.foldl (fun v f => v.set f.1 (v[f.1] ^^^ f.2)) s.boot.fuseArray
/-- The first word of a reading that fails R355. -/
def firstBadFuse (v : Vector Word 32) : Option (Fin 32) := (List.finRange 32).find? (fun w => !fuseWordOk w v[w])

/-- Kiln is running, at start-up or again on the way out of Deep (R370). -/
def State.kilnRuns (s : State) : Bool :=
  s.pw.inputOn && (s.boot.stage == .kiln || (s.released && s.dev.st == .deep && s.dev.exiting && s.boot.rerunKiln))

/-- A strap pin is asserted: the majority of its sixteen readings, a tie reading as not asserted (R360). -/
def asserted (r : PinReads) : Bool := decide (8 < popcount r)
/-- The level of SVC_ADR (R360). -/
def adrLevel (a : AdrPins) : BitVec 3 :=
  BitVec.ofBool (asserted a.adr2) ++ BitVec.ofBool (asserted a.adr1) ++ BitVec.ofBool (asserted a.adr0)

/-- A device that halts before its straps are latched reads SVC_ADR from the pins (R410, R360). -/
def State.haltAddress (pins : AdrPins) (s : State) : State :=
  if s.boot.stage == .kiln then { s with boot := { s.boot with straps := { s.boot.straps with svcAdr := adrLevel pins } } }
  else s

/-- An attempt failed at word `w` (R355, R356): the fourth failure halts the device, which then shows what that attempt
read (R410, Table 17.3). -/
def State.kilnFails (w : Fin 32) (reads : KilnReads) (s : State) : State :=
  let s := { s with boot := { s.boot with kilnRetries := BitVec.ofNat 2 s.boot.attempts, kilnWord := BitVec.ofNat 5 w.val } }
  if 3 ≤ s.boot.attempts then
    let t := s.haltAddress reads.pins
    { t with boot := { t.boot with lineIssue := reads.lineIssue } }.halt
  else { s with boot := { s.boot with attempts := s.boot.attempts + 1 } }

/-- An attempt passed (R355): the shadow is written and the trims are applied; at start-up, sampling begins; on the way out of
Deep, where Slip need not run again, the domains come up with what the good shadow names (R370). STAGE goes on reading
released there (log 133, DESIGN CHOICE). -/
def State.kilnPasses (v : Vector Word 32) (lineIssue : BitVec 4) (s : State) : State :=
  let s := { s with boot := { s.boot with
    fuseShadow := v, kilnRetries := BitVec.ofNat 2 s.boot.attempts, attempts := 0, bedTrimmed := true, rerunKiln := false } }
  if s.boot.stage == .kiln then { s with boot := { s.boot with lineIssue := lineIssue, stage := .sampling } }
  else if s.boot.rerunSlip then s else s.bringUp

/-- KILN_ATTEMPT (R355). -/
def execKilnAttempt (flips : List (Fin 32 × Word)) (reads : KilnReads) (s : State) : Out :=
  .next (if s.kilnRuns then
      let v := s.kilnReads flips
      let s := { s with boot := { s.boot with kilnRead := v } }
      match firstBadFuse v with
      | some w => s.kilnFails w reads
      | none => s.kilnPasses v reads.lineIssue
    else s)

/-! ### Straps and resistor levels (R360 to R366) -/

/-- The level whose window holds the mean of sixteen conversions with a spread of at most 0.010 (Table 13.4): the
windows in units of 1/16,000 of 1/15. -/
def windowLevel (r : PinReading) : Option (BitVec 4) :=
  if 10 < r.spread then none
  else if r.sum ≤ 320 then some 0
  else if 15680 ≤ r.sum then some 15
  else ((List.range 14).find? (fun i =>
    decide (16000 * (i + 1) ≤ 15 * r.sum + 4800 ∧ 15 * r.sum ≤ 16000 * (i + 1) + 4800))).map (fun i => BitVec.ofNat 4 (i + 1))

/-- The nearer level of an indeterminate pin; `upper` decides a mean midway between two (log 21). -/
def nearerLevel (upper : Bool) (r : PinReading) : BitVec 4 :=
  let x := 15 * r.sum
  let k := (if upper then x + 8000 else x + 7999) / 16000
  BitVec.ofNat 4 (min 15 k)

/-- The level of a pin and whether it is indeterminate (R362), with the free values used so far. -/
def pinLevel (r : PinReading) (free : Nat) : BitVec 4 × Bool × Nat :=
  match windowLevel r with
  | some k => (k, false, free)
  | none => (nearerLevel (Config.nearerUpper free) r, true, free + 1)

/-- Latch one PSEL pin (R364): RATIO is the mean in units of 1/1,000. -/
def State.latchPsel (pins : StrapPins) (p : PortId) (s : State) : State :=
  let r := pins.psel[p]
  let l := pinLevel r s.freeCtr
  let s := { s with freeCtr := l.2.2 }
  let s := s.modPort p (fun x => { x with psel :=
    { ratio := BitVec.ofNat 10 (r.sum / 16), level := l.1, indet := l.2.1, profile := l.1, indetEvent := l.2.1 } })
  if l.2.1 then s.attEvent (portSrc p 7) else s

/-- Latch SVC_TIM (R365). -/
def State.latchTim (r : PinReading) (s : State) : State :=
  let l := pinLevel r s.freeCtr
  let s := { s with freeCtr := l.2.2, boot := { s.boot with svcTimLevel := l.1, svcTimIndet := l.2.1 } }
  if l.2.1 then s.startEvent 1 else s

/-- STRAP_RESISTOR_SAMPLING (R360 to R365): the straps and levels are latched, Slip begins, and the service logic starts,
ending any stretch (R408, R409). -/
def execStrapResistorSampling (pins : StrapPins) (s : State) : Out :=
  .next (if s.pw.inputOn && s.boot.stage == .sampling then
      let s := { s with
        boot := { s.boot with
          stage := .slip
          straps := { install := asserted pins.install, bench := asserted pins.bench,
                      devidx := BitVec.ofBool (asserted pins.devidx1) ++ BitVec.ofBool (asserted pins.devidx0), trkHalf := asserted pins.trkHalf,
                      svcAdr := adrLevel pins.svcAdr } }
        svc := s.svc.run }
      (forEach s.presentPorts (State.latchPsel pins) s).latchTim pins.svcTim
    else s)

/-! ### Slip (R367, R368, R370, R393) -/

/-- Slip is running, at start-up or again on the way out of Deep (R370). -/
def State.slipRuns (s : State) : Bool :=
  s.pw.inputOn &&
    (s.boot.stage == .slip || (s.released && s.dev.st == .deep && s.dev.exiting && !s.boot.rerunKiln && s.boot.rerunSlip))

/-- The image shadow and the registers of Table 14.9 that an outcome gives. -/
def State.slipShadow (o : BitVec 2) (s : State) : State :=
  let m := s.flash
  let good := o == 0#2
  let read := good || o == 3#2
  { s with boot := { s.boot with
    image := if good then imgShadow m else {}
    upsets := []
    slipResult := o
    defaults := !good
    heldReady := !good && s.imageRequired
    imgInfo := if read then fld 16 (img16 m 6) ||| fld 0 (img16 m 4) else 0
    imgId := if read then img32 m 8 else 0
    imgCrc := if o == 1#2 then 0 else img32 m (imgLength m)
    imgSections := if good then imgSections m else 0 } }

/-- The profile of an indeterminate port: DEFAULT_PROFILE (R364). -/
def State.defaultProfile (p : PortId) (s : State) : State :=
  s.modPort p (fun x => if x.psel.indet then { x with psel := { x.psel with profile := bits s.boot.shadow.dev0 0 4 } } else x)

/-- Notices that came due before NOTIFY_EN was known stay due only where it is 1 (R420). -/
def State.settleNotice (s : State) : State :=
  { s with svc := { s.svc with noteDue := s.svc.noteDue && s.boot.imgDevice.getLsbD 8 } }

/-- SLIP (R367): the outcome and the settings in force are fixed, and the IMG registers are loaded (R393); at start-up training
follows, at exit from Deep the domains come up (R370). -/
def execSlip (s : State) : Out :=
  .next (if s.slipRuns then
      let o := slipOutcome s.presentMask s.flash
      let s := forEach s.presentPorts State.defaultProfile (s.slipShadow o)
      let s := if o == 0#2 then s else s.startEvent 0
      let s := s.loadImg.settleNotice
      if s.boot.stage == .slip then { s with boot := { s.boot with stage := .training } }
      else { s with boot := { s.boot with rerunSlip := false } }.bringUp
    else s)

end Sys2Proof.Machine
end

