-- ==== Sys2Proof/Machine/Power.lean ====
section
/-! DEFINITION. The commands of phantom power and temperature (12_power_and_states.md R326, R328, R347; 10_recovery.md
R293, R294; 01_architecture.md R21, R23). Voltages are in units of 0.25 V, as VIN gives them. A command whose premise
does not hold leaves the state unchanged (log 4). -/

namespace Sys2Proof.Machine

/-! ### Phantom input -/

/-- Take the input monitor's reading. -/
def State.setVin (vin : BitVec 8) (s : State) : State := { s with pw := { s.pw with vin := vin } }

/-- PHANTOM_UNDERVOLTAGE (R326): below 33 V the input stage is off; where over-voltage had switched it off, 36 V starts
it again from now on. -/
def execPhantomUndervoltage (vin : BitVec 8) (s : State) : Out :=
  .next (if decide (vin.toNat < 132) then
      if s.pw.inputOn then (s.setVin vin).powerOff false
      else { s with pw := { s.pw with vin := vin, overOff := false } }
    else s)

/-- PHANTOM_OVERVOLTAGE (R326, R18): above 60 V the line die switches the input stage off. -/
def execPhantomOvervoltage (vin : BitVec 8) (s : State) : Out :=
  .next (if decide (240 < vin.toNat) && s.pw.inputOn then (s.setVin vin).powerOff true else s)

/-- PHANTOM_RANGE (R326, R23): RANGE is set where the input leaves the operating range, and FAULT_N follows. -/
def execPhantomRange (vin pin : BitVec 8) (s : State) : Out :=
  .next (if s.pw.inputOn then
      let left := s.pw.inRange && !inOperatingRange vin
      let s := { s with pw := { s.pw with vin := vin, pin := pin, inRange := inOperatingRange vin } }
      (if left && s.boot.regulated then s.powerEvent 0 else s).driveFault
    else s)

/-- CONVERTER_FAULT (R328). -/
def execConverterFault (s : State) : Out :=
  .next (if s.pw.inputOn && s.boot.regulated then s.powerEvent 1 else s)

/-! ### Temperature (R293, R294, R347) -/

/-- The sensors of the die a sensor lies on: line die 0 to 4, logic die 5 and 6 (R22). -/
def dieMask (i : Fin 7) : BitVec 7 := if i.val ≤ 4 then 0x1F#7 else 0x60#7

/-- Take a sensor's reading (R22). -/
def State.setTemp (r : SensorReading) (s : State) : State :=
  { s with pw := { s.pw with temps := s.pw.temps.set r.sensor r.temp } }

/-- A sensor reaches thermal-warning: THERM_WARN where its die enters it (R347). -/
def State.enterWarn (i : Fin 7) (s : State) : State :=
  if s.pw.warn.getLsbD i.val then s
  else
    let first := s.pw.warn &&& dieMask i == 0
    let s := { s with pw := { s.pw with warn := s.pw.warn ||| oneBit 7 i.val } }
    if first && s.boot.regulated then s.powerEvent 2 else s

/-- Set condition 7 of a port as the critical sensors now have it, with the LINE marks of the change (R293). As the condition
begins, a waiting tie member leaves its round, in Ready and Retain too (R298; log 127). -/
def State.followProt (mid : Mid) (p : PortId) (s : State) : State :=
  let held := s.protHeld p
  let begins := held && !((s.port p).line.a.prot && (s.port p).line.b.prot)
  if s.serving then
    let t := s.lineChange p mid (fun l => l.modBoth (fun q => { q with prot := held }))
    if begins then t.leaveTie p else t
  else s.modPort p (fun x => (x.withLine (x.line.modBoth (fun q => { q with prot := held }))).chargeOutage s.coreUs)

/-- The present ports whose drivers a sensor switches off (R293). -/
def State.sensorPorts (s : State) (i : Fin 7) : List PortId := s.presentPorts.filter (fun p => sensorHolds i p)

/-- THERMAL_WARNING (R347): a reading of 115 °C or more. -/
def execThermalWarning (r : SensorReading) (s : State) : Out :=
  .next (
    let s := s.setTemp r
    if 115 ≤ r.temp.toNat then s.enterWarn r.sensor else s)

/-- THERMAL_WARNING_END (R347): a reading below 105 °C. -/
def execThermalWarningEnd (r : SensorReading) (s : State) : Out :=
  .next (
    let s := s.setTemp r
    if 105 ≤ r.temp.toNat || s.pw.crit.getLsbD r.sensor.val then s
    else { s with pw := { s.pw with warn := s.pw.warn &&& ~~~(oneBit 7 r.sensor.val) } })

/-- THERMAL_CRITICAL (R293, R347): at a reading of 135 °C or more, THERM_CRIT where the die enters it, the drivers of the
sensor's ports off and their pairs in condition 7, FAULT_N low; `mids` are those ports' shifters in ascending port order
(log 10). -/
def execThermalCritical (r : SensorReading) (mids : List Mid) (s : State) : Out :=
  .next (
    let s := s.setTemp r
    if r.temp.toNat < 135 || s.pw.crit.getLsbD r.sensor.val then s
    else
      let s := s.enterWarn r.sensor
      let first := s.pw.crit &&& dieMask r.sensor == 0
      let s := { s with pw := { s.pw with crit := s.pw.crit ||| oneBit 7 r.sensor.val } }
      let s := if first && s.boot.regulated then s.powerEvent 3 else s
      let s := if s.released then
          forEach (s.sensorPorts r.sensor).zipIdx (fun x t => t.followProt (mids.getD x.2 .idle) x.1) s
        else s
      s.driveFault)

/-- A pair that no critical sensor holds any more leaves condition 7, and a quick sense follows (R293, R294, R83). -/
def State.releaseProt (p : PortId) (s : State) : State :=
  if s.protHeld p then s else (s.followProt .idle p).startSense p [.a, .b]

/-- THERMAL_CRITICAL_END (R293, R294, R347): a reading below 125 °C. -/
def execThermalCriticalEnd (r : SensorReading) (s : State) : Out :=
  .next (
    let s := s.setTemp r
    if r.temp.toNat < 125 && s.pw.crit.getLsbD r.sensor.val then
      let s := { s with pw := { s.pw with crit := s.pw.crit &&& ~~~(oneBit 7 r.sensor.val) } }
      (if s.released then forEach (s.sensorPorts r.sensor) State.releaseProt s else s).driveFault
    else s)

/-- MANAGEMENT_LANE_FAILURE (R23): the lane fails or recovers. -/
def execManagementLaneFailure (failed : Bool) (s : State) : Out :=
  .next (if s.pw.inputOn then ({ s with pw := { s.pw with mgmtFailed := failed } }).driveFault else s)

end Sys2Proof.Machine
end

