-- ==== Sys2Proof/Machine/Requests.lean ====
section
/-! DEFINITION. The READ, WRITE, QWRITE and credit commands (09_trunk_transactions.md R255 to R278; 17_register_map.md R441).
A command whose premise does not hold leaves the state unchanged (log 4). -/

namespace Sys2Proof.Machine

/-- READ (R258). -/
def execRead (q : Req) (size : BitVec 2) (beatsM1 : BitVec 6) (addr : BitVec 16) (s : State) : Out :=
  .next (s.hostCtl (fun t => t.readReq q size (beatsM1.toNat + 1) addr))

/-- WRITE (R258, R472). -/
def execWrite (q : Req) (size : BitVec 2) (beatsM1 : BitVec 6) (addr : BitVec 16) (words : List Word) (mids : List Mid)
    (s : State) : Out :=
  .next (s.hostCtl (fun t => t.writeReq q size (beatsM1.toNat + 1) addr words mids))

/-- MALFORMED_CONTROL_BLOCK (R256): SEC and PROC come from the WORD1 of a READ, WRITE or QWRITE, and are zero else. -/
def execMalformedControlBlock (op tag : BitVec 8) (w1 : Option Word) (s : State) : Out :=
  let q : Req := match w1 with
    | some w => if op = 1 ∨ op = 2 ∨ op = 3 then { tag := tag, sec := w.getLsbD 31, proc := bits w 29 2 }
      else { tag := tag, sec := false, proc := 0 }
    | none => { tag := tag, sec := false, proc := 0 }
  .next (s.hostCtl (State.malformed q))

/-- REGISTER_WRITE (R441): one beat of any size under the register's access codes. -/
def execRegisterWrite (q : Req) (size : BitVec 2) (addr : BitVec 16) (value : Word) (s : State) : Out :=
  .next (s.hostCtl (fun t => t.writeReq q size 1 addr (if size = 3#2 then [value, 0] else [value]) []))

/-- IMG_WRITE (R263). -/
def execImgWrite (q : Req) (addr : BitVec 16) (value : Word) (s : State) : Out := .next (s.write1 q addr value [])

/-- QWRITE (R270). -/
def execQwrite (q : Req) (urgent : Bool) (p : PortId) (odd : Bool) (words : List Word) (s : State) : Out :=
  .next (s.hostCtl (State.qwriteReq q urgent p odd words))

/-- QWRITE_COMPLETE (R271): every beat has entered or failed. -/
def execQwriteComplete (q : Req) (s : State) : Out :=
  .next (match s.host.qwrites.find? (fun w => sameReq w.q q) with
    | none => s
    | some w =>
      if !s.serving || s.dev.st == .sleep then s
      else
        let s := s.enterQwrites w.p (w.order + 1)
        let s := { s with host := { s.host with qwrites := s.host.qwrites.filter (fun y => y.order != w.order) } }
        match w.failedAt with
        | none => s.complete w.q 0 0 0 []
        | some k => s.complete w.q 3 (w.beats - k) (BitVec.ofNat 16 k) [])

/-- RX_CREDIT (R274): a LIMIT for each port of the mask; halted, no effect (R356). -/
def execRxCredit (mask : BitVec 16) (limits : List (BitVec 24)) (s : State) : Out :=
  .next (s.hostCtl (fun t =>
    if t.boot.stage == .halted then t
    else forEach ((maskPorts mask).zip limits) (fun x u => u.takeLimit x.1 x.2) t))

/-- TX_COMMIT (R275): a one-beat READ of the port's TX_COMMIT, which waits. -/
def execTxCommit (q : Req) (p : PortId) (s : State) : Out :=
  .next (s.read1 q (0x1030#16 + BitVec.ofNat 16 (0x100 * p.val)))

/-- TX_COMMIT_RETURN (R275, R58): earlier items have entered or are covered by a GAP, and the read completes with GAPS and
ENTERED. -/
def execTxCommitReturn (q : Req) (s : State) : Out :=
  .next (match s.host.commits.find? (fun c => sameReq c.q q) with
    | none => s
    | some c =>
      if !s.serving || !s.settled c.p c.order then s
      else
        let s := if s.storeOn then (s.enterQwrites c.p c.order).tryGap c.p .tx false else s
        if !(s.port c.p).lossesShown c.order then s
        else
        let s := { s with host := { s.host with commits := s.host.commits.filter (fun y => y.order != c.order) } }
        s.complete c.q 0 0 0 [s.readPort c.p .txCommit])

end Sys2Proof.Machine
end

