-- ==== Sys2Proof/Machine/Service.lean ====
section
/-! DEFINITION. The service port (15_service_port.md R398 to R429). Each transaction row is one whole transaction from START
to STOP (log 44). A command whose premise does not hold leaves the state unchanged (log 4). -/

namespace Sys2Proof.Machine

/-! ### Address, PEC and answers (R398, R403, R404) -/

/-- The port's write address byte (R398). -/
def State.svcAddr (s : State) : Byte := 0xB0#8 + (s.boot.straps.svcAdr.setWidth 8 <<< 1)
/-- PEC over the bytes of a transaction (R404). -/
def pec (bs : List Byte) : Byte := crc8 0#8 bs

/-- The port answers its address: its logic runs and it neither ignores the bus nor is passive (R401, R408, R424,
R425). A notice that is being sent ends with the Lulos's own STOP, the one that `untilStop` waits for (log 129). -/
def State.svcOpen (s : State) : Bool :=
  s.pw.inputOn && s.boot.regulated && s.svc.running && !s.svc.passive && !s.svc.ignoring &&
    (!s.svc.untilStop || s.svc.noteSending)

/-- Change the service port. -/
def State.modSvc (f : Svc → Svc) (s : State) : State := { s with svc := f s.svc }

/-- A notice on the bus was acknowledged to its end, which is a STOP. -/
def Svc.noteDone (v : Svc) : Svc :=
  if v.noteSending then { v with noteSending := false, noteRetries := 0, untilStop := false } else v

/-- One transaction acknowledged at the address (Table 15.8). -/
def State.svcTx (f : State → State) (s : State) : State :=
  if s.svcOpen then f (s.modSvc (fun v => { v.noteDone with transactions := satInc v.transactions, addressed := false })) else s

/-- A byte was not acknowledged, and nothing more happens (R401, R417). -/
def State.svcNak (s : State) : State := s.modSvc (fun v => { v with out := [], acked := false })
/-- A command, length or address is refused: CMD_ERR (R401 to R403, R407). -/
def State.svcRefuse (s : State) : State := s.svcNak.svcEvent 4
/-- The port ignores the rest of a transfer whose code it did not acknowledge: to its STOP, which has come where `stop`
(R401). -/
def State.svcIgnore (stop : Bool) (s : State) : State := s.modSvc (fun v => { v with untilStop := v.untilStop || !stop })
/-- A read: the data, PEC, then 0xFF, as far as the controller acknowledges (R403). -/
def State.svcSend (code : Byte) (n : Nat) (data : List Byte) (s : State) : State :=
  let check := pec ([s.svcAddr, code, s.svcAddr + 1] ++ data)
  s.modSvc (fun v => { v with out := (data ++ [check] ++ List.replicate n 0xFF#8).take n, acked := true })

/-- A read command that is available: it sends its data, unless the controller writes to it (R403). -/
def State.svcRead (code : Byte) (avail : Bool) (x : SvcRead) (data : List Byte) (s : State) : State :=
  s.svcTx (fun t => if !avail || x.wrote then t.svcRefuse else t.svcSend code x.n data)

/-! ### Writes (R402) -/

/-- PEC_REQUIRED in force (R381, R410). -/
def State.pecRequired (s : State) : Bool := s.boot.stage != .halted && s.boot.imgDevice.getLsbD 9

/-- What R402 makes of a write: its data, or which flag it sets and whether all its bytes were acknowledged. -/
inductive WriteRes where
  | ok (data : List Byte)
  | cmdErr (acked : Bool)
  | pecErr (acked : Bool)
deriving DecidableEq, Repr

/-- The table of R402, for a command of `len` data bytes; `must` says that PEC is required. The bytes are judged as they
come: the one after the data is the PEC byte, and a read address sent after the code is not acknowledged (R403). -/
def checkWrite (prefix_ : List Byte) (len : Nat) (must : Bool) (w : SvcWrite) : WriteRes :=
  let n := w.bytes.length
  let data := w.bytes.take len
  if len + 1 ≤ n && w.bytes.getD len 0 != pec (prefix_ ++ data) then .pecErr false
  else if len + 1 < n then .cmdErr false
  else if w.readAddr || !w.stop || n < len then .cmdErr (!w.readAddr)
  else if n = len && must then .pecErr true
  else .ok data

/-- Carry a write out, or discard it whole with its flag (R402). -/
def State.svcWrite (code : Byte) (len : Nat) (must : Bool) (w : SvcWrite) (f : List Byte → State → State) (s : State) :
    State :=
  let s := s.modSvc (fun v => { v with out := [] })
  match checkWrite [s.svcAddr, code] len (must || s.pecRequired) w with
  | .ok data => f data (s.modSvc (fun v => { v with acked := true }))
  | .cmdErr a => (s.modSvc (fun v => { v with acked := a })).svcEvent 4
  | .pecErr a => (s.modSvc (fun v => { v with acked := a })).svcEvent 5

/-! ### Which commands are available (R401, R405, R411, R417) -/

/-- The conditions of R411. -/
def State.windowAllowed (s : State) : Bool :=
  (s.boot.stage == .training || s.boot.stage == .released) && s.dev.st != .deep && s.boot.straps.install &&
    !s.installLock && !s.boot.imgWinClose
/-- The counter commands: class D, and not in Sleep (R405). -/
def State.countersOpen (s : State) : Bool := s.serving && s.dev.st == .awake

/-- A command code is available, but for BUSY (Table 15.2). -/
def State.codeClass (s : State) (code : Byte) : Bool :=
  match code.toNat with
  | 0x00 | 0x01 | 0x02 | 0x03 | 0x04 | 0x08 | 0x09 => true
  | 0x05 | 0x06 | 0x10 | 0x11 => s.serving
  | 0x40 | 0x83 | 0x85 => s.windowAllowed
  | 0x80 | 0x81 | 0x82 | 0x84 => s.svc.session
  | k => decide (0x20 ≤ k ∧ k ≤ 0x3F) && s.countersOpen
/-- A window command (class W). -/
def windowCode (code : Byte) : Bool := [0x40, 0x80, 0x81, 0x82, 0x83, 0x84, 0x85].contains code.toNat
/-- A flash or fuse operation is in progress (BUSY). -/
def State.svcBusy (s : State) : Bool := s.svc.busy != .none

/-- A window command: its code is refused with CMD_ERR, or without a flag while BUSY is 1 (R401, R417). -/
def State.svcWindow (code : Byte) (stop : Bool) (f : State → State) (s : State) : State :=
  s.svcTx (fun t => if !t.codeClass code then t.svcRefuse.svcIgnore stop
    else if t.svcBusy then t.svcNak.svcIgnore stop else f t)

/-! ### Start, stop, and when the logic runs (R401, R408, R409, R423) -/

/-- A transfer ends with no command (R423, R424): it counts where its address had been acknowledged (Table 15.8; log 88). -/
def Svc.abandon (answered : Bool) (v : Svc) : Svc :=
  { v with transactions := if answered then satInc v.transactions else v.transactions, addressed := false }

/-- SVC_START_STOP (R401, R423, R424): the transfer in progress is abandoned, and STOP ends the ignoring of the bus;
`addressed`: it was acknowledged at the address. -/
def execSvcStartStop (stop addressed : Bool) (s : State) : Out :=
  .next (
    let open_ := s.svcOpen
    s.modSvc (fun v => { (v.noteDone.abandon ((addressed || v.addressed) && open_)) with
      untilStop := v.noteDone.untilStop && !stop, ignoring := v.ignoring && !stop }))

/-- SVC_ADDRESS_MATCH (R401, R409): logic that runs acknowledges its address; logic that is stopped starts, in stretch mode
or in not-acknowledge mode. -/
def execSvcAddressMatch (s : State) : Out :=
  .next (if s.svcOpen then s.modSvc (fun v => { v with addressed := true })
    else if s.pw.inputOn && s.boot.regulated && !s.svc.running && !s.svc.passive && s.svc.starting == .none then
      s.modSvc (fun v => { v with starting := if s.stretches then .stretch else .nak })
    else s)

/-- SVC_LOGIC_START (R409): the logic that a match started runs, once sampling has ended; after a stretch it acknowledges
the address that it saw. -/
def execSvcLogicStart (s : State) : Out :=
  .next (if s.svc.starting != .none && s.boot.stage != .kiln && s.boot.stage != .sampling then
      s.modSvc (fun v => { v with running := true, starting := .none, addressed := v.starting == .stretch })
    else s)

/-- SVC_LOGIC_STOP (R408): in Deep. -/
def execSvcLogicStop (s : State) : Out :=
  .next (if s.dev.st == .deep && s.svc.running then s.modSvc (fun v => { v with running := false, addressed := false })
    else s)

/-- SVC_UNDEFINED_COMMAND (R401): a code not defined, or not available now. -/
def execSvcUndefinedCommand (code : Byte) (s : State) : Out :=
  .next (
    if s.codeClass code && !(windowCode code && s.svcBusy) then s
    else s.svcTx (fun t => if t.codeClass code then t.svcNak else t.svcRefuse))

/-! ### Identity and status (class I) -/

/-- IDENT (R405, R452). -/
def execIdent (x : SvcRead) (s : State) : Out :=
  .next (s.svcRead 0x00 true x (wordBytes s.idDevice ++ wordBytes s.idPresent))

/-- A byte of eight bits, most significant first. -/
def byteOf (bs : List Bool) : Byte := bs.foldl (fun v b => v <<< 1 ||| (if b then 1#8 else 0#8)) 0

/-- The bytes of STATUS (Table 15.3). -/
def State.statusBytes (s : State) : List Byte :=
  let b := s.boot
  let flash := match s.svc.busy with
    | .page _ _ | .erase _ => true
    | _ => false
  [(b.stage.code ++ (if b.kilnHalt then 1#1 else 0#1) ++ b.slipResult ++ (if b.heldReady then 1#1 else 0#1) ++
      (if b.defaults then 1#1 else 0#1) : BitVec 8),
   (s.stateCode ++ s.tr.link.code ++ s.tr.width ++ (if s.tr.half then 1#1 else 0#1) : BitVec 8),
   byteOf [s.pw.faultN, !s.pw.inRange, s.pw.crit != 0, s.pw.mgmtFailed, lockBlown (s.idFuse 3), s.svc.session, s.benchMode,
     flash],
   s.pw.vin]

/-- STATUS (R405). -/
def execStatus (x : SvcRead) (s : State) : Out := .next (s.svcRead 0x01 true x s.statusBytes)
/-- START (R405): START_STATUS. -/
def execStart (x : SvcRead) (s : State) : Out := .next (s.svcRead 0x02 true x (wordBytes s.startStatus))
/-- STRAPS (R405): STRAP_STATUS. -/
def execStraps (x : SvcRead) (s : State) : Out := .next (s.svcRead 0x03 true x (wordBytes s.strapStatus))
/-- SERIAL (R405): count 0x10, then fuse words 4 to 7 without their parity bits. -/
def execSerial (x : SvcRead) (s : State) : Out :=
  .next (s.svcRead 0x04 true x (0x10#8 :: (List.finRange 4).flatMap (fun k => wordBytes (s.idSerial k))))
/-- EVENTS (R405): SVC_EVENTS [15:0]. -/
def execEvents (x : SvcRead) (s : State) : Out := .next (s.svcRead 0x08 true x (cellBytes (s.svc.events.setWidth 16)))
/-- EVENTS_CLR (R405, R428). -/
def execEventsClr (w : SvcWrite) (s : State) : Out :=
  .next (s.svcTx (fun t => t.svcWrite 0x09 2 false w (fun d u => u.clearSvc (BitVec.ofNat 11 (leNat d)))))

/-! ### Class D (R405 to R407) -/

/-- A port's nibble of PORTS. -/
def State.portNibble (s : State) (p : PortId) : Nat :=
  if s.present p then
    let x := s.port p
    x.st.code.toNat + 4 * bitNat x.lineFault + 8 * bitNat x.frozen
  else 0
/-- PORTS (R405). -/
def execPorts (x : SvcRead) (s : State) : Out :=
  .next (s.svcRead 0x05 s.serving x ((List.finRange 8).map (fun k =>
    BitVec.ofNat 8 (s.portNibble ⟨2 * k.val, by omega⟩ + 16 * s.portNibble ⟨2 * k.val + 1, by omega⟩))))
/-- POWER (R405): POWER_STATUS. -/
def execPower (x : SvcRead) (s : State) : Out := .next (s.svcRead 0x06 s.serving x (wordBytes s.powerStatus))
/-- COUNTER*n* (R405, R436): all 48 bits. -/
def execCounter (i : Fin 32) (x : SvcRead) (s : State) : Out :=
  .next (s.svcRead (BitVec.ofNat 8 (0x20 + i.val)) s.countersOpen x
    ((List.range 6).map (fun k => s.cnt.vals[i].extractLsb' (8 * k) 8)))
/-- REG_ADDR (R405): a read address after data bytes is a repeated START in place of the STOP, which discards the write
(R402). -/
def execRegAddr (x : RegAddrXfer) (s : State) : Out :=
  .next (match x with
    | .read n => s.svcRead 0x10 s.serving { n := n } (cellBytes s.svc.regAddr)
    | .write w => s.svcTx (fun t => if !t.serving then t.svcRefuse.svcIgnore (w.stop && !w.readAddr)
        else t.svcWrite 0x10 2 false { w with stop := w.stop && !w.readAddr, readAddr := false }
          (fun d u => u.modSvc (fun v => { v with regAddr := BitVec.ofNat 16 (leNat d) }))))

/-- The register REG_DATA reads now, if R407 lets it. -/
def State.regDataReg (s : State) : Option Reg :=
  let a := s.svc.regAddr.toNat
  if a % 4 ≠ 0 ∨ 0x7000 ≤ a ∨ s.blockRefused false a then none
  else match regAt a with
    | some r => if r.acc == .wo then none else some r
    | none => none
/-- REG_DATA (R407): a non-secure read, and REG_ADDR advances by 4. -/
def execRegData (x : SvcRead) (s : State) : Out :=
  .next (match s.regDataReg with
    | none => s.svcTx State.svcRefuse
    | some r =>
      let go := s.svcOpen && s.serving && !x.wrote
      let t := s.svcRead 0x11 s.serving x (wordBytes (s.readReg false r))
      if go then t.modSvc (fun v => { v with regAddr := v.regAddr + 4 }) else t)

/-! ### The image window (R411 to R419) -/

/-- The end of a flash or fuse operation: BUSY clears, a session that is closing ends, and a waiting Deep begins (R414,
R418). -/
def State.opEnd (s : State) : State :=
  let s := s.modSvc (fun v => { v with busy := .none, session := v.session && !v.closing, closing := false })
  if s.dev.deepWait then s.enterDeep else s

/-- LOCK_INSTALL (R419): the data 0x4C, 0x4B start the blowing of the three copies. -/
def execLockInstall (w : SvcWrite) (s : State) : Out :=
  .next (s.svcWindow 0x40 w.stop (fun t => t.svcWrite 0x40 2 true w (fun d u =>
    if d == [0x4C#8, 0x4B#8] then u.modSvc (fun v => { v with busy := .lock }) else u.svcEvent 4)))

/-- LOCK_BLOW_END (R419): word 3 is read again; `copies` are the fuses that blew. -/
def execLockBlowEnd (copies : BitVec 3) (s : State) : Out :=
  .next (if s.svc.busy == .lock then
      let w := s.boot.fuseArray[3] ||| copies.setWidth 32
      let s := { s with boot := { s.boot with fuseArray := s.boot.fuseArray.set 3 w, fuseShadow := s.boot.fuseShadow.set 3 w }
                        svc := { s.svc with closing := true } }
      (s.svcEvent (if lockBlown w then 10 else 8)).opEnd
    else s)

/-- The count byte of IMG_DATA is refused: above 64, or across a 64-byte page (R413). -/
def countBad (ptr : BitVec 16) (n : Nat) : Bool := decide (64 < n) || decide (64 < ptr.toNat % 64 + n)

/-- IMG_DATA (R413): the pointer is set, and data start a page write. -/
def execImgData (w : SvcWrite) (s : State) : Out :=
  .next (s.svcWindow 0x80 w.stop (fun t =>
    let ptr := BitVec.ofNat 16 (leNat (w.bytes.take 2))
    let n := (w.bytes.getD 2 0).toNat
    if 2 < w.bytes.length && n != 0 && countBad ptr n then t.svcRefuse
    else t.svcWrite 0x80 (3 + n) (decide (0 < n)) w (fun d u =>
      if n = 0 then u.modSvc (fun v => { v with pointer := ptr })
      else u.modSvc (fun v => { v with busy := .page ptr (d.drop 3), pointer := ptr + BitVec.ofNat 16 n }))))

/-- IMG_PAGE_WRITE_END (R414): `readBack` is what the flash holds of the page now. -/
def execImgPageWriteEnd (readBack : List Byte) (s : State) : Out :=
  .next (match s.svc.busy with
    | .page a bs =>
      let got := bs.zipIdx.map (fun x => readBack.getD x.2 x.1)
      let s := { s with flash := flashPutAll s.flash a.toNat got }
      let s := if got == bs then (s.modSvc (fun v => { v with pages := satInc v.pages })).svcEvent 7 else s.svcEvent 9
      s.opEnd
    | _ => s)

/-- IMG_READ (R416): count 0x20 and 32 bytes from the pointer, which advances by the data bytes sent. -/
def execImgRead (x : SvcRead) (s : State) : Out :=
  .next (s.svcWindow 0x81 true (fun t =>
    if x.wrote then t.svcRefuse
    else
      let data := (List.range 32).map (fun k => flashRead t.flash ((t.svc.pointer.toNat + k) % 65536))
      (t.svcSend 0x81 x.n (0x20#8 :: data)).modSvc (fun v =>
        { v with pointer := v.pointer + BitVec.ofNat 16 (min 32 (x.n - 1)) })))

/-- IMG_ERASE (R415). -/
def execImgErase (w : SvcWrite) (s : State) : Out :=
  .next (s.svcWindow 0x82 w.stop (fun t => t.svcWrite 0x82 2 true w (fun d u =>
    u.modSvc (fun v => { v with busy := .erase (BitVec.ofNat 16 (leNat d)) }))))

/-- IMG_ERASE_END (R415): the 4 KiB sector reads 0xFF. -/
def execImgEraseEnd (s : State) : Out :=
  .next (match s.svc.busy with
    | .erase a =>
      let lo := a.toNat / 4096 * 4096
      (({ s with flash := flashErase s.flash lo (lo + 4096) }).svcEvent 7).opEnd
    | _ => s)

/-- IMG_FLASH_TIMEOUT (R414, R415): the operation never ended in its time. -/
def execImgFlashTimeout (s : State) : Out :=
  .next (match s.svc.busy with
    | .page _ _ | .erase _ => (s.cutWrite.svcEvent 8).opEnd
    | _ => s)

/-- IMG_OPEN (R411). -/
def execImgOpen (w : SvcWrite) (s : State) : Out :=
  .next (s.svcWindow 0x83 w.stop (fun t => t.svcWrite 0x83 0 false w (fun _ u => u.modSvc (fun v => { v with session := true }))))
/-- IMG_CLOSE (R418). -/
def execImgClose (w : SvcWrite) (s : State) : Out :=
  .next (s.svcWindow 0x84 w.stop (fun t => t.svcWrite 0x84 0 false w (fun _ u => u.modSvc (fun v => { v with session := false }))))
/-- IMG_STATE (R405). -/
def execImgState (x : SvcRead) (s : State) : Out :=
  .next (s.svcWindow 0x85 true (fun t =>
    if x.wrote then t.svcRefuse
    else
      t.svcSend 0x85 x.n ([byteOf [t.svc.events.getLsbD 9, t.svc.events.getLsbD 8, t.svcBusy, t.svc.session], 0#8] ++
        cellBytes t.svc.pointer)))

/-! ### Notices (R420 to R422) -/

/-- The bytes of a notice built now (Table 15.4). -/
def State.noticeBytes (s : State) : List Byte :=
  let host : BitVec 7 := if s.boot.stage == .halted then 0x08#7 else bits s.boot.imgDevice 0 7
  let bs := (host.setWidth 8 <<< 1) :: s.svcAddr :: cellBytes (s.svc.events.setWidth 16)
  if s.pecRequired then bs ++ [pec bs] else bs

/-- Notices may start: Slip has ended and the logic runs (R420). -/
def State.mayStartNotice (s : State) : Bool :=
  s.pw.inputOn && s.svc.running && !s.svc.passive &&
    (s.boot.stage == .training || s.boot.stage == .released || s.boot.stage == .halted)

/-- SVC_NOTICE_START (R420). -/
def execSvcNoticeStart (s : State) : Out :=
  .next (if s.mayStartNotice && s.svc.noteDue && !s.svc.noteWait then
      s.modSvc (fun v => { v.noteDone with noteDue := false, noteSending := true, ignoring := false, note := s.noticeBytes,
                                           out := s.noticeBytes })
    else s)

/-- SVC_ARBITRATION_LOST (R421): the notice is due again. -/
def execSvcArbitrationLost (s : State) : Out :=
  .next (if s.svc.noteSending then s.modSvc (fun v => { v with noteSending := false, noteDue := true }) else s)

/-- SVC_NOTICE_NAK (R422): the Lulos sends STOP, and a retry is scheduled, or after three the notice is dropped with
NOTE_FAIL. -/
def execSvcNoticeNak (s : State) : Out :=
  .next (if s.svc.noteSending then
      if 3 ≤ s.svc.noteRetries then (s.modSvc (fun v => { v with noteSending := false, noteRetries := 0, untilStop := false })).svcEvent 6
      else s.modSvc (fun v => { v with noteSending := false, noteWait := true, untilStop := false })
    else s)

/-- SVC_NOTICE_RETRY (R422). -/
def execSvcNoticeRetry (s : State) : Out :=
  .next (if s.mayStartNotice && s.svc.noteWait then
      s.modSvc (fun v => { v with noteWait := false, noteSending := true, ignoring := false,
                                  noteRetries := v.noteRetries + 1, out := v.note })
    else s)

/-! ### Bus recovery (R424, R425) -/

/-- SVC_BUS_TIMEOUT (R424): the transfer is abandoned and the bus ignored; a notice in progress is due again. -/
def execSvcBusTimeout (s : State) : Out :=
  .next (if s.pw.inputOn && s.boot.regulated && s.svc.running && !s.svc.passive then
      let open_ := s.svcOpen
      (s.modSvc (fun v => { (v.abandon (v.addressed && open_)) with
        ignoring := true, noteSending := false, noteDue := v.noteDue || v.noteSending })).svcEvent 2
    else s)

/-- SVC_PASSIVE (R425): after a timeout a line is still low. -/
def execSvcPassive (s : State) : Out :=
  .next (if s.svc.ignoring && !s.svc.passive then (s.modSvc (fun v => { v with passive := true })).svcEvent 3 else s)

/-- SVC_PASSIVE_END (R425, R424): both lines have been high for 50 µs, so the port is no longer passive and no longer
ignores the bus for a timeout; what R401 ignores ends at STOP alone. -/
def execSvcPassiveEnd (s : State) : Out :=
  .next (if s.svc.passive || s.svc.ignoring then s.modSvc (fun v => { v with passive := false, ignoring := false }) else s)

end Sys2Proof.Machine
end

