-- ==== Sys2Proof/Machine/Lanes.lean ====
section
/-! DEFINITION. What the Lulos puts on its trunk lanes: 8b/10b symbols, the ordered sets of Table 8.3 with the flags of
R345 and R356, the framing of a block (08_trunk_link.md R231) and the link blocks (R241, R233). Everything here is derived
from the state; when a symbol is sent is timing (log 9). -/

namespace Sys2Proof

/-- The one-way delay of R227 in units of 0.25 ns: half of the round trip less the host's turnaround, 2 ns being 8 units; an
odd unit rounds down (log 122, DESIGN CHOICE). -/
def Trained.delay (t : Trained) : BitVec 16 := BitVec.ofNat 16 ((t.roundTrip.toNat - 8 * t.turnaround.toNat) / 2)
/-- The logical lane the host numbers a physical pair with, where it does (R222). -/
def Trained.laneOf (t : Trained) (k : Fin 4) : Option Nat :=
  (List.range 4).find? (fun l => (t.laneMap.extractLsb' (2 * l) 2).toNat == k.val)

end Sys2Proof

namespace Sys2Proof.Machine

/-! ### Symbols -/

/-- A symbol: D*x*.*y* or K*x*.*y*, as the byte 32y + x. -/
inductive Sym where
  | d (b : Byte)
  | k (b : Byte)
deriving DecidableEq, Repr

/-- D*x*.*y*. -/
def symD (x y : Nat) : Sym := .d (BitVec.ofNat 8 (32 * y + x))
/-- K*x*.*y*. -/
def symK (x y : Nat) : Sym := .k (BitVec.ofNat 8 (32 * y + x))

/-! ### Ordered sets (R224, Table 8.3) -/

/-- The flags of a training set (Table 8.3): bit 0 full rate offered, bit 1 FRESH, bit 2 half-rate attempt, and from the
Lulos bit 3 HALTED (R356). -/
structure TsFlags where
  fullRate : Bool
  fresh : Bool
  halfAttempt : Bool
  halted : Bool := false
deriving DecidableEq, Repr

/-- The flags as a byte. -/
def TsFlags.byte (f : TsFlags) : Byte :=
  BitVec.ofNat 8 (f.fullRate.toNat + 2 * f.fresh.toNat + 4 * f.halfAttempt.toNat + 8 * f.halted.toNat)
/-- The flags a byte carries. -/
def tsFlags (b : Byte) : TsFlags :=
  { fullRate := b.getLsbD 0, fresh := b.getLsbD 1, halfAttempt := b.getLsbD 2, halted := b.getLsbD 3 }

/-- The ordered sets of Table 8.3. `host` turnaround is in 2 ns units. -/
inductive OrderedSet where
  | idle
  | ts1 (lane : Byte) (flags : TsFlags)
  | ts2 (lane : Byte) (flags : TsFlags) (margin turnaround : Byte)
  | mark (lane count : Byte)
  | probe (number : Byte)
deriving DecidableEq, Repr

/-- The symbols of a set (Table 8.3). -/
def OrderedSet.symbols : OrderedSet → List Sym
  | .idle => [symK 28 5, symD 16 2]
  | .ts1 l f => [symK 28 5, symK 28 2, .d l, .d f.byte] ++ List.replicate 12 (symD 10 2)
  | .ts2 l f m t => [symK 28 5, symK 28 1, .d l, .d f.byte, .d m, .d t] ++ List.replicate 10 (symD 10 2)
  | .mark l c => [symK 28 5, symK 28 0, .d l, .d c]
  | .probe n => [symK 28 5, symK 28 4, .d n, symD 0 0]

/-- The flags the Lulos sends: full rate unless TRK_HALF or HALF_ONLY forbids it or this is the half-rate attempt, FRESH
where the training to come restarts the numbers (R221, R239, R345), and HALTED (R356). -/
def State.sentFlags (s : State) (halfAttempt : Bool) : TsFlags :=
  let halted := s.boot.stage == .halted
  { fullRate := !s.halfForced && !halted && !(s.dev.st == .deep && s.tr.half) && !halfAttempt, fresh := s.tr.freshDue,
    halfAttempt := halfAttempt, halted := halted }

/-- What fills the lanes between blocks: IDLE, or K28.5, D21.5 once a halted device's link is up (R356). -/
def State.fill (s : State) : List Sym :=
  if s.boot.stage == .halted then [symK 28 5, symD 21 5] else OrderedSet.idle.symbols

/-- The pairs still locked in a retrain (R226): the survivors, and where it restores a lane those that have tested well. -/
def Trunk.locked (t : Trunk) : BitVec 4 := if t.restoring then t.alive ||| t.laneLocked else t.alive
/-- The physical pairs in their logical order, those that were never trained last (R226; log 22). -/
def Trunk.fullOrder (t : Trunk) : List (Fin 4) := t.order ++ (List.finRange 4).filter (fun k => !t.order.contains k)
/-- The logical lane of a pair: the host's number in a full training, its place among the pairs still locked else (R222,
R226). The Lulos's TS1 carries the host's number from step 1 on, where it is known (log 132, DESIGN CHOICE). -/
def State.laneNumber (s : State) (t : Trained) (k : Fin 4) : Option Nat :=
  if s.tr.link == .training then t.laneOf k
  else (s.tr.fullOrder.filter (fun j => s.tr.locked.getLsbD j.val)).findIdx? (fun j => j == k)

/-- The set a pair carries outside service: TS1 in training steps 1 to 4, on a pair that step 4 leaves out (in steps 5 and 6
too: log 134, DESIGN CHOICE) and on a dropped lane under test, TS2 in steps 5 and 6 and in a retrain on every lane still locked, else what fills the lanes; nothing on
a pair that is powered down (Tables 8.2 to 8.4, R229). `t` is what this training or retrain finds, its margins among it;
`step56` tells steps 5 and 6 from those before. The spec does not state `other`, the lane symbol of a pair with no
number, and `turn`, the turnaround symbol of the Lulos. -/
def State.laneSets (s : State) (k : Fin 4) (t : Trained) (step56 halfAttempt : Bool) (other turn : Byte) : List Sym :=
  let f := s.sentFlags halfAttempt
  let lane : Byte := match s.laneNumber t k with
    | some n => BitVec.ofNat 8 n
    | none => other
  let ts1 := (OrderedSet.ts1 lane f).symbols
  let ts2 := (OrderedSet.ts2 lane f (bits t.lanes[k] 8 8) turn).symbols
  let asleep := s.dev.st == .sleep
  match s.tr.link with
  | .down => []
  | .training => if step56 && t.pairUp.getLsbD k.val then ts2 else ts1
  | .retrain => if s.tr.locked.getLsbD k.val then ts2 else if asleep then [] else ts1
  | .up => if s.tr.activeMask.getLsbD k.val then s.fill
    else if s.tr.alive.getLsbD k.val || asleep then [] else ts1

/-! ### Framing (R231) -/

/-- A block as symbols in the order of the byte stream: SBK, its bytes, EBK, and PAD to the end of the column. -/
def frameSyms (w : Nat) (bytes : List Byte) : List Sym :=
  let body := symK 27 7 :: bytes.map Sym.d ++ [symK 29 7]
  body ++ List.replicate ((w - body.length % w) % w) (symK 23 7)
/-- An aborted block: what was sent of it, then K30.7 (R231). -/
def abortSyms (bytes : List Byte) : List Sym := symK 27 7 :: bytes.map Sym.d ++ [symK 30 7]
/-- What logical lane `l` of `w` carries of a stream: every `w`-th symbol, so byte *i* of a block is on lane (*i* + 1) mod
*w*. -/
def laneSyms (w l : Nat) (xs : List Sym) : List Sym :=
  (xs.zipIdx.filter (fun x => x.2 % w == l)).map (fun x => x.1)

/-! ### Link blocks (R241, Table 8.8) -/

/-- WORD0 of the link block last sent; none before the first. -/
def LinkBlk.word0 : LinkBlk → Option Word
  | .none => Option.none
  | .ack n => some (fld 28 8#4 ||| fld 0 n)
  | .nak n => some (fld 28 8#4 ||| fld 24 1#4 ||| fld 0 n)

/-- The six bytes of a link block: WORD0 and the CRC-16 over it (R233, R241). -/
def LinkBlk.bytes (b : LinkBlk) : List Byte :=
  match b.word0 with
  | Option.none => []
  | some w => wordBytes w ++ cellBytes (crc16 (wordBytes w))

/-- What a link block's WORD0 says: an acknowledgement, or nothing where its subtype is reserved (R233). -/
def linkBlkOf (w : Word) : LinkBlk :=
  if blockClass w != some .link then .none
  else match (bits w 24 4).toNat with
    | 0 => .ack (bits w 0 12)
    | 1 => .nak (bits w 0 12)
    | _ => .none

end Sys2Proof.Machine
end

