-- ==== Sys2Proof/Machine/Trunk.lean ====
section
/-! DEFINITION. The trunk commands (08_trunk_link.md R221 to R248; 09_trunk_transactions.md R265 to R279; 11 R310; 12
R342 to R345). A command whose premise does not hold leaves the state unchanged (log 4). -/

namespace Sys2Proof.Machine

/-! ### Training and lanes -/

/-- The device is on its way out of Deep and nothing is left to load again (R345, R370). -/
def State.deepReady (s : State) : Bool :=
  s.dev.st == .deep && s.dev.exiting && !s.boot.rerunKiln && !s.boot.rerunSlip

/-- TRAINING_START (R223, R297): a full training begins at start-up, after the loss of every lane, in the halt and on
exit from Deep. -/
def execTrainingStart (s : State) : Out :=
  .next (if s.pw.inputOn && s.tr.link == .down &&
      (s.boot.stage == .training || s.boot.stage == .halted || (s.released && (s.dev.st != .deep || s.deepReady))) then
      { s with tr := { s.tr with link := .training },
               ties := s.ties.map (fun g => { g with disturbed := g.disturbed || g.opened }) }
    else s)

/-- The physical pairs in the order of the logical lanes the host numbered, those that trained (R222, R223). -/
def laneOrder (t : Trained) : List (Fin 4) :=
  (([0, 1, 2, 3].map (fun l => (⟨(t.laneMap.extractLsb' (2 * l) 2).toNat, (t.laneMap.extractLsb' (2 * l) 2).isLt⟩ : Fin 4))).filter
    (fun k => t.pairUp.getLsbD k.val)).eraseDups

/-- The delay a training or retrain measures (R227): a move of more than 4 ns, 16 units, sets DELAY_CHANGE. The first value,
before which none is valid, is no move (log 122, DESIGN CHOICE). -/
def State.measure (t : Trained) (s : State) : State :=
  let moved := s.tr.delayValid && decide (16 < (s.tr.delay.toNat - t.delay.toNat) + (t.delay.toNat - s.tr.delay.toNat))
  let s := s.modTr (fun r => { r with delay := t.delay, delayValid := true })
  if moved then s.trkEvent 9 else s

/-- TRK_LANE*k* with `n` more code errors (Table 8.20). -/
def addErrs (w : Word) (n : BitVec 8) : Word := (w &&& 0xFFFFFF00#32) ||| fld 0 (satAdd (bits w 0 8) n.toNat)
/-- Count code errors of a physical pair. -/
def State.codeErrs (k : Fin 4) (n : BitVec 8) (s : State) : State :=
  s.modTr (fun t => { t with lanes := t.lanes.set k (addErrs t.lanes[k] n) })

/-- The lane settings a full training adapts, the counts of code errors going on (Table 8.2, Table 8.20). -/
def State.adaptLanes (t : Trained) (s : State) : State :=
  s.modTr (fun r => { r with lanes := Vector.ofFn (fun k =>
    addErrs ((t.lanes[k] &&& 0xFFFFFF00#32) ||| fld 0 (bits r.lanes[k] 0 8)) (bits t.lanes[k] 0 8)) })
/-- What a retrain reports of the lanes it runs on: their margin and their code errors, every coefficient kept as the
adaptation left it (`State.adapt`), and those of the pairs powered down with them (R226, R229). -/
def State.keepLanes (on : BitVec 4) (t : Trained) (s : State) : State :=
  s.modTr (fun r => { r with lanes := Vector.ofFn (fun k =>
    if on.getLsbD k.val then
      addErrs ((r.lanes[k] &&& 0xFFFF00FF#32) ||| (t.lanes[k] &&& 0x0000FF00#32)) (bits t.lanes[k] 0 8)
    else r.lanes[k]) })

/-- The counts of code errors take their Release value (R446, Table 8.20). -/
def State.clearErrs (s : State) : State :=
  s.modTr (fun r => { r with lanes := r.lanes.map (fun w => w &&& 0xFFFFFF00#32) })

/-- The lanes of a full training (R221 to R223). -/
def State.trainLanes (t : Trained) (half : Bool) (s : State) : State :=
  ((s.modTr (fun r => { r with
    link := .up, half := half, holdover := false, order := laneOrder t, alive := t.pairUp, trained := t.pairUp,
    pairInv := t.pairInv, restoring := false, markMissed := 0, laneLocked := 0, freshDue := false, lostAll := false })).adaptLanes
    t).measure t

/-- Set the lanes in use. -/
def State.setWidth (s : State) : State :=
  s.modTr (fun r => { r with width := s.widthNow (s.dev.st == .sleep || (s.dev.toSleep && !s.dev.changeDue)) })

/-- Items held in Sleep enter their queues in order, the GAPs of FRESH trainings at their places (R343, R278). -/
def State.releaseHeld (s : State) : State :=
  let hs := s.host.sleepHeld
  let s := { s with host := { s.host with sleepHeld := [] } }
  let s := forEach hs (fun h t => (t.writeFresh (fun _ => true) h.order).placeData h.blk h.order h.cells h.gone) s
  let s := s.writeFresh (fun _ => true) (s.host.accepted + 1)
  { s with host := { s.host with sleepWrites := [] } }

/-- A FRESH training restarts numbers and replay (R239, R248, R278, R318); halted, only the numbers are there. -/
def State.restartFresh (s : State) : State :=
  if s.released then s.freshRestart
  else s.modTr (fun t => { t with stored := [], txNext := 0, rxExpect := 0, sinceAck := 0, nakFor := none, waitBlk := none,
                                  ctlQ := [], stalled := false, passing := false })

/-- LINK_UP (R221, R223, R239, R245, R356, R369; Table 12.8 step 6): every trained lane is active where no width is
commanded yet, at release, after Deep and halted. `flags` are those of the host's last training sets, and `halfAttempt`
says that a full-rate attempt had not reached the eye target. -/
def execLinkUp (t : Trained) (halfAttempt : Bool) (flags : Byte) (ms : BitVec 8) (s : State) : Out :=
  .next (if s.pw.inputOn && s.tr.link == .training && t.pairUp != 0 then
      let start := s.boot.stage == .training
      let halted := s.boot.stage == .halted
      let deep := s.dev.st == .deep
      let host := tsFlags flags
      let fresh := !start && (host.fresh || s.tr.freshDue)
      let lost := s.tr.lostAll
      let half := s.halfForced || halfAttempt || !host.fullRate || host.halfAttempt || halted || (deep && s.tr.half)
      let s := s.trainLanes t half
      let s := if start then s.release ms else s
      let s := if start || deep then s.clearErrs else s
      let s := if deep then
          { s with dev := { s.dev with st := .awake, exiting := false, cmdWidth := BitVec.ofNat 3 (popcount s.tr.trained) },
                   svc := s.svc.run }
        else if halted then { s with dev := { s.dev with cmdWidth := BitVec.ofNat 3 (popcount s.tr.trained) } }
        else s
      let s := s.setWidth
      let s := if fresh then s.restartFresh else s
      let s := if lost then s.trkEvent 8 else s
      let s := if deep then s.powerEvent 6 else s
      s.rewind.settle.pump
    else s)

/-- The lanes after a drop (R226): with the last one gone the trunk waits for a full training, and an open tie round is
disturbed already (R297; log 165, DESIGN CHOICE). Every pair left counts, one powered down outside the width among them,
and so keeps the width (log 121, DESIGN CHOICE). -/
def State.laneDrop (k : Fin 4) (s : State) : State :=
  let s := (s.modTr (fun t => { t with alive := t.alive &&& ~~~(oneBit 4 k.val), laneLocked := t.laneLocked &&& ~~~(oneBit 4 k.val) })).trkEvent
    0
  if s.tr.alive = 0 then
    { s with tr := { s.tr with link := .down, width := 0, lostAll := true, restoring := false },
             ties := s.ties.map (fun g => { g with disturbed := g.disturbed || g.opened }) }
  else
    let s := s.beginRetrain
    s.modTr (fun t => { t with width := BitVec.ofNat 3 (min t.width.toNat (popcount t.alive)) })

/-- A lane is in service: the link is up or in a retrain and the pair is trained. -/
def State.laneLive (s : State) (k : Fin 4) : Bool :=
  s.trunkOn && (s.tr.link == .up || s.tr.link == .retrain) && s.tr.alive.getLsbD k.val

/-- LANE_DROP (R226): the lane's code errors are counted, and it is dropped. -/
def execLaneDrop (l : LaneErrs) (s : State) : Out :=
  .next (if s.laneLive l.pair then (s.codeErrs l.pair l.errs).laneDrop l.pair else s)

/-- MARK_MISSING (R225, R226): the second in succession on a lane drops it (log 33). -/
def execMarkMissing (m : MissedMark) (s : State) : Out :=
  .next (if s.laneLive m.pair then
      if s.tr.markMissed.getLsbD m.pair.val && m.next then s.laneDrop m.pair
      else s.modTr (fun t => { t with markMissed := t.markMissed ||| oneBit 4 m.pair.val })
    else s)

/-- The pairs a retrain ends with (R226): those still locked that it finds good. -/
def State.retrainPairs (t : Trained) (s : State) : BitVec 4 := t.pairUp &&& s.tr.locked

/-- The lanes of a retrain (R226): the survivors keep their order, a restored lane joins at the end (log 22). WIDTH_UP
tells of a pair that had been dropped, not of the lanes that Sleep had powered down (log 163, DESIGN CHOICE), and a live
pair that the agreed set leaves out goes without LANE_DROP (log 164, DESIGN CHOICE). -/
def State.retrainLanes (t : Trained) (s : State) : State :=
  let ps := s.retrainPairs t
  let back := (ps &&& ~~~s.tr.alive) != 0
  let s := s.modTr (fun r => { r with
    link := .up, alive := ps, trained := r.trained ||| ps,
    order := r.order ++ (List.finRange 4).filter (fun k => ps.getLsbD k.val && !r.order.contains k),
    pairInv := (r.pairInv &&& r.trained) ||| (t.pairInv &&& ~~~r.trained),
    restoring := false, markMissed := 0, laneLocked := r.laneLocked &&& ~~~ps })
  let s := (s.measure t).setWidth
  let s := s.keepLanes s.tr.activeMask t
  if back then s.trkEvent 1 else s

/-- RETRAIN_END (R226, R227, R245, R341). -/
def execRetrainEnd (t : Trained) (s : State) : Out :=
  .next (if s.trunkOn && s.tr.link == .retrain && s.retrainPairs t != 0 then
      (s.retrainLanes t).rewind.settle.pump
    else s)

/-- LANE_TEST (R226): a dropped lane is tested with TS1; in Sleep it is powered down (R229). -/
def execLaneTest (k : Fin 4) (r : LaneResult) (s : State) : Out :=
  .next (if s.trunkOn && s.dev.st != .sleep && s.tr.link == .up && !s.tr.alive.getLsbD k.val then
      s.modTr (fun t => { t with
        laneLocked := if r.locked then t.laneLocked ||| oneBit 4 k.val else t.laneLocked &&& ~~~(oneBit 4 k.val)
        lanes := t.lanes.set k (addErrs ((r.lane &&& 0xFFFFFF00#32) ||| fld 0 (bits t.lanes[k] 0 8)) (bits r.lane 0 8)) })
    else s)

/-- LANE_RESTORE (R226): a dropped lane that tests well is restored by a retrain once the host agrees. -/
def execLaneRestore (k : Fin 4) (hostAgrees : Bool) (s : State) : Out :=
  .next (if s.trunkOn && s.tr.link == .up && !s.tr.alive.getLsbD k.val && s.tr.laneLocked.getLsbD k.val && hostAgrees then
      s.beginRetrain.modTr (fun t => { t with restoring := true })
    else s)

/-- HOLDOVER (R31, R226): no lane has trained for 1 ms. -/
def execHoldover (s : State) : Out :=
  .next (if s.serving && (s.tr.link == .down || s.tr.link == .training) && !s.tr.holdover then
      (s.modTr (fun t => { t with holdover := true })).trkEvent 2
    else s)

/-! ### Host blocks -/

/-- A received block fails its check (R238). -/
def State.discardBlk (s : State) : State :=
  (s.modTr (fun t => { t with discards := satInc t.discards })).trkEvent 5

/-- A data block would overfill a region's placement buffer in Sleep (R343). -/
def State.overfills (s : State) (b : DataBlk) (cells : List (PortId × BitVec 24)) : Bool :=
  let load (cs : List (PortId × BitVec 24)) (r : RegionId) : Nat :=
    ((cs.filter (fun c => regionOf c.1 == r)).map (fun c => c.2.toNat)).sum
  let held (r : RegionId) : Nat :=
    ((s.host.sleepHeld.filter (fun h => (blkDecode h.blk).isSome)).map (fun h => load h.cells r)).sum
  (blkDecode b).isSome && (List.finRange 4).any (fun r => decide (Config.placementCells < held r + load cells r))

/-- HOST_DATA_BLOCK (R240, R265 to R268, R272, R343). -/
def execHostDataBlock (b : DataBlk) (s : State) : Out :=
  .next (if !s.blocksFlow then s
    else if !s.released then s.acceptBlk
    else
      let cells := s.blkCells b
      let bad := (blkDecode b).isNone
      let asleep := s.dev.st == .sleep
      if asleep && s.overfills b cells then s.discardBlk
      else
        let s := s.acceptBlk
        let s := if bad then { s with freeCtr := s.freeCtr + 16 } else s
        let s := forEach cells (fun c t => t.carry c.1 c.2) s
        let s := if bad then s.hostError 3 else s
        if asleep then { s with host := { s.host with sleepHeld := s.host.sleepHeld ++ [⟨b, cells, s.host.accepted, []⟩] } }
        else s.placeData b s.host.accepted cells [])

/-- BLOCK_DISCARD (R238, R240): a failed check is counted; a duplicate is dropped in silence; any other number out of
sequence is answered by a NAK, once for each expected number in each 10 µs. -/
def execBlockDiscard (why : DiscardWhy) (s : State) : Out :=
  .next (if !s.blocksFlow then s
    else match why with
      | .outOfSeq seq tenUs =>
        let d := (s.tr.rxExpect - seq).toNat
        if d ≤ 2047 then s
        else if s.tr.nakFor == some s.tr.rxExpect && !tenUs then s
        else (s.modTr (fun t => { t with linkOut := .nak t.rxExpect, nakFor := some t.rxExpect, sinceAck := 0 })).count
          0x073
      | .reservedType w => if (blockClass w).isNone then s.discardBlk else s
      | .aborted (some k) => (s.codeErrs k 1).discardBlk
      | _ => s.discardBlk)

/-- ACK_RECEIVED (R243, R246). -/
def execAckReceived (ackseq : BitVec 12) (s : State) : Out :=
  .next (if s.blocksFlow then (s.ackUpTo ackseq).1.pump else s)

/-- NAK_RECEIVED (R243, R245): it acknowledges what came before, and every stored block is sent again. -/
def execNakReceived (expseq : BitVec 12) (s : State) : Out :=
  .next (if s.blocksFlow then
      let r := (s.trkEvent 6).ackUpTo (expseq - 1)
      if r.2 then r.1.rewind.pump else r.1
    else s)

/-- LINK_BLOCK_RESERVED (R233): it changes nothing. -/
def execLinkBlockReserved (_subtype : BitVec 4) (s : State) : Out := .next s

/-- ACK_TIMER (R242): the last ACK is sent, again where nothing was accepted since. -/
def execAckTimer (s : State) : Out :=
  .next (if s.blocksFlow then
      (s.modTr (fun t => { t with linkOut := .ack (t.rxExpect - 1), sinceAck := 0 })).count 0x073
    else s)

/-- REWIND_TIMEOUT (R245). -/
def execRewindTimeout (s : State) : Out :=
  .next (if s.blocksFlow && !s.tr.stored.isEmpty then s.rewind else s)

/-- STALL_LIMIT_EXPIRY (R246, R249, R250): passing begins and the waiting block is placed by stubbing, in a retrain too.
While 2,047 blocks are stored the Lulos only waits for an acknowledgement, and no limit runs (log 126, DEDUCED). -/
def execStallLimitExpiry (s : State) : Out :=
  .next (if s.serving && s.tr.stalled && !s.tr.passing && decide (s.tr.stored.length < Config.maxStored) &&
        bits s.boot.trkCfg 16 16 != 0 then
      let s := s.modTr (fun t => { t with passing := true })
      (match s.tr.waitBlk with
        | some b => s.place b
        | none => s).pump
    else s)

/-! ### Device-to-host blocks -/

/-- Build a single-port block of port `p` where `want` allows it; a block kept through a FRESH training comes first
(R237, R248). -/
def State.buildSingle (p : PortId) (want : Plan → Bool) (s : State) : State :=
  match s.tr.heldFor p with
  | some (b, first) => if first then s.heldStep p b else s
  | none => match s.planBlk p with
    | some pl => if want pl then s.buildPlan p pl else s
    | none => s

/-- The port is one of an interleaved mask, so its bulk items leave in single blocks only at BLOCK_WAIT (R276). -/
def State.masked (s : State) (p : PortId) : Bool := s.ilvPorts.contains p

/-- BLOCK_WAIT_EXPIRY (R237, R276): the oldest readable item has waited; a masked port's items leave in an interleaved
block where one can be built. -/
def execBlockWaitExpiry (p : PortId) (s : State) : Out :=
  .next (if s.mayBuild && s.present p then
      match (if s.masked p then s.planIlv else none) with
      | some b => s.buildIlv b
      | none => s.buildSingle p (fun _ => true)
    else s)

/-- DATA_BLOCK_BUILD (R237, R248, R276): the block is full, its first item is urgent, or it owes the GAP of a FRESH
training, which starts a block at once (log 137, DESIGN CHOICE). -/
def execDataBlockBuild (sel : BuildSel) (s : State) : Out :=
  .next (if s.mayBuild then
      match sel with
      | .interleaved => match s.planIlv with
        | some b => s.buildIlv b
        | none => s
      | .single p =>
        if s.present p then
          let owes := (s.port p).freshGap != 0
          s.buildSingle p (fun pl => owes || pl.urgent || (pl.full && !s.masked p))
        else s
    else s)

/-- A control block of the Lulos's own can be built now: the link is up, nothing waits, and 8 KiB are not reached
(R244). -/
def State.ctlReady (s : State) (size : Nat) : Bool :=
  s.linkUp && s.dev.st == .awake && s.tr.waitBlk.isNone && s.tr.ctlQ.isEmpty &&
    decide (s.tr.ctlUsed + size ≤ Config.maxCtlBytes)

/-- TX_CREDIT_SEND (R272, R273): every present port whose LIMIT has risen. -/
def execTxCreditSend (s : State) : Out :=
  .next (
    let ps := s.presentPorts.filter (fun p => (s.port p).limitRisen)
    let b := creditBlk (ps.map (fun p => (p, (s.port p).txLimit)))
    if !ps.isEmpty && s.ctlReady b.size then
      (forEach ps (fun p t => t.modPort p (fun x => { x with limitSent := x.txLimit, limitGiven := true })) s).sendCtl b
    else s)

/-- A notice of this source waits: it may concern an item of a block that is built and not yet numbered (R57, R248). -/
def State.noticeWaits (s : State) (i : SrcId) : Bool :=
  match srcPort i with
  | some p => decide (i.val % 8 ≤ 3) && (s.tr.heldFor p).isSome
  | none => false

/-- NOTICE_BUILD (R279, R310): the first source due to the processor is announced. -/
def execNoticeBuild (proc : BitVec 2) (s : State) : Out :=
  .next (match s.att.due.find? (fun d => d.2 == proc) with
    | none => s
    | some (i, _) =>
      let q := s.att.srcs[i]
      let b := noticeBlk proc q.count i
      if s.ctlReady b.size && !s.noticeWaits i then
        (({ s with att := s.att.put i { q with noticed := q.noticed ||| oneBit 4 proc.toNat } }).count 0x0A0).sendCtl b
      else s)

end Sys2Proof.Machine
end

