-- ==== Sys2Proof/Machine/States.lean ====
section
/-! DEFINITION. The commands of states and domains (12_power_and_states.md R334 to R346; 03 R73; 13 R369, R370). A command
whose premise does not hold leaves the state unchanged (log 4). -/

namespace Sys2Proof.Machine

/-- SEQUENCER_START (R16): with fewer than two power transitions, the earliest eligible queued command starts. -/
def execSequencerStart (r : RegionId) (s : State) : Out :=
  .next (if s.serving && decide (s.powerCount r < 2) then
      match s.nextQueued r with
      | some (p, target) => s.beginTransition p target true .idle
      | none => s
    else s)

/-- PORT_TRANSITION_END (R334): the target is reached, once a line check that the transition runs has ended; `sa` and `sb`
are what the Run-entry sense reads (R74). -/
def execPortTransitionEnd (p : PortId) (sa sb : PairSense) (s : State) : Out :=
  .next (match (s.port p).trans with
    | some t =>
      if s.serving && s.present p && t.byCmd && (t.checked || t.target == .off) then s.endTransition p t sa sb else s
    | none => s)

/-- A pair that senses nothing: the transition of a release ends in Ready and uses none. -/
def quietPair : PairSense :=
  { foreign := false, ground := false, drive := .undriven, loopHalfOhm := 0, biasNeg := false, biasWeak := false }

/-- A port's step 6 of Table 3.3 is repeated, and runs under load (R73, R77). -/
def State.calibrate (p : PortId) (s : State) : State :=
  s.modPort p (fun x => { x with line := { x.line with loaded := x.line.loaded || x.trainsLoaded } })

/-- RELEASE_LOAD_CALIBRATION (R73): every line check of the release has ended, the calibration with every port driving ends,
and every present port reaches Ready. -/
def execReleaseLoadCalibration (s : State) : Out :=
  .next (if s.loadRound then
      forEach s.releasingPorts (fun p t => match (t.port p).trans with
        | some tr => (t.calibrate p).endTransition p tr quietPair quietPair
        | none => t) s
    else s)

/-- Insert a deferred command in the order of acceptance. -/
def insertDeferred (x : PortId × QueuedCmd) : List (PortId × QueuedCmd) → List (PortId × QueuedCmd)
  | [] => [x]
  | y :: ys => if x.2.order < y.2.order then x :: y :: ys else y :: insertDeferred x ys

/-- The deferred commands in the order of their acceptance (R340). -/
def State.deferredList (s : State) : List (PortId × QueuedCmd) :=
  (s.presentPorts.filterMap (fun p => (s.port p).deferred.map (fun d => (p, d)))).foldl (fun l x => insertDeferred x l) []

/-- Start a deferred command (R340). -/
def State.startDeferred (x : PortId × QueuedCmd) (s : State) : State :=
  let s := s.modPort x.1 (fun y => { y with deferred := none })
  if (s.port x.1).trans.isSome then s.modPort x.1 (fun y => { y with queued := some x.2 })
  else s.startCmd x.1 x.2.target x.2.order .idle

/-- The retrain that restores the commanded width as Sleep ends (R229, R344). -/
def State.wakeRetrain (t : Trained) (s : State) : State :=
  if (s.tr.link == .up || s.tr.link == .retrain) && (s.tr.alive &&& t.pairUp) != 0 then
    ((if s.tr.link == .up then s.beginRetrain else s).retrainLanes t).rewind
  else s

/-- SLEEP_EXIT_END (R344): attention and counters are restored, the width is commanded again, held blocks enter and the
deferred port commands start. The completion of the command that ended Sleep has been sent before (R277; log 128). -/
def execSleepExitEnd (t : Trained) (bad : RetentionFault) (s : State) : Out :=
  .next (if s.serving && s.dev.st == .sleep && s.dev.exiting && s.tr.ctlQ.isEmpty && s.tr.waitBlk.isNone then
      let d := { s.dev with st := .awake, exiting := false, changing := false, byState := false, changeDue := false }
      let s := { s with dev := d }
      let s := ((s.restoreAtt bad).wakeRetrain t).runSleepCmds.releaseHeld
      let s := forEach s.deferredList State.startDeferred s
      ((s.powerEvent 5).powerEvent 6).pump
    else s)

/-- The fuse shadow with its upsets. -/
def State.upsetFuses (s : State) (fuses : List (Fin 32 × Word)) : Vector Word 32 :=
  fuses.foldl (fun v f => v.set f.1 (v[f.1] ^^^ f.2)) s.boot.fuseShadow
/-- Some fuse shadow word fails its parity check; word 3 has none (R346, R354). -/
def fuseShadowFails (v : Vector Word 32) : Bool := (List.finRange 32).any (fun w => w != 3 && !evenParity v[w])

/-- WAKE_TONE (R230, R346, Table 12.8): the domains come up, POWER_EVENTS among them (R446), and the shadows, in which the bits
of `fuses` and `image` have flipped, are checked. A fuse or image shadow word that fails lets Kiln or Slip run again, and
what is loaded and restored from the shadows and latches waits for that (R370). -/
def execWakeTone (fuses : List (Fin 32 × Word)) (image : List ShadowUpset) (bad : RetentionFault) (s : State) : Out :=
  .next (if s.released && s.pw.inputOn && s.dev.st == .deep && !s.dev.exiting then
      let s := { s with boot := { s.boot with fuseShadow := s.upsetFuses fuses, upsets := s.boot.upsets ++ image,
                                              retentionBad := bad }
                        dev := { s.dev with exiting := true }, pw := { s.pw with events := 0 } }
      let kiln := fuseShadowFails s.boot.fuseShadow
      let slip := s.boot.shadowFails
      let s := { s with boot := { s.boot with rerunKiln := kiln, rerunSlip := slip } }
      if kiln || slip then s else s.bringUp
    else s)

end Sys2Proof.Machine
end

