-- ==== Sys2Proof/Machine/Dispatch.lean ====
section
/-! DEFINITION. The effect of each command on everything but the queue: one call of its meaning. -/

namespace Sys2Proof.Machine

/-- What a command does (spec/opcode_table.json). -/
def exec (i : Instr) (s : State) : Host.Outcome State Fault Refusal :=
  match i with
  | .powerUp vin rev => Sys2Proof.Machine.execPowerUp vin rev s
  | .kilnAttempt flips reads => Sys2Proof.Machine.execKilnAttempt flips reads s
  | .strapResistorSampling pins => Sys2Proof.Machine.execStrapResistorSampling pins s
  | .slip => Sys2Proof.Machine.execSlip s
  | .releaseLoadCalibration => Sys2Proof.Machine.execReleaseLoadCalibration s
  | .phantomUndervoltage vin => Sys2Proof.Machine.execPhantomUndervoltage vin s
  | .phantomOvervoltage vin => Sys2Proof.Machine.execPhantomOvervoltage vin s
  | .phantomRange vin pin => Sys2Proof.Machine.execPhantomRange vin pin s
  | .converterFault => Sys2Proof.Machine.execConverterFault s
  | .thermalWarning r => Sys2Proof.Machine.execThermalWarning r s
  | .thermalCritical r mids => Sys2Proof.Machine.execThermalCritical r mids s
  | .thermalCriticalEnd r => Sys2Proof.Machine.execThermalCriticalEnd r s
  | .managementLaneFailure failed => Sys2Proof.Machine.execManagementLaneFailure failed s
  | .portLaneFailure p mid => Sys2Proof.Machine.execPortLaneFailure p mid s
  | .portLaneRecovered p => Sys2Proof.Machine.execPortLaneRecovered p s
  | .shortDetected p pr mid => Sys2Proof.Machine.execShortDetected p pr mid s
  | .shortToGround p pr mid => Sys2Proof.Machine.execShortToGround p pr mid s
  | .shortRetry p pr trips => Sys2Proof.Machine.execShortRetry p pr trips s
  | .shortCleared p pr => Sys2Proof.Machine.execShortCleared p pr s
  | .foreignVoltage p pr mid => Sys2Proof.Machine.execForeignVoltage p pr mid s
  | .foreignVoltageEnd p pr => Sys2Proof.Machine.execForeignVoltageEnd p pr s
  | .contention p mid => Sys2Proof.Machine.execContention p mid s
  | .openWire p pr mid => Sys2Proof.Machine.execOpenWire p pr mid s
  | .openWireEnd p pr => Sys2Proof.Machine.execOpenWireEnd p pr s
  | .undriven p mid => Sys2Proof.Machine.execUndriven p mid s
  | .stationDriveSeen p => Sys2Proof.Machine.execStationDriveSeen p s
  | .quickSenseEnd p sa sb => Sys2Proof.Machine.execQuickSenseEnd p sa sb s
  | .lineFaultHoldExpiry p => Sys2Proof.Machine.execLineFaultHoldExpiry p s
  | .fallbackExit a => Sys2Proof.Machine.execFallbackExit a s
  | .collision p => Sys2Proof.Machine.execCollision p s
  | .lineCheckEnd p sa sb => Sys2Proof.Machine.execLineCheckEnd p sa sb s
  | .eqTrack p edgeMin step => Sys2Proof.Machine.execEqTrack p edgeMin step s
  | .readyActivity p => Sys2Proof.Machine.execReadyActivity p s
  | .startRejected p => Sys2Proof.Machine.execStartRejected p s
  | .characterReceived p ch => Sys2Proof.Machine.execCharacterReceived p ch s
  | .breakEnd p len => Sys2Proof.Machine.execBreakEnd p len s
  | .stuckLow p => Sys2Proof.Machine.execStuckLow p s
  | .frameGapTimeout p => Sys2Proof.Machine.execFrameGapTimeout p s
  | .holdingRegisterDrain p => Sys2Proof.Machine.execHoldingRegisterDrain p s
  | .gapWrite p d => Sys2Proof.Machine.execGapWrite p d s
  | .flowCodeSend a => Sys2Proof.Machine.execFlowCodeSend a s
  | .transmitStart a => Sys2Proof.Machine.execTransmitStart a s
  | .transmitEnd p => Sys2Proof.Machine.execTransmitEnd p s
  | .driverRelease p => Sys2Proof.Machine.execDriverRelease p s
  | .pacerWindow p => Sys2Proof.Machine.execPacerWindow p s
  | .holdLong p => Sys2Proof.Machine.execHoldLong p s
  | .rxRateStep p => Sys2Proof.Machine.execRxRateStep p s
  | .txRateStep p => Sys2Proof.Machine.execTxRateStep p s
  | .sequencerStart r => Sys2Proof.Machine.execSequencerStart r s
  | .portTransitionEnd p sa sb => Sys2Proof.Machine.execPortTransitionEnd p sa sb s
  | .portOff q ports mids => Sys2Proof.Machine.execPortOff q ports mids s
  | .portRetain q ports mids => Sys2Proof.Machine.execPortRetain q ports mids s
  | .portReady q ports mids => Sys2Proof.Machine.execPortReady q ports mids s
  | .portRun q ports => Sys2Proof.Machine.execPortRun q ports s
  | .rateCmd q entry ports => Sys2Proof.Machine.execRateCmd q entry ports s
  | .deviceStateRun q => Sys2Proof.Machine.execDeviceStateRun q s
  | .deviceStateIdle q => Sys2Proof.Machine.execDeviceStateIdle q s
  | .deviceStateSleep q => Sys2Proof.Machine.execDeviceStateSleep q s
  | .deviceStateDeep q => Sys2Proof.Machine.execDeviceStateDeep q s
  | .sleepExitEnd t bad => Sys2Proof.Machine.execSleepExitEnd t bad s
  | .wakeTone fuses image bad => Sys2Proof.Machine.execWakeTone fuses image bad s
  | .trkWidthCmd q width => Sys2Proof.Machine.execTrkWidthCmd q width s
  | .trainingStart => Sys2Proof.Machine.execTrainingStart s
  | .linkUp t halfAttempt flags ms => Sys2Proof.Machine.execLinkUp t halfAttempt flags ms s
  | .laneDrop l => Sys2Proof.Machine.execLaneDrop l s
  | .markMissing m => Sys2Proof.Machine.execMarkMissing m s
  | .retrainEnd t => Sys2Proof.Machine.execRetrainEnd t s
  | .laneTest pair r => Sys2Proof.Machine.execLaneTest pair r s
  | .laneRestore pair hostAgrees => Sys2Proof.Machine.execLaneRestore pair hostAgrees s
  | .holdover => Sys2Proof.Machine.execHoldover s
  | .hostDataBlock b => Sys2Proof.Machine.execHostDataBlock b s
  | .blockDiscard why => Sys2Proof.Machine.execBlockDiscard why s
  | .ackReceived ackseq => Sys2Proof.Machine.execAckReceived ackseq s
  | .nakReceived expseq => Sys2Proof.Machine.execNakReceived expseq s
  | .linkBlockReserved subtype => Sys2Proof.Machine.execLinkBlockReserved subtype s
  | .ackTimer => Sys2Proof.Machine.execAckTimer s
  | .rewindTimeout => Sys2Proof.Machine.execRewindTimeout s
  | .stallLimitExpiry => Sys2Proof.Machine.execStallLimitExpiry s
  | .blockWaitExpiry p => Sys2Proof.Machine.execBlockWaitExpiry p s
  | .dataBlockBuild sel => Sys2Proof.Machine.execDataBlockBuild sel s
  | .txCreditSend => Sys2Proof.Machine.execTxCreditSend s
  | .noticeBuild proc => Sys2Proof.Machine.execNoticeBuild proc s
  | .read q size beatsM1 addr => Sys2Proof.Machine.execRead q size beatsM1 addr s
  | .write q size beatsM1 addr words mids => Sys2Proof.Machine.execWrite q size beatsM1 addr words mids s
  | .malformedControlBlock op tag w1 => Sys2Proof.Machine.execMalformedControlBlock op tag w1 s
  | .registerWrite q size addr value => Sys2Proof.Machine.execRegisterWrite q size addr value s
  | .imgWrite q addr value => Sys2Proof.Machine.execImgWrite q addr value s
  | .qwrite q urgent p odd words => Sys2Proof.Machine.execQwrite q urgent p odd words s
  | .qwriteComplete q => Sys2Proof.Machine.execQwriteComplete q s
  | .rxCredit mask limits => Sys2Proof.Machine.execRxCredit mask limits s
  | .txCommit q p => Sys2Proof.Machine.execTxCommit q p s
  | .txCommitReturn q => Sys2Proof.Machine.execTxCommitReturn q s
  | .deviceIndex q value => Sys2Proof.Machine.execDeviceIndex q value s
  | .tieGroup q g value => Sys2Proof.Machine.execTieGroup q g value s
  | .tieRelease q g => Sys2Proof.Machine.execTieRelease q g s
  | .tieCancel q g => Sys2Proof.Machine.execTieCancel q g s
  | .tieAutoRelease g => Sys2Proof.Machine.execTieAutoRelease g s
  | .tieLineStart l => Sys2Proof.Machine.execTieLineStart l s
  | .queueFlush q rx tx ports => Sys2Proof.Machine.execQueueFlush q rx tx ports s
  | .flushCrossing p => Sys2Proof.Machine.execFlushCrossing p s
  | .flushBoundary p d => Sys2Proof.Machine.execFlushBoundary p d s
  | .queueReset q rx tx ports => Sys2Proof.Machine.execQueueReset q rx tx ports s
  | .queueIntegrityFault p d u par => Sys2Proof.Machine.execQueueIntegrityFault p d u par s
  | .reclaimEnd r badTags => Sys2Proof.Machine.execReclaimEnd r badTags s
  | .pop q p d => Sys2Proof.Machine.execPop q p d s
  | .peek q p d => Sys2Proof.Machine.execPeek q p d s
  | .push q p d value => Sys2Proof.Machine.execPush q p d value s
  | .dataWindowStallEnd q => Sys2Proof.Machine.execDataWindowStallEnd q s
  | .claim q src => Sys2Proof.Machine.execClaim q src s
  | .claimComplete q src => Sys2Proof.Machine.execClaimComplete q src s
  | .attPendSet q w v => Sys2Proof.Machine.execAttPendSet q w v s
  | .attPendClr q w v => Sys2Proof.Machine.execAttPendClr q w v s
  | .attMaskSet q w v => Sys2Proof.Machine.execAttMaskSet q w v s
  | .attMaskClr q w v => Sys2Proof.Machine.execAttMaskClr q w v s
  | .attProc q value => Sys2Proof.Machine.execAttProc q value s
  | .targets q src value => Sys2Proof.Machine.execTargets q src value s
  | .cntSel q n value => Sys2Proof.Machine.execCntSel q n value s
  | .cntClear q v => Sys2Proof.Machine.execCntClear q v s
  | .benchPsel q p value => Sys2Proof.Machine.execBenchPsel q p value s
  | .imgWinCtl q value => Sys2Proof.Machine.execImgWinCtl q value s
  | .parityScan hit => Sys2Proof.Machine.execParityScan hit s
  | .svcStartStop stop addressed => Sys2Proof.Machine.execSvcStartStop stop addressed s
  | .svcAddressMatch => Sys2Proof.Machine.execSvcAddressMatch s
  | .svcLogicStart => Sys2Proof.Machine.execSvcLogicStart s
  | .svcLogicStop => Sys2Proof.Machine.execSvcLogicStop s
  | .svcUndefinedCommand code => Sys2Proof.Machine.execSvcUndefinedCommand code s
  | .ident x => Sys2Proof.Machine.execIdent x s
  | .status x => Sys2Proof.Machine.execStatus x s
  | .start x => Sys2Proof.Machine.execStart x s
  | .straps x => Sys2Proof.Machine.execStraps x s
  | .serial x => Sys2Proof.Machine.execSerial x s
  | .ports x => Sys2Proof.Machine.execPorts x s
  | .power x => Sys2Proof.Machine.execPower x s
  | .events x => Sys2Proof.Machine.execEvents x s
  | .eventsClr w => Sys2Proof.Machine.execEventsClr w s
  | .regAddr x => Sys2Proof.Machine.execRegAddr x s
  | .regData x => Sys2Proof.Machine.execRegData x s
  | .counter n x => Sys2Proof.Machine.execCounter n x s
  | .lockInstall w => Sys2Proof.Machine.execLockInstall w s
  | .lockBlowEnd copies => Sys2Proof.Machine.execLockBlowEnd copies s
  | .imgData w => Sys2Proof.Machine.execImgData w s
  | .imgPageWriteEnd readBack => Sys2Proof.Machine.execImgPageWriteEnd readBack s
  | .imgRead x => Sys2Proof.Machine.execImgRead x s
  | .imgErase w => Sys2Proof.Machine.execImgErase w s
  | .imgEraseEnd => Sys2Proof.Machine.execImgEraseEnd s
  | .imgFlashTimeout => Sys2Proof.Machine.execImgFlashTimeout s
  | .imgOpen w => Sys2Proof.Machine.execImgOpen w s
  | .imgClose w => Sys2Proof.Machine.execImgClose w s
  | .imgState x => Sys2Proof.Machine.execImgState x s
  | .svcNoticeStart => Sys2Proof.Machine.execSvcNoticeStart s
  | .svcArbitrationLost => Sys2Proof.Machine.execSvcArbitrationLost s
  | .svcNoticeNak => Sys2Proof.Machine.execSvcNoticeNak s
  | .svcNoticeRetry => Sys2Proof.Machine.execSvcNoticeRetry s
  | .svcBusTimeout => Sys2Proof.Machine.execSvcBusTimeout s
  | .svcPassive => Sys2Proof.Machine.execSvcPassive s
  | .svcPassiveEnd => Sys2Proof.Machine.execSvcPassiveEnd s
  | .convertersInRegulation => Sys2Proof.Machine.execConvertersInRegulation s
  | .thermalWarningEnd r => Sys2Proof.Machine.execThermalWarningEnd r s
  | .stuckLowEnd p => Sys2Proof.Machine.execStuckLowEnd p s
  | .breakRiseRejected p => Sys2Proof.Machine.execBreakRiseRejected p s
  | .tick => Sys2Proof.Machine.execTick s

end Sys2Proof.Machine
end

