-- ==== Sys2Proof/Machine/Pins.lean ====
section
/-! DEFINITION. What the Lulos applies to its pins: the termination, bias, driver, slew, de-emphasis and equaliser of each
line unit (03_line_units.md R66 to R68, R70, R73, R77, R81; 04_character_engine.md R117; 12_power_and_states.md R330, Table
12.5), the bits on a pair (04 R104, R114), and the pins of the flash (14_configuration_image.md R377; 15_service_port.md
R412 to R416; 18_electrical_and_package.md R466). Everything here is derived from the state. -/

namespace Sys2Proof.Machine

/-! ### Line units -/

/-- A receive termination (R67). -/
inductive Term where
  | off | ohm100 | ohm120
deriving DecidableEq, Repr

/-- The termination a profile names (Table 14.11); the value the table does not give is off (log 114, DESIGN CHOICE). -/
def Port.termNamed (x : Port) : Term :=
  match x.term.toNat with
  | 1 => .ohm100
  | 2 => .ohm120
  | _ => .off

/-- The line units of a port are powered for signalling: in Ready and in Run (Table 12.5). -/
def State.lineUnitsOn (s : State) (p : PortId) : Bool :=
  s.serving && s.present p && ((s.port p).st == .ready || (s.port p).st == .run)

/-- The termination a pair applies, from Ready on, so not yet while the release calibrates again (R73; log 161, DESIGN
CHOICE): the profile's in the receive role or on the bus, 100 Ω where the receiver runs fast mode, none on any other
pair (R67, R117, Table 3.6). -/
def State.termination (s : State) (p : PortId) (pr : PairId) : Term :=
  let x := s.port p
  if !s.lineUnitsOn p || pr != x.line.rxRole then .off
  else if x.fastEntry s.fastDisable x.rate.rxEntry then .ohm100 else x.termNamed

/-- A pair applies the Lulos's fail-safe bias: in the receive role always, on a bus where MD_BIAS is 1 (R67; log 161). -/
def State.bias (s : State) (p : PortId) (pr : PairId) : Bool :=
  let x := s.port p
  s.lineUnitsOn p && pr == x.line.rxRole && (!x.multidrop || x.cfg[0].getLsbD 25)

/-- A foreign voltage isolates the pair (Table 3.6). -/
def State.isolated (s : State) (p : PortId) (pr : PairId) : Bool := ((s.port p).line.pair pr).cond == 4#4

/-- The unit response of a pair's condition leaves the driver of a calibration on: it is good, undriven or open (Table
3.6). -/
def PairSt.mayTrain (q : PairSt) : Bool := q.cond == 0#4 || q.cond == 1#4 || q.cond == 2#4

/-- A pair drives PRBS-7 in the calibration of the release: the transmit-role pair of every port that trains under load,
while all of them calibrate at once (R73, R352 step 7). Which of the sequences of that name it is the spec does not say
(log 130). -/
def State.drivesPrbs (s : State) (p : PortId) (pr : PairId) : Bool :=
  let x := s.port p
  s.loadRound && s.present p && x.releasing && x.trainsLoaded && x.st == .off && pr == x.line.txRole x.multidrop &&
    (x.line.pair pr).mayTrain

/-- A pair's driver is on: for what the port sends, at mark after a short retry that did not trip (R81, R330), or for the
calibration at release (R73). -/
def State.driverOn (s : State) (p : PortId) (pr : PairId) : Bool :=
  let x := s.port p
  (s.lineUnitsOn p && ((x.tx.driver && pr == x.sendPair) || (x.line.pair pr).retrying)) || s.drivesPrbs p pr

/-- What a line check applies to its port's pairs. -/
structure CheckPins where
  bias : Bool
  testCurrent : Bool
  termination : Bool
  prbs : Bool
deriving DecidableEq, Repr

/-- What a line check that reads `sa` and `sb` applies to pair `pr`, `us` microseconds after its start (Table 3.3): the
Lulos's bias; the test current, on an undriven pair that is not in Protection; the termination, on the pair that step 5
gives the receive role; and PRBS-7 on the pair it gives the transmit role, where the port trains under load and no
condition keeps the driver off (R77, R80, R290, R296). -/
def State.checkPins (s : State) (p : PortId) (sa sb : PairSense) (pr : PairId) (us : Nat) : CheckPins :=
  let x := s.port p
  let l := x.line.check x.multidrop (x.lightTrain || x.frozen) sa sb
  let r := match pr with
    | .a => sa
    | .b => sb
  let on := s.serving && s.present p && x.line.checking
  { bias := on && decide (20 ≤ us ∧ us < 300)
    testCurrent := on && !(x.line.pair pr).prot && r.drive == .undriven && decide (50 ≤ us ∧ us < 130)
    termination := on && pr == l.rxRole && decide (160 ≤ us ∧ us < 300)
    prbs := on && x.trainsLoaded && pr == l.txRole x.multidrop && (l.pair pr).mayTrain && decide (170 ≤ us ∧ us < 290) }

/-- The de-emphasis in force: of the last length estimate where the transmitter runs fast mode, else none (R68, R117). -/
def State.deemphasis (s : State) (p : PortId) : BitVec 2 :=
  let x := s.port p
  if x.fastEntry s.fastDisable x.rate.txEntry then deemphOf x.line.lenEst else 0#2

/-- The boost of the receiver's equaliser, which is bypassed up to 2.5 Mbaud (R68; log 103). -/
def State.boost (s : State) (p : PortId) : Option (BitVec 4) :=
  let x := s.port p
  if x.div s.fastDisable x.rate.rxEntry < 1280 then some x.line.eqBoost else none

/-- What the transmit pair carries now, bit by bit (R104, R114). -/
def State.txLine (s : State) (p : PortId) : List Bool := (s.port p).onLine

/-! ### The flash (R377, R412 to R416, R466) -/

/-- A command the Lulos sends to the flash (R377, R412). -/
inductive FlashCmd where
  | readData (addr : BitVec 24) (n : Nat)
  | writeEnable
  | pageProgram (addr : BitVec 24) (data : List Byte)
  | sectorErase (addr : BitVec 24)
  | readStatus
deriving DecidableEq, Repr

/-- The three address bytes, the highest first (R414). -/
def addrBytes (a : BitVec 24) : List Byte := [a.extractLsb' 16 8, a.extractLsb' 8 8, a.extractLsb' 0 8]

/-- What IMG_MOSI carries of a command (R412, R414). -/
def FlashCmd.sent : FlashCmd → List Byte
  | .readData a _ => 0x03#8 :: addrBytes a
  | .writeEnable => [0x06#8]
  | .pageProgram a data => 0x02#8 :: addrBytes a ++ data
  | .sectorErase a => 0x20#8 :: addrBytes a
  | .readStatus => [0x05#8]
/-- How many bytes the flash then answers on IMG_MISO. -/
def FlashCmd.answered : FlashCmd → Nat
  | .readData _ n => n
  | .readStatus => 1
  | _ => 0

/-- A byte's bits as the flash pins carry them, most significant first (log 131, PRESUMED). -/
def spiBits (b : Byte) : List Bool := (List.range 8).map (fun k => b.getLsbD (7 - k))

/-- What IMG_MOSI carries at each clock of a command: its bits, and then for every bit of the answer a level the spec leaves
open. -/
def FlashCmd.clocks (c : FlashCmd) : List (Option Bool) :=
  (c.sent.flatMap spiBits).map some ++ List.replicate (8 * c.answered) none

/-- The levels of IMG_SCK and IMG_MOSI through a command and its answer, two for each bit: IMG_SCK rests low, IMG_MOSI
changes while it is low, and the bit stands at the rising edge, where IMG_MISO is sampled (R466). -/
def FlashCmd.levels (c : FlashCmd) : List (Bool × Option Bool) := c.clocks.flatMap (fun b => [(false, b), (true, b)])

/-- The bits the Lulos samples on IMG_MISO, one at each rising edge after the command's bytes: of Read Data what the
flash `m` holds from the address on, of Read Status its status byte (R377, R415, R416, R466). -/
def FlashCmd.sampled (m : List Host.Cell) (status : Byte) : FlashCmd → List Bool
  | .readData a n => ((List.range n).map (fun k => flashRead m (a.toNat + k))).flatMap spiBits
  | .readStatus => spiBits status
  | _ => []

/-- The flash address of a pointer (R414). -/
def flashAddr (ptr : BitVec 16) : BitVec 24 := ptr.setWidth 24
/-- The command by which IMG_READ reads its 32 bytes (R377, R416). -/
def State.imgReadCmd (s : State) : FlashCmd := .readData (flashAddr s.svc.pointer) 32

/-- The one read that Slip makes (R367, R379): from address 0 through the CRC-32 behind the length that the header
gives; the header alone where it names no image or no length a file can have (log 131, DESIGN CHOICE). -/
def State.slipReadCmd (s : State) : FlashCmd :=
  .readData 0 (if img32 s.flash 0 == 0x4F4C554C#32 && lengthOk s.flash then imgLength s.flash + 4 else 16)

/-- The commands of the flash operation in progress, in order; the status is read again until the write has ended (R414,
R415). -/
def SvcBusy.flashCmds : SvcBusy → List FlashCmd
  | .page ptr data =>
    [.writeEnable, .pageProgram (flashAddr ptr) data, .readStatus, .readData (flashAddr ptr) data.length]
  | .erase ptr => [.writeEnable, .sectorErase (flashAddr ptr), .readStatus]
  | .none | .lock => []

/-- IMG_SCK rests low (R466). -/
def imgSckRest : Bool := false

/-- The Lulos drives IMG_CS_N high and no flash command is under way: outside Slip, and, in a session too, outside a flash
operation (R377, R412, Table 18.11); with the bedrock off it drives nothing. Inside an operation it is high between two
commands. -/
def State.imgCsHigh (s : State) : Bool :=
  s.pw.inputOn && s.boot.regulated && !s.slipRuns && s.svc.busy.flashCmds.isEmpty

end Sys2Proof.Machine
end

