-- ==== Sys2Proof/Safety.lean ====
section
/-! DEFINITION. What the claims call safe: the invariant that every step keeps, and what no step changes but the commands to
which the spec gives that effect. -/

namespace Sys2Proof.Machine

/-- The invariant: the flash is in its canonical form, and neither Kiln nor a notice has used more than three retries
(R355, R422). -/
structure State.Inv (s : State) : Prop where
  flash : Memory.wf s.flash = true
  kiln : s.boot.attempts ≤ 3
  notice : s.svc.noteRetries ≤ 3
  retry : s.svc.noteWait = true → s.svc.noteRetries < 3

/-- The part of the state that hardly any command may touch: the queue of commands, the flash, the fuse array, the image
shadow, the straps, Kiln's attempts and a notice's retries. -/
structure Kept where
  pending : List Instr
  flash : List Host.Cell
  fuseArray : Vector Word 32
  image : Image
  straps : Straps
  attempts : Nat
  noteRetries : Nat
  noteWait : Bool
deriving DecidableEq, Repr

/-- That part of a state. -/
def State.kept (s : State) : Kept :=
  { pending := s.pending, flash := s.flash, fuseArray := s.boot.fuseArray, image := s.boot.image, straps := s.boot.straps,
    attempts := s.boot.attempts, noteRetries := s.svc.noteRetries, noteWait := s.svc.noteWait }

/-- Everything but port `p`, its region's store bank, the tie groups, the attention unit, the counters and the event bits
that a port's commands may set: what a command on the line of port `p` leaves alone. -/
def State.apart (p : PortId) (s : State) : State :=
  { s with
    ports := s.ports.set p {}
    regions := s.regions.set (regionOf p) {}
    ties := Vector.replicate 4 {}
    att := {}
    cnt := {}
    boot := { s.boot with early := [] }
    pw := { s.pw with events := 0 }
    host := { s.host with errors := 0 } }

/-- What a port's own events leave alone: its state and transition, its profile, level and reservations, and its line as
the pairs, roles and checks make it. The rest (queues, receiver, transmitter, flow, frames, event bits) is blanked. -/
def Port.steady (x : Port) : Port :=
  { x with
    stEvents := 0, missed := false, outage := 0, outFreeze := none, outLane := none, outProt := none,
    line := { x.line with lineEvents := 0, reported := {}, lfDiscard := false, sensing := false,
                          a := { x.line.a with waits := false }, b := { x.line.b with waits := false } },
    rx := {}, rate := {}, af := {}, tx := {}, flow := {}, rxq := {}, txq := {}, rxCheck := {}, txCheck := {},
    pushHold := none, unseen := Vector.replicate 4 0, rxqEvents := 0,
    txqEvents := 0, qFaults := 0, txLoss := 0, txLossUnknown := false, lossFrom := none, txRefused := 0, flushTag := none, entered := 0,
    gaps := 0, placed := 0 }

/-- That part of every port. -/
def State.steady (s : State) : Vector Port 16 := s.ports.map Port.steady

/-- The steady part of a state whose line of port `p` is changed by `f`: no retry outlasts its condition (R81, R330), and the
line mode is decided again (R85). -/
def State.relined (s : State) (p : PortId) (f : LineSt → LineSt) : Vector Port 16 :=
  (s.modLine p (fun l => ({ f l with mode := (s.port p).decideMode (f l) } : LineSt).endRetries)).steady

/-- The items of a queue's bulk lane in the order in which they leave it: the settling chain, then the store (R184). -/
def Queue.bulkItems (q : Queue) : List Item := (q.chain ++ q.store).map (fun e => e.item)
/-- The items of a queue's urgent lane in the order in which they leave it. -/
def Queue.urgItems (q : Queue) : List Item := q.urg.map (fun e => e.item)

/-- Everything but what building a block may touch: the ports, the trunk, host requests, attention, the counters, the events
that wait for Release, and what a retrain that was due changes: CHANGING's wait and the disturbance of a tie round. -/
def State.offTrunk (s : State) : State :=
  { s with ports := Vector.replicate 16 {}, tr := {}, host := {}, att := {}, cnt := {},
           dev := { s.dev with changeDue := false }, ties := s.ties.map (fun g => { g with disturbed := false }),
           boot := { s.boot with early := [] } }

/-- The commands that may change what a byte of the flash reads as: the end of a flash operation, and the loss of power or
the halt in the middle of one (R287, R356, R414, R415). -/
def writesFlash : Instr → Bool
  | .kilnAttempt _ _ | .phantomUndervoltage _ | .phantomOvervoltage _ | .parityScan _ | .imgPageWriteEnd _ | .imgEraseEnd
  | .imgFlashTimeout => true
  | _ => false

/-- The commands that may blow a fuse: the end of LOCK_INSTALL, and the loss of power or the halt in the middle of it
(R287, R356, R419). -/
def blowsFuse : Instr → Bool
  | .kilnAttempt _ _ | .phantomUndervoltage _ | .phantomOvervoltage _ | .parityScan _ | .lockBlowEnd _ => true
  | _ => false

/-- The commands that may change the image shadow: Slip, and a change of phantom power (R367, R287). -/
def loadsImage : Instr → Bool
  | .slip | .powerUp _ _ | .phantomUndervoltage _ | .phantomOvervoltage _ => true
  | _ => false

/-- The commands that may change the latched straps: sampling, Kiln's halt, and a change of phantom power (R360, R410). -/
def latchesStraps : Instr → Bool
  | .strapResistorSampling _ | .kilnAttempt _ _ | .powerUp _ _ | .phantomUndervoltage _ | .phantomOvervoltage _ => true
  | _ => false

/-- The port whose line a command of chapters 03 to 06 acts on, where it acts on one port alone. -/
def lineCmdPort : Instr → Option PortId
  | .portLaneFailure p _ | .portLaneRecovered p | .shortDetected p _ _ | .shortToGround p _ _ | .shortRetry p _ _
  | .shortCleared p _ | .foreignVoltage p _ _ | .foreignVoltageEnd p _ | .contention p _ | .openWire p _ _
  | .openWireEnd p _ | .undriven p _ | .stationDriveSeen p | .quickSenseEnd p _ _ | .lineFaultHoldExpiry p
  | .fallbackExit ⟨p, _⟩ | .collision p | .eqTrack p _ _ | .readyActivity p | .startRejected p | .characterReceived p _
  | .breakEnd p _ | .breakRiseRejected p | .stuckLow p | .stuckLowEnd p | .frameGapTimeout p | .holdingRegisterDrain p
  | .gapWrite p _ | .flowCodeSend ⟨p, _⟩ | .transmitStart ⟨p, _⟩ | .transmitEnd p | .driverRelease p | .pacerWindow p | .holdLong p
  | .rxRateStep p | .txRateStep p => some p
  | _ => none

/-- The device serves the host's requests: blocks flow, it is released, and it is neither in Sleep nor in Deep. -/
def State.hostReady (s : State) : Prop :=
  s.blocksFlow = true ∧ s.boot.stage = .released ∧ s.dev.st = .awake

end Sys2Proof.Machine
end

