-- ==== Sys2Proof/Certificates/Slice0/Obligations.lean ====
section
/-! DEFINITION. The statements for the provers. Each says in its docstring which rules of the spec it formalises; a clause
that rests on a choice of the model names its log entry. -/

section

open Sys2Proof Sys2Proof.Machine

/-! ### The queue, reset and the invariant -/

/-- A step carries out the command at the front of the queue on the queue's rest; on an empty queue it idles, which is
the model's choice (log 3). -/
def Obligations.StepRunsFrontCommand : Prop :=
  (∀ (i : Instr) (rest : List Instr) (s : State), s.pending = i :: rest → step s = exec i { s with pending := rest }) ∧
  ∀ s : State, s.pending = [] → step s = .next s

/-- No command's effect reaches the queue: what it leaves waiting is what waited, in the same order. -/
def Obligations.CommandsKeepQueue : Prop :=
  ∀ (i : Instr) (s t : State), exec i s = .next t → t.pending = s.pending

/-- The state after reset: no power, nothing started, an empty queue and an erased flash, and no register written. It is
the model's choice of the moment before POWER_UP (logs 1 and 2). -/
def Obligations.ResetIsUnpowered : Prop :=
  State.reset.pending = [] ∧ State.reset.pw.inputOn = false ∧ State.reset.boot.stage = .powerUp ∧
  State.reset.boot.regulated = false ∧ State.reset.tr.link = .down ∧ State.reset.svc.running = false ∧
  State.reset.svc.events = 0 ∧ State.reset.cnt = {} ∧ State.reset.att = {} ∧ State.reset.boot.image = {} ∧
  (∀ p, State.reset.port p = {}) ∧ (∀ r, State.reset.region r = {}) ∧ (∀ g, State.reset.tie g = {}) ∧
  ∀ a, flashRead State.reset.flash a = 0xFF#8

/-- The invariant holds at reset. -/
def Obligations.ResetKeepsInvariant : Prop := State.reset.Inv

/-- Every step keeps the invariant: the flash stays in its canonical form, and neither Kiln (R356) nor a notice (R422)
ever goes past its third retry. -/
def Obligations.StepKeepsInvariant : Prop :=
  ∀ s t : State, s.Inv → step s = .next t → t.Inv

/-! ### Whole-machine frames -/

/-- Only the end of a flash operation, and the loss of power or a halt in the middle of one, may change a byte of the
flash. -/
def Obligations.FlashChangesOnlyAtOperationEnd : Prop :=
  ∀ (i : Instr) (s t : State), writesFlash i = false → exec i s = .next t →
    ∀ a, flashRead t.flash a = flashRead s.flash a

/-- The fuse array never loses a blown fuse: every word but word 3 stays as it is for every command, word 3 only gains
bits of INSTALL_LOCK, and a lock that is blown stays blown; no command but the end of LOCK_INSTALL and one that cuts it
short changes word 3. -/
def Obligations.FusesOnlyGain : Prop :=
  ∀ (i : Instr) (s t : State), exec i s = .next t →
    (∀ w : Fin 32, w ≠ 3 → t.boot.fuseArray[w] = s.boot.fuseArray[w]) ∧
    s.boot.fuseArray[3] &&& ~~~(t.boot.fuseArray[3]) = 0#32 ∧
    (t.boot.fuseArray[3] ^^^ s.boot.fuseArray[3]) &&& ~~~7#32 = 0#32 ∧
    (lockBlown s.boot.fuseArray[3] = true → lockBlown t.boot.fuseArray[3] = true) ∧
    (blowsFuse i = false → t.boot.fuseArray = s.boot.fuseArray)

/-- Only Slip, and a change of phantom power, change the image shadow (R367, R287); only sampling, Kiln's halt and a
change of phantom power change the latched straps (R360, R410). -/
def Obligations.ShadowAndStrapsFrame : Prop :=
  (∀ (i : Instr) (s t : State), loadsImage i = false → exec i s = .next t → t.boot.image = s.boot.image) ∧
  ∀ (i : Instr) (s t : State), latchesStraps i = false → exec i s = .next t → t.boot.straps = s.boot.straps

/-- The frame of the line, receive and transmit commands: a command on the line of port `p` leaves every other port and
region, the trunk, the host's requests, start-up but for the events that wait for Release, the service port, the flash
and the queue as they were. It says nothing of the tie groups, the attention unit, the counters and the event bits of
POWER_EVENTS and HOST_ERRORS, which a port's commands may change. -/
def Obligations.LineCommandFrame : Prop :=
  ∀ (i : Instr) (p : PortId) (s t : State), lineCmdPort i = some p → exec i s = .next t → t.apart p = s.apart p

/-! ### The service port (15) -/

/-- The commands of the service port in their conditions; each counts in TRANSACTIONS, and its address is no longer
acknowledged without a command (log 88). A class I read (R403, R405): the data bytes of Table 15.2, PEC over the whole
transaction, then 0xFF, as far as the controller takes them. A class D read while the device serves, and a counter read
while it is not in Sleep either (R405, R407): a port's nibble, POWER_STATUS, all 48 bits of a counter lowest byte first,
REG_ADDR, and the register at REG_ADDR, which then advances by 4. The window commands in the conditions of R411
(IMG_OPEN, LOCK_INSTALL, IMG_STATE) and in a session (the others), with no operation in progress: the session opens and
closes, IMG_DATA sets the pointer and starts a page write of its bytes (R413), IMG_ERASE starts an erase and leaves the
pointer (R415), IMG_READ sends 32 bytes from the pointer and advances it by those taken (R416); that a read that passes
the top of 64 KiB goes on at address 0 is the model's reading (log 85). IMG_STATE reports, and LOCK_INSTALL with its two
bytes starts the blowing (R419). Each carries its matching PEC. Completes: ident, status, start, straps, serial, events,
ports, power, regAddr (read), counter, regData, imgOpen, imgClose, imgData, imgErase, imgRead, imgState, lockInstall. -/
def Obligations.ServiceCommandsAnswer : Prop :=
  ∀ (s : State) (n : Nat), s.svcOpen = true →
    let taken : Svc := { s.svc.noteDone with
      transactions := satInc s.svc.transactions, addressed := false, acked := true }
    let sent (a : BitVec 16) (code : Byte) (data : List Byte) : Out :=
      .next { s with svc := { taken with
        regAddr := a
        out := (data ++ [pec ([s.svcAddr, code, s.svcAddr + 1] ++ data)] ++ List.replicate n 0xFF#8).take n } }
    let keep := s.svc.regAddr
    (exec (.ident { n := n }) s = sent keep 0x00 (wordBytes s.idDevice ++ wordBytes s.idPresent) ∧
     exec (.status { n := n }) s = sent keep 0x01 s.statusBytes ∧
     exec (.start { n := n }) s = sent keep 0x02 (wordBytes s.startStatus) ∧
     exec (.straps { n := n }) s = sent keep 0x03 (wordBytes s.strapStatus) ∧
     exec (.serial { n := n }) s = sent keep 0x04
       (0x10#8 :: (wordBytes (s.idSerial 0) ++ wordBytes (s.idSerial 1) ++ wordBytes (s.idSerial 2) ++ wordBytes (s.idSerial 3))) ∧
     exec (.events { n := n }) s = sent keep 0x08 [s.svc.events.setWidth 8, (s.svc.events >>> 8).setWidth 8]) ∧
    (s.serving = true →
      exec (.ports { n := n }) s = sent keep 0x05 ((List.finRange 8).map (fun k =>
        BitVec.ofNat 8 (s.portNibble ⟨2 * k.val, by omega⟩ + 16 * s.portNibble ⟨2 * k.val + 1, by omega⟩))) ∧
      exec (.power { n := n }) s = sent keep 0x06 (wordBytes s.powerStatus) ∧
      exec (.regAddr (.read n)) s = sent keep 0x10 (cellBytes keep) ∧
      (∀ i : Fin 32, s.dev.st = .awake → exec (.counter i { n := n }) s = sent keep (0x20 + BitVec.ofNat 8 i.val)
        [s.cnt.vals[i].extractLsb' 0 8, s.cnt.vals[i].extractLsb' 8 8, s.cnt.vals[i].extractLsb' 16 8,
         s.cnt.vals[i].extractLsb' 24 8, s.cnt.vals[i].extractLsb' 32 8, s.cnt.vals[i].extractLsb' 40 8]) ∧
      ∀ r, s.regDataReg = some r →
        exec (.regData { n := n }) s = sent (keep + 4) 0x11 (wordBytes (s.readReg false r))) ∧
    ∀ (lo hi : Byte) (data : List Byte), s.svc.busy = .none →
    let done (f : Svc → Svc) : Out := .next { s with svc := f { taken with out := [] } }
    let write (code : Byte) (bs : List Byte) : SvcWrite := { bytes := bs ++ [pec ([s.svcAddr, code] ++ bs)], stop := true }
    let ptr : BitVec 16 := BitVec.ofNat 16 (leNat [lo, hi])
    (s.windowAllowed = true →
      exec (.imgOpen (write 0x83 [])) s = done (fun v => { v with session := true }) ∧
      exec (.lockInstall (write 0x40 [0x4C, 0x4B])) s = done (fun v => { v with busy := .lock }) ∧
      ∃ t, exec (.imgState { n := n }) s = .next t ∧ t.svc.acked = true ∧ t.svc.pointer = s.svc.pointer ∧
        t.svc.out.take 4 = ([(if s.svc.session then 1#8 else 0#8) ||| (if s.svc.events.getLsbD 8 then 4#8 else 0#8) |||
          (if s.svc.events.getLsbD 9 then 8#8 else 0#8), 0#8, s.svc.pointer.setWidth 8, (s.svc.pointer >>> 8).setWidth 8]
          : List Byte).take n ∧ t.flash = s.flash ∧ t.svc.session = s.svc.session) ∧
    (s.svc.session = true →
      exec (.imgClose (write 0x84 [])) s = done (fun v => { v with session := false }) ∧
      exec (.imgErase (write 0x82 [lo, hi])) s = done (fun v => { v with busy := .erase ptr }) ∧
      (0 < data.length ∧ data.length ≤ 64 ∧ ptr.toNat % 64 + data.length ≤ 64 →
        exec (.imgData (write 0x80 ([lo, hi, BitVec.ofNat 8 data.length] ++ data))) s =
          done (fun v => { v with busy := .page ptr data, pointer := ptr + BitVec.ofNat 16 data.length })) ∧
      exec (.imgData (write 0x80 [lo, hi, 0])) s = done (fun v => { v with pointer := ptr }) ∧
      ∃ t, exec (.imgRead { n := n }) s = .next t ∧ t.svc.pointer = s.svc.pointer + BitVec.ofNat 16 (min 32 (n - 1)) ∧
        (∀ k, k < 32 → k + 1 < n →
          t.svc.out[k + 1]? = some (flashRead s.flash ((s.svc.pointer.toNat + k) % 65536))) ∧
        (0 < n → t.svc.out[0]? = some 0x20#8) ∧ t.flash = s.flash)

/-- The table of R402 for the two bytes of REG_ADDR: a write takes effect at its STOP, and only with exactly its two
bytes, or with a matching PEC byte after them, which it must have where PEC_REQUIRED is 1; every other write leaves
REG_ADDR. The flags it then sets are those of the table's rows, judged byte by byte. EVENTS_CLR with two bytes and a
STOP clears the SVC_EVENTS bits they name, and no other (R428); a read address sent after it is not acknowledged and
sets CMD_ERR (R403). Completes: regAddr (write), eventsClr. -/
def Obligations.ServiceWriteRules : Prop :=
  (∀ (s : State) (bs : List Byte) (stop : Bool), s.svcOpen = true → s.serving = true →
    let checked := bs.getD 2 0 = pec ([s.svcAddr, 0x10] ++ bs.take 2)
    let good := bs.length = 3 ∧ checked
    ∃ t, exec (.regAddr (.write { bytes := bs, stop := stop })) s = .next t ∧
      t.svc.transactions = satInc s.svc.transactions ∧
      (stop = true ∧ (good ∨ (bs.length = 2 ∧ s.pecRequired = false)) →
        t.svc.regAddr = BitVec.ofNat 16 (leNat (bs.take 2)) ∧ t.svc.events = s.svc.events ∧ t.svc.acked = true) ∧
      (¬ (stop = true ∧ (good ∨ (bs.length = 2 ∧ s.pecRequired = false))) → t.svc.regAddr = s.svc.regAddr) ∧
      (bs.length < 2 → t.svc.events = s.svc.events ||| oneBit 11 4 ∧ t.svc.acked = true) ∧
      (3 < bs.length ∧ checked → t.svc.events = s.svc.events ||| oneBit 11 4 ∧ t.svc.acked = false) ∧
      (3 ≤ bs.length ∧ ¬ checked → t.svc.events = s.svc.events ||| oneBit 11 5 ∧ t.svc.acked = false) ∧
      (stop = false ∧ (bs.length = 2 ∨ good) → t.svc.events = s.svc.events ||| oneBit 11 4) ∧
      (stop = true ∧ bs.length = 2 ∧ s.pecRequired = true → t.svc.events = s.svc.events ||| oneBit 11 5 ∧ t.svc.acked = true)) ∧
  (∀ (s : State) (bs : List Byte), s.svcOpen = true → bs.length ≤ 2 →
    ∃ t, exec (.eventsClr { bytes := bs, stop := false, readAddr := true }) s = .next t ∧
      t.svc.events = s.svc.events ||| oneBit 11 4 ∧ t.svc.acked = false ∧ t.svc.regAddr = s.svc.regAddr) ∧
  ∀ (s : State) (a b : Byte), s.svcOpen = true → s.pecRequired = false →
    ∃ t, exec (.eventsClr { bytes := [a, b], stop := true }) s = .next t ∧
      t.svc.events = s.svc.events &&& ~~~((b.setWidth 16 <<< 8 ||| a.setWidth 16 : BitVec 16).setWidth 11) ∧
      t.svc.regAddr = s.svc.regAddr ∧ t.svc.pointer = s.svc.pointer ∧ t.svc.session = s.svc.session ∧
      t.flash = s.flash ∧ t.ports = s.ports ∧ t.tr = s.tr ∧ t.cnt = s.cnt

/-- A window command that is not available is not acknowledged and sets CMD_ERR: IMG_OPEN, IMG_STATE and LOCK_INSTALL
outside the conditions of R411, IMG_DATA, IMG_READ, IMG_ERASE and IMG_CLOSE outside a session. One refused only because
BUSY is 1 is not acknowledged and sets no flag (R401, R417). The port then ignores the bus until STOP, which the refused
transfer may have brought already (R401; log 129). A count byte of IMG_DATA above 64 or across a 64-byte page is refused
with CMD_ERR, and the pointer stays (R413). A command code that is not available is not acknowledged and sets CMD_ERR
(R401). Completes: svcUndefinedCommand. -/
def Obligations.ServiceRefusals : Prop :=
  (∀ (s : State) (w : SvcWrite) (x : SvcRead), s.svcOpen = true →
    let refused (i : Instr) (avail stop : Bool) : Prop := avail = false ∨ s.svc.busy ≠ .none →
      ∃ t, exec i s = .next t ∧ t.svc.acked = false ∧ t.svc.busy = s.svc.busy ∧ t.svc.session = s.svc.session ∧
        t.svc.pointer = s.svc.pointer ∧ t.flash = s.flash ∧ t.ports = s.ports ∧ t.svc.untilStop = !stop ∧
        t.svc.events = if avail then s.svc.events else s.svc.events ||| oneBit 11 4
    refused (.imgOpen w) s.windowAllowed w.stop ∧ refused (.imgState x) s.windowAllowed true ∧
      refused (.lockInstall w) s.windowAllowed w.stop ∧ refused (.imgData w) s.svc.session w.stop ∧
      refused (.imgRead x) s.svc.session true ∧ refused (.imgErase w) s.svc.session w.stop ∧
      refused (.imgClose w) s.svc.session w.stop) ∧
  (∀ (s : State) (lo hi : Byte) (k : Byte) (more : List Byte) (stop : Bool), s.svcOpen = true → s.svc.busy = .none →
    s.svc.session = true →
    (64 < k.toNat ∨ 64 < leNat [lo, hi] % 64 + k.toNat) ∧ k ≠ 0 →
    ∃ t, exec (.imgData { bytes := [lo, hi, k] ++ more, stop := stop }) s = .next t ∧
      t.svc.events = s.svc.events ||| oneBit 11 4 ∧ t.svc.acked = false ∧ t.svc.pointer = s.svc.pointer ∧
      t.svc.busy = .none ∧ t.flash = s.flash) ∧
  ∀ (s : State) (code : Byte), s.svcOpen = true → s.codeClass code = false →
    ∃ t, exec (.svcUndefinedCommand code) s = .next t ∧ t.svc.acked = false ∧ t.svc.out = [] ∧
      t.svc.events = s.svc.events ||| oneBit 11 4 ∧ t.svc.transactions = satInc s.svc.transactions ∧
      t.svc.session = s.svc.session ∧ t.svc.pointer = s.svc.pointer ∧ t.svc.regAddr = s.svc.regAddr ∧
      t.ports = s.ports ∧ t.tr = s.tr ∧ t.flash = s.flash ∧ t.pending = s.pending

/-- The end of a page write (R414): the flash holds what is read back at the page's addresses (what the operand says was
read back is what the flash holds: the model's choice, log 86) and every other byte reads as before; where it is what
was written, FLASH_DONE is set and PAGES counts, else VERIFY_ERR is set. The end of an erase (R415): the 4 KiB sector
that holds the pointer reads 0xFF, every other byte reads as before, FLASH_DONE is set and the pointer stays. An
operation that does not end in its time sets FLASH_ERR and ends; no byte outside the page or the sector changes, and
what the bytes inside then hold is free (log 21). Where Deep waits for the operation the device then enters Deep, and
the session ends (R418); else the device state stays. Completes: imgPageWriteEnd, imgEraseEnd, imgFlashTimeout. -/
def Obligations.FlashOperationsEnd : Prop :=
  let ends (s t : State) : Prop := t.svc.busy = .none ∧
    (s.dev.deepWait = true → t.dev.st = .deep ∧ t.dev.deepWait = false ∧ t.svc.session = false) ∧
    (s.dev.deepWait = false → t.dev = s.dev ∧ t.svc.session = (s.svc.session && !s.svc.closing) ∧ t.ports = s.ports)
  (∀ (s : State) (a : BitVec 16) (bs back : List Byte), Memory.wf s.flash = true → s.svc.busy = .page a bs →
    back.length = bs.length → a.toNat + bs.length ≤ 65536 →
    ∃ t, exec (.imgPageWriteEnd back) s = .next t ∧ ends s t ∧
      (∀ (k : Nat) (h : k < back.length), flashRead t.flash (a.toNat + k) = back[k]) ∧
      (∀ x, x < a.toNat ∨ a.toNat + bs.length ≤ x → flashRead t.flash x = flashRead s.flash x) ∧
      (back = bs → t.svc.events = s.svc.events ||| oneBit 11 7 ∧ t.svc.pages = satInc s.svc.pages) ∧
      (back ≠ bs → t.svc.events = s.svc.events ||| oneBit 11 9 ∧ t.svc.pages = s.svc.pages) ∧
      t.svc.pointer = s.svc.pointer ∧ t.boot.image = s.boot.image) ∧
  (∀ (s : State) (a : BitVec 16), Memory.wf s.flash = true → s.svc.busy = .erase a →
    ∃ t, exec .imgEraseEnd s = .next t ∧ ends s t ∧ t.svc.pointer = s.svc.pointer ∧
      t.svc.events = s.svc.events ||| oneBit 11 7 ∧
      ∀ x, flashRead t.flash x = if x / 4096 = a.toNat / 4096 then 0xFF#8 else flashRead s.flash x) ∧
  ∀ (s : State), Memory.wf s.flash = true →
    (∀ a bs, s.svc.busy = .page a bs → ∃ t, exec .imgFlashTimeout s = .next t ∧ ends s t ∧
      t.svc.events = s.svc.events ||| oneBit 11 8 ∧ t.svc.pages = s.svc.pages ∧
      ∀ x, x < a.toNat ∨ a.toNat + bs.length ≤ x → flashRead t.flash x = flashRead s.flash x) ∧
    ∀ a, s.svc.busy = .erase a → ∃ t, exec .imgFlashTimeout s = .next t ∧ ends s t ∧
      t.svc.events = s.svc.events ||| oneBit 11 8 ∧
      ∀ x, x / 4096 ≠ a.toNat / 4096 → flashRead t.flash x = flashRead s.flash x

/-- The end of LOCK_INSTALL (R419): word 3 holds the fuses that blew, in the array and in the shadow; with two copies or
more LOCK_BLOWN is set and the window is shut from then on, else FLASH_ERR; the session ends and BUSY clears; where Deep
waits for it the device then enters Deep (R418). Completes: lockBlowEnd. -/
def Obligations.LockBlowEnds : Prop :=
  ∀ (s : State) (copies : BitVec 3), s.svc.busy = .lock →
    ∃ t, exec (.lockBlowEnd copies) s = .next t ∧ t.svc.busy = .none ∧ t.svc.session = false ∧
      t.boot.fuseArray[3] = s.boot.fuseArray[3] ||| copies.setWidth 32 ∧ t.boot.fuseShadow[3] = t.boot.fuseArray[3] ∧
      (lockBlown t.boot.fuseArray[3] = true → t.svc.events = s.svc.events ||| oneBit 11 10 ∧ t.windowAllowed = false) ∧
      (lockBlown t.boot.fuseArray[3] = false → t.svc.events = s.svc.events ||| oneBit 11 8) ∧ t.flash = s.flash ∧
      (s.dev.deepWait = true → t.dev.st = .deep ∧ t.dev.deepWait = false) ∧
      (s.dev.deepWait = false → t.dev = s.dev ∧ t.ports = s.ports)

/-- When the service logic runs (R408, R409) and how the bus ends a transfer (R423, R424): running logic acknowledges
its address, a match starts stopped logic in stretch or not-acknowledge mode, the logic then runs, Deep stops it, and
STOP ends the ignoring of the bus, after a refused code (R401; log 129) as after a timeout. The bus held low (R424,
R425): the transfer is abandoned with BUS_TIMEOUT and the bus ignored, a notice in progress is due again (log 46), and
the transfer counts in TRANSACTIONS where its address had been acknowledged (R426; log 88); a line still low makes the
port passive with STUCK; with both lines high for 50 µs it is neither passive nor ignores the bus for a timeout.
Completes: svcAddressMatch, svcLogicStart, svcLogicStop, svcStartStop, svcBusTimeout, svcPassive, svcPassiveEnd. -/
def Obligations.ServiceBusRuns : Prop :=
  (∀ (s : State),
    (s.pw.inputOn = true → s.boot.regulated = true → s.svc.running = false → s.svc.passive = false → s.svc.starting = .none →
      exec .svcAddressMatch s =
        .next { s with svc := { s.svc with starting := if s.stretches then .stretch else .nak } }) ∧
    (s.svcOpen = true → exec .svcAddressMatch s = .next { s with svc := { s.svc with addressed := true } }) ∧
    (s.svc.starting ≠ .none → s.boot.stage ≠ .kiln → s.boot.stage ≠ .sampling →
      exec .svcLogicStart s = .next { s with svc := { s.svc with
        running := true, starting := .none, addressed := s.svc.starting == .stretch } }) ∧
    (s.dev.st = .deep → s.svc.running = true →
      exec .svcLogicStop s = .next { s with svc := { s.svc with running := false, addressed := false } }) ∧
    ∀ stop addressed, exec (.svcStartStop stop addressed) s =
      .next { s with svc := { s.svc.noteDone with
        untilStop := s.svc.noteDone.untilStop && !stop
        ignoring := s.svc.ignoring && !stop
        transactions := if (addressed || s.svc.addressed) && s.svcOpen then satInc s.svc.transactions else s.svc.transactions
        addressed := false } }) ∧
  ∀ (s : State),
    (s.pw.inputOn = true → s.boot.regulated = true → s.svc.running = true → s.svc.passive = false →
      ∃ t, exec .svcBusTimeout s = .next t ∧ t.svc.events = s.svc.events ||| oneBit 11 2 ∧
        t.svc.ignoring = true ∧ t.svc.noteSending = false ∧ t.svc.noteDue = (s.svc.noteDue || s.svc.noteSending) ∧
        t.svc.transactions = (if s.svc.addressed && s.svcOpen then satInc s.svc.transactions else s.svc.transactions) ∧
        t.svc.addressed = false ∧
        t.ports = s.ports ∧ t.pw = s.pw ∧ t.tr = s.tr) ∧
    (s.svc.ignoring = true → s.svc.passive = false →
      ∃ t, exec .svcPassive s = .next t ∧ t.svc.events = s.svc.events ||| oneBit 11 3 ∧ t.svc.passive = true ∧
        t.svcOpen = false ∧ t.mayStartNotice = false ∧ t.ports = s.ports ∧ t.pw = s.pw ∧ t.tr = s.tr) ∧
    (s.svc.passive = true ∨ s.svc.ignoring = true →
      exec .svcPassiveEnd s = .next { s with svc := { s.svc with passive := false, ignoring := false } })

/-- A notice (R420 to R422): it is sent with the bytes of Table 15.4, is due again after a lost arbitration, and after a
not-acknowledge, which the Lulos answers with STOP (log 129), it waits for its retry, which sends the same bytes (log
46); after the third retry fails it is dropped with NOTE_FAIL, and no other notice is due than before. Completes:
svcNoticeStart, svcArbitrationLost, svcNoticeNak, svcNoticeRetry. -/
def Obligations.NoticesAreSent : Prop :=
  (∀ (s : State),
    (s.mayStartNotice = true → s.svc.noteDue = true → s.svc.noteWait = false →
      exec .svcNoticeStart s = .next { s with svc := { s.svc.noteDone with
        noteDue := false, noteSending := true, ignoring := false, note := s.noticeBytes, out := s.noticeBytes } }) ∧
    (s.svc.noteSending = true →
      exec .svcArbitrationLost s = .next { s with svc := { s.svc with noteSending := false, noteDue := true } }) ∧
    (s.svc.noteSending = true → s.svc.noteRetries < 3 →
      exec .svcNoticeNak s = .next { s with svc := { s.svc with
        noteSending := false, noteWait := true, untilStop := false } }) ∧
    (s.mayStartNotice = true → s.svc.noteWait = true →
      exec .svcNoticeRetry s = .next { s with svc := { s.svc with
        noteWait := false, noteSending := true, ignoring := false, noteRetries := s.svc.noteRetries + 1,
        out := s.svc.note } })) ∧
  ∀ (s : State), s.svc.noteSending = true → 3 ≤ s.svc.noteRetries →
    ∃ t, exec .svcNoticeNak s = .next t ∧ t.svc.events = s.svc.events ||| oneBit 11 6 ∧ t.svc.noteSending = false ∧ t.svc.untilStop = false ∧
      t.svc.noteWait = s.svc.noteWait ∧ t.svc.noteDue = s.svc.noteDue ∧ t.svc.noteRetries = 0 ∧ t.ports = s.ports

/-! ### Start-up (13) -/

/-- POWER_UP (R326, R352): above 36 V, or back within 37 V to 57 V where over-voltage switched it off, the input stage
comes on and start-up begins; the fuse array, the flash and what waits in the queue are kept, and every port, region,
the trunk, the host's requests, the service port, attention and the counters stand as after reset. What the sensors read
is kept too, of which the clause says nothing (log 52). CONVERTERS_IN_REGULATION (R352): Kiln begins, and FAULT_N is
driven by R23. Completes: powerUp, convertersInRegulation. -/
def Obligations.PowerUpStarts : Prop :=
  (∀ (s : State) (vin : BitVec 8) (rev : Bool), s.pw.inputOn = false →
    (s.pw.overOff = false → 36 * 4 < vin.toNat) → (s.pw.overOff = true → 37 * 4 ≤ vin.toNat ∧ vin.toNat ≤ 57 * 4) →
    ∃ t, exec (.powerUp vin rev) s = .next t ∧ t.pw.inputOn = true ∧ t.pw.vin = vin ∧ t.pw.bridgeRev = rev ∧
      t.pw.inRange = decide (37 * 4 ≤ vin.toNat ∧ vin.toNat ≤ 57 * 4) ∧ t.boot.stage = .powerUp ∧
      t.boot.fuseArray = s.boot.fuseArray ∧ t.flash = s.flash ∧ t.pending = s.pending ∧
      (∀ p, t.port p = {}) ∧ (∀ r, t.region r = {}) ∧ t.tr = {} ∧ t.host = {} ∧ t.svc = {} ∧ t.att = {} ∧ t.cnt = {}) ∧
  ∀ (s : State), s.pw.inputOn = true → s.boot.stage = .powerUp →
    ∃ t, exec .convertersInRegulation s = .next t ∧ t.boot.stage = .kiln ∧ t.boot.regulated = true ∧
      t.pw.faultN = (s.boot.kilnHalt || s.pw.crit != 0 || !s.pw.inRange || s.pw.mgmtFailed) ∧
      t.boot.fuseArray = s.boot.fuseArray ∧ t.flash = s.flash ∧ t.ports = s.ports

/-- Kiln (R355, R356). A word read from the fuse array fails its attempt by odd parity in any word but word 3, a SIG
other than 0xA, or a present mask that Table 0.1 does not give for the variant. Where no word fails, the shadow is
written, the trims are applied and sampling begins; where one fails with a retry left, the next attempt follows. The
fourth failed attempt halts the device: no port is powered, every item is gone, the trunk is set to half rate, the
service logic runs, FAULT_N is low, and the straps of SVC_ADR read the majority of their pins' sixteen readings (R360,
R410). Completes: kilnAttempt. -/
def Obligations.KilnAttempts : Prop :=
  (∀ (w : Fin 32) (x : Word),
    fuseWordOk w x = false ↔
      (w ≠ 3 ∧ evenParity x = false) ∨
      (w = 0 ∧ (bits x 27 4 ≠ 0xA#4 ∨ bits x 0 16 ≠
        (if bits x 25 2 = 0#2 then 0xFFFF#16 else if bits x 25 2 = 1#2 then 0x7777#16
         else if bits x 25 2 = 2#2 then 0x3333#16 else 0x1111#16)))) ∧
  (∀ (s : State) (flips : List (Fin 32 × Word)) (li : BitVec 4) (pins : AdrPins), s.pw.inputOn = true → s.boot.stage = .kiln →
    let v := s.kilnReads flips
    ((∀ w : Fin 32, fuseWordOk w v[w] = true) →
      exec (.kilnAttempt flips ⟨li, pins⟩) s = .next { s with boot := { s.boot with
        kilnRead := v, fuseShadow := v, kilnRetries := BitVec.ofNat 2 s.boot.attempts, attempts := 0, bedTrimmed := true,
        rerunKiln := false, lineIssue := li, stage := .sampling } }) ∧
    (∀ w : Fin 32, fuseWordOk w v[w] = false → (∀ u : Fin 32, u < w → fuseWordOk u v[u] = true) → s.boot.attempts < 3 →
      exec (.kilnAttempt flips ⟨li, pins⟩) s = .next { s with boot := { s.boot with
        kilnRead := v, kilnRetries := BitVec.ofNat 2 s.boot.attempts, kilnWord := BitVec.ofNat 5 w.val,
        attempts := s.boot.attempts + 1 } })) ∧
  ∀ (s : State) (flips : List (Fin 32 × Word)) (li : BitVec 4) (pins : AdrPins), s.pw.inputOn = true →
    s.boot.regulated = true → s.boot.stage = .kiln → s.svc.busy = .none → 3 ≤ s.boot.attempts →
    (∃ w : Fin 32, fuseWordOk w (s.kilnReads flips)[w] = false) →
    ∃ t, exec (.kilnAttempt flips ⟨li, pins⟩) s = .next t ∧ t.boot.stage = .halted ∧ t.boot.kilnHalt = true ∧
      t.pw.faultN = true ∧ (∀ p, (t.port p).st = .off ∧ (t.port p).rxq = {} ∧ (t.port p).txq = {}) ∧ t.tr = { half := true } ∧
      t.svc.running = true ∧ t.svc.session = false ∧ t.serving = false ∧ t.boot.fuseArray = s.boot.fuseArray ∧
      t.boot.lineIssue = li ∧
      (t.boot.straps.svcAdr.getLsbD 0 = decide (8 < popcount pins.adr0)) ∧
      (t.boot.straps.svcAdr.getLsbD 1 = decide (8 < popcount pins.adr1)) ∧
      (t.boot.straps.svcAdr.getLsbD 2 = decide (8 < popcount pins.adr2))

/-- The windows of Table 13.4 (R362), the sum of sixteen conversions in units of 1/1,000: level 0 up to 0.020, level 15
from 0.980, level k within 0.020 of k/15; a spread above 0.010, or a mean in no window, is indeterminate. -/
def Obligations.ResistorLevelWindows : Prop :=
  ∀ (r : PinReading) (k : BitVec 4),
    windowLevel r = some k ↔
      r.spread ≤ 10 ∧
        ((k = 0 ∧ r.sum ≤ 16 * 20) ∨ (k = 15 ∧ 16 * 980 ≤ r.sum) ∨
         (k ≠ 0 ∧ k ≠ 15 ∧ 16 * 1000 * k.toNat ≤ 15 * r.sum + 15 * 16 * 20 ∧
          15 * r.sum ≤ 16 * 1000 * k.toNat + 15 * 16 * 20))

/-- STRAP_RESISTOR_SAMPLING (R360 to R365): each strap is latched as the majority of its pin's sixteen readings, a tie
reading as not asserted, each present port takes the level of its pin, an indeterminate pin is marked, and Slip begins
with the service logic running. Completes: strapResistorSampling. -/
def Obligations.SamplingLatches : Prop :=
  ∀ (s : State) (pins : StrapPins), s.pw.inputOn = true → s.boot.stage = .sampling →
    let high (r : PinReads) : Bool := decide (8 < popcount r)
    ∃ t, exec (.strapResistorSampling pins) s = .next t ∧ t.boot.stage = .slip ∧ t.svc.running = true ∧
      t.svc.starting = .none ∧
      t.boot.straps.install = high pins.install ∧ t.boot.straps.bench = high pins.bench ∧
      t.boot.straps.devidx = BitVec.ofNat 2 ((high pins.devidx0).toNat + 2 * (high pins.devidx1).toNat) ∧
      t.boot.straps.trkHalf = high pins.trkHalf ∧
      t.boot.straps.svcAdr = BitVec.ofNat 3 ((high pins.svcAdr.adr0).toNat + 2 * (high pins.svcAdr.adr1).toNat +
        4 * (high pins.svcAdr.adr2).toNat) ∧
      (∀ p, s.present p = true → (t.port p).psel.indet = (windowLevel pins.psel[p]).isNone ∧
        (t.port p).psel.indetEvent = (windowLevel pins.psel[p]).isNone ∧
        ∀ k, windowLevel pins.psel[p] = some k → (t.port p).psel.level = k ∧ (t.port p).psel.profile = k) ∧
      (∀ p, s.present p = false → t.port p = s.port p) ∧
      t.boot.svcTimIndet = (windowLevel pins.svcTim).isNone ∧
      ∀ k, windowLevel pins.svcTim = some k → t.boot.svcTimLevel = k

/-- Slip's outcome (R387): no image, failed, refused or good, in that order. SLIP at start-up (R367, R368, R393, R446):
the outcome is shown, a good image and only a good image fills the shadow, any other loads no field, leaves the built-in
defaults and holds the ports in Ready where IMAGE_REQUIRED is blown; every present port's IMG registers and reservations
take their values from the shadow, by its profile (R364), and its THRESH stays; training follows. Completes: slip. -/
def Obligations.SlipLoadsShadow : Prop :=
  (∀ (present : BitVec 16) (m : List Host.Cell),
    (slipOutcome present m = 1#2 ↔ img32 m 0 ≠ 0x4F4C554C#32) ∧
    (slipOutcome present m = 2#2 ↔ img32 m 0 = 0x4F4C554C#32 ∧
      (¬ (1600 ≤ imgLength m ∧ imgLength m ≤ 65532 ∧ imgLength m % 4 = 0) ∨
        img32 m (imgLength m) ≠ crc32 (flashRange m 0 (imgLength m)))) ∧
    (slipOutcome present m = 0#2 ↔ img32 m 0 = 0x4F4C554C#32 ∧ lengthOk m = true ∧ crcOk m = true ∧
      contentOk present m = true)) ∧
  ∀ (s : State), s.pw.inputOn = true → s.boot.stage = .slip →
    ∃ t, exec .slip s = .next t ∧ t.boot.stage = .training ∧ t.boot.slipResult = slipOutcome s.presentMask s.flash ∧
      (slipOutcome s.presentMask s.flash = 0#2 → t.boot.image = imgShadow s.flash ∧ t.boot.defaults = false ∧
        t.boot.heldReady = false) ∧
      (slipOutcome s.presentMask s.flash ≠ 0#2 → t.boot.image = {} ∧ t.boot.defaults = true ∧
        t.boot.heldReady = s.imageRequired ∧ t.boot.startEvents.getLsbD 0 = true) ∧
      t.boot.imgDevice = imgDeviceOf t.boot.image ∧ t.boot.trkCfg = t.boot.image.trkCfg ∧
      t.boot.frames = t.boot.image.frames ∧ t.flash = s.flash ∧
      ∀ p, s.present p = true →
        let x := s.port p
        let k : BitVec 4 := if x.benchEn then x.benchLevel else if x.psel.indet then bits t.boot.image.dev0 0 4 else x.psel.profile
        (t.port p).resvRx = bits t.boot.image.resv[p] 0 12 ∧ (t.port p).resvTx = bits t.boot.image.resv[p] 16 12 ∧
        ∀ i : Fin 24, (t.port p).cfg[i] =
          if i.val = 20 ∨ i.val = 21 then x.cfg[i] else (t.boot.image.profiles[k.toNat]'k.isLt)[i]

/-- LINK_UP at the end of start-up's training is the release (R369): STAGE and RELEASE_MS are set, RELEASED is raised,
POWER_EVENTS is reset (no state command being in progress; log 54), the lanes' code errors are 0 (R446), the link is up
at full rate unless a strap, a fuse, a failed full-rate attempt or the host's `flags` (bit 0: full rate offered, bit 2:
half-rate attempt) forbid it, all pairs that trained are commanded, and every present port is on its way to Ready, a
rise that the model counts as none of R16's power transitions (log 113); its line check begins at once on the first two
ports of each region alone, which hold the check channels first (R73; log 43). RELEASE_LOAD_CALIBRATION: once every line
check of the release has ended, its ports drive PRBS-7 on their transmit-role pairs, but those of light training and
those that are frozen (log 149), and at its end they are in Ready with LOADED set where they drove (R73, R77;
Protection: log 130). Completes: linkUp, releaseLoadCalibration. -/
def Obligations.LinkUpReleases : Prop :=
  (∀ (s : State) (tn : Trained) (halfAttempt : Bool) (flags : Byte) (ms : BitVec 8), s.pw.inputOn = true →
    s.boot.stage = .training → s.tr.link = .training → s.dev.st = .awake → s.dev.toSleep = false →
    s.dev.exiting = false → tn.pairUp ≠ 0 →
    ∃ t, exec (.linkUp tn halfAttempt flags ms) s = .next t ∧ t.boot.stage = .released ∧ t.boot.releaseMs = ms ∧
      t.svc.events.getLsbD 0 = true ∧ (s.dev.byState = false → t.pw.events = 0) ∧ t.tr.link = .up ∧
      (∀ k : Fin 4, bits t.tr.lanes[k] 0 8 = 0) ∧
      t.tr.half = (s.halfForced || halfAttempt || !flags.getLsbD 0 || flags.getLsbD 2) ∧
      t.dev.cmdWidth = BitVec.ofNat 3 (popcount tn.pairUp) ∧ t.dev.changing = false ∧
      (∀ p, s.present p = true → (t.port p).commanded = .ready ∧
        (t.port p).trans = some { target := .ready, source := .off, byCmd := false, supply := false, checked := false } ∧
        (t.port p).line.checking = decide (p.val % 4 < 2)) ∧
      t.boot.straps = s.boot.straps ∧ t.flash = s.flash) ∧
  ∀ (s : State), s.serving = true →
    (∃ p, s.present p = true ∧ (s.port p).releasing = true) →
    (∀ p, s.present p = true → (s.port p).releasing = true →
      ∃ t, (s.port p).trans = some t ∧ t.checked = true ∧ t.target = .ready) →
    (∀ p pr, s.present p = true → (s.port p).releasing = true → (s.port p).st = .off → (s.port p).lightTrain = false →
      (s.port p).frozen = false → (s.port p).line.a.prot = false → (s.port p).line.b.prot = false → pr = (s.port p).line.txRole (s.port p).multidrop →
      ((s.port p).line.pair pr).cond = 0#4 → s.driverOn p pr = true ∧ s.driverOn p (otherPair pr) = false) ∧
    ∃ t, exec .releaseLoadCalibration s = .next t ∧
      ∀ p, s.present p = true → (s.port p).releasing = true → (t.port p).st = .ready ∧
        (t.port p).line.loaded = ((s.port p).line.loaded ||
          (!(s.port p).lightTrain && !(s.port p).frozen && !((s.port p).line.a.prot || (s.port p).line.b.prot)))

/-! ### Power, temperature and integrity (12, 10, 13, 07) -/

/-- The loss of phantom power (R287, R326): below 33 V, or above 60 V, the input stage is off and every item, waiting
request and register of the ports, regions, trunk, attention unit, counters and service port is lost, the image and the
straps with them; the fuses are kept and, with no operation in progress, every byte of the flash. What the sensors read
is kept too, of which the clause says nothing (log 52). Completes: phantomUndervoltage, phantomOvervoltage. -/
def Obligations.PowerLossLosesAll : Prop :=
  ∀ (s : State) (vin : BitVec 8), s.pw.inputOn = true → s.svc.busy = .none →
    let lost (t : State) (over_ : Bool) : Prop := t.pw.inputOn = false ∧ t.pw.overOff = over_ ∧
      t.pw.vin = vin ∧ t.serving = false ∧ (∀ p, t.port p = {}) ∧ (∀ r, t.region r = {}) ∧ t.tr = {} ∧ t.host = {} ∧
      t.att = {} ∧ t.cnt = {} ∧ t.svc = {} ∧ t.boot.image = {} ∧ t.boot.straps = {} ∧ t.boot.stage = .powerUp ∧
      t.boot.fuseArray = s.boot.fuseArray ∧ t.flash = s.flash ∧ t.pending = s.pending
    (vin.toNat < 33 * 4 → ∃ t, exec (.phantomUndervoltage vin) s = .next t ∧ lost t false) ∧
    (60 * 4 < vin.toNat → ∃ t, exec (.phantomOvervoltage vin) s = .next t ∧ lost t true)

/-- PHANTOM_RANGE, CONVERTER_FAULT and MANAGEMENT_LANE_FAILURE with the bedrock up (R23, R326, R328): RANGE is set where
the input leaves 37 V to 57 V, CONVERTER is set, and FAULT_N is low exactly while a condition of R23 holds. Completes:
phantomRange, converterFault, managementLaneFailure. -/
def Obligations.PowerEventsSet : Prop :=
  ∀ (s : State) (vin pin : BitVec 8) (failed : Bool), s.pw.inputOn = true → s.boot.regulated = true →
    let inside := decide (37 * 4 ≤ vin.toNat ∧ vin.toNat ≤ 57 * 4)
    (∃ t, exec (.phantomRange vin pin) s = .next t ∧ t.pw.vin = vin ∧ t.pw.pin = pin ∧ t.pw.inRange = inside ∧
      t.pw.events = (if s.pw.inRange && !inside then s.pw.events ||| oneBit 7 0 else s.pw.events) ∧
      t.pw.faultN = (s.boot.kilnHalt || s.pw.crit != 0 || !inside || s.pw.mgmtFailed) ∧ t.ports = s.ports) ∧
    (∃ t, exec .converterFault s = .next t ∧ t.pw.events = s.pw.events ||| oneBit 7 1 ∧ t.pw.faultN = s.pw.faultN ∧
      t.ports = s.ports ∧ t.svc = s.svc) ∧
    ∃ t, exec (.managementLaneFailure failed) s = .next t ∧ t.pw.mgmtFailed = failed ∧ t.pw.events = s.pw.events ∧
      t.pw.faultN = (s.boot.kilnHalt || s.pw.crit != 0 || !s.pw.inRange || failed) ∧ t.ports = s.ports

/-- Thermal warning (R22, R347): every command takes the sensor's reading (log 112); a reading of 115 °C or more begins
the sensor's warning, with THERM_WARN where its die had none (log 52), and one below 105 °C ends it. Thermal critical
(R293, R294, R347): at 135 °C or more both pairs of every present port that the sensor holds take condition 7 and
FAULT_N goes low; below 125 °C both pairs of every such port that no other critical sensor holds leave condition 7.
Completes: thermalWarning, thermalWarningEnd, thermalCritical, thermalCriticalEnd. -/
def Obligations.ThermalSensorsAct : Prop :=
  (∀ (s : State) (i : Fin 7) (temp : Byte), s.boot.regulated = true →
    let read : Power := { s.pw with temps := s.pw.temps.set i temp }
    (115 ≤ temp.toNat → s.pw.warn.getLsbD i.val = false → ∃ t, exec (.thermalWarning ⟨i, temp⟩) s = .next t ∧
      t.pw.temps = read.temps ∧ t.pw.warn = s.pw.warn ||| oneBit 7 i.val ∧
      t.pw.events = (if s.pw.warn &&& (if i.val ≤ 4 then 0x1F#7 else 0x60#7) = 0 then s.pw.events ||| oneBit 7 2
        else s.pw.events) ∧ t.pw.faultN = s.pw.faultN ∧ t.ports = s.ports) ∧
    (temp.toNat < 115 → exec (.thermalWarning ⟨i, temp⟩) s = .next { s with pw := read }) ∧
    (temp.toNat < 105 → s.pw.crit.getLsbD i.val = false →
      exec (.thermalWarningEnd ⟨i, temp⟩) s = .next { s with pw := { read with warn := s.pw.warn &&& ~~~(oneBit 7 i.val) } }) ∧
    (105 ≤ temp.toNat → exec (.thermalWarningEnd ⟨i, temp⟩) s = .next { s with pw := read })) ∧
  ∀ (s : State) (i : Fin 7) (temp : Byte) (mids : List Mid), s.boot.regulated = true → s.serving = true →
    (135 ≤ temp.toNat → s.pw.crit.getLsbD i.val = false → ∃ t, exec (.thermalCritical ⟨i, temp⟩ mids) s = .next t ∧
      t.pw.temps = s.pw.temps.set i temp ∧
      t.pw.crit = s.pw.crit ||| oneBit 7 i.val ∧ t.pw.warn = s.pw.warn ||| oneBit 7 i.val ∧ t.pw.faultN = true ∧
      (s.pw.crit &&& (if i.val ≤ 4 then 0x1F#7 else 0x60#7) = 0 → t.pw.events.getLsbD 3 = true) ∧
      ∀ p, s.present p = true → (4 ≤ i.val ∨ i.val = p.val / 4) →
        (t.port p).line.a.prot = true ∧ (t.port p).line.b.prot = true) ∧
    (temp.toNat < 125 → s.pw.crit.getLsbD i.val = true → ∃ t, exec (.thermalCriticalEnd ⟨i, temp⟩) s = .next t ∧
      t.pw.temps = s.pw.temps.set i temp ∧ t.pw.crit = s.pw.crit &&& ~~~(oneBit 7 i.val) ∧ t.pw.warn = s.pw.warn ∧
      t.pw.faultN = (s.boot.kilnHalt || t.pw.crit != 0 || !s.pw.inRange || s.pw.mgmtFailed) ∧
      ∀ p, s.present p = true → (4 ≤ i.val ∨ i.val = p.val / 4) →
        (∀ j : Fin 7, t.pw.crit.getLsbD j.val = true → ¬ (4 ≤ j.val ∨ j.val = p.val / 4)) →
        (t.port p).line.a.prot = false ∧ (t.port p).line.b.prot = false)

/-- The background scan (R289, R290, R359): a clean scan of good registers changes nothing; an odd number of flips in a
profile word freezes its port, is recorded, and is an event of source 144, which counts it (R302); a fuse shadow word
that fails is read again and SHADOW_RELOAD set, and where all four reads fail the device halts. An odd number of flips in a
reservation freezes every present port of its region; one in a FRAME_TABLE, BENCH_PSEL or TRK_CFG word, or in IMG_DEVICE,
puts the built-in default in its place, and no port freezes (R291); each is recorded. Completes: parityScan. -/
def Obligations.ParityScanActs : Prop :=
  ∀ (s : State), s.serving = true →
    (s.boot.cfgBad = [] → exec (.parityScan .clean) s = .next s) ∧
    (∀ (a : BitVec 16) (f : Word) (p : PortId) (k : Fin 24), regAt a.toNat = some (.port p (.cfg k)) →
      s.present p = true → s.boot.cfgBad.contains a = false → popcount (f &&& profileMask k.val) % 2 = 1 →
      s.parityRecord.getLsbD 31 = false →
      ∃ t, exec (.parityScan (.cfg a f)) s = .next t ∧ (t.port p).frozen = true ∧
        t.parityRecord = 0x80000000#32 ||| a.setWidth 32 ∧ t.flash = s.flash ∧ t.svc = s.svc ∧
        (s.att.saved = false →
          let x := s.att.srcs[(144 : SrcId)]
          let y := t.att.srcs[(144 : SrcId)]
          y.count = satInc x.count ∧ y.asserted = true ∧ y.claimed = x.claimed ∧
            (if x.claimed = true then y.repend = true else y.pend = true))) ∧
    (∀ (a : BitVec 16) (f : Word) (r : Reg), regAt a.toNat = some r → s.isCfg r = true → s.boot.cfgBad.contains a = false →
      popcount (f &&& heldMask r) % 2 = 1 → s.parityRecord.getLsbD 31 = false → (∀ p x, r ≠ .port p x) →
      ∃ t, exec (.parityScan (.cfg a f)) s = .next t ∧ t.flash = s.flash ∧ t.svc = s.svc ∧
        (∀ p d, r = .resv p d → t.parityRecord = 0x80010000#32 ||| a.setWidth 32 ∧
          (t.region (regionOf p)).frozen = true ∧
          ∀ o, s.present o = true → regionOf o = regionOf p → (t.port o).frozen = true) ∧
        ((∀ p d, r ≠ .resv p d) → t.parityRecord = 0x80020000#32 ||| a.setWidth 32 ∧ a ∉ t.boot.cfgBad ∧
          (∀ o, (t.port o).frozen = (s.port o).frozen) ∧
          (r = .trkCfg → t.boot.trkCfg = Config.builtinTrkCfg) ∧
          (r = .imgDevice → t.boot.imgDevice = Config.builtinImgDevice) ∧
          (∀ i, r = .frameTable i → t.frameWord i = fld 16 Config.builtinFrame ||| fld 0 Config.builtinFrame) ∧
          ∀ p, r = .benchPsel p → (t.port p).benchEn = false ∧ (t.port p).benchLevel = 0)) ∧
    ∀ (w : Fin 32) (f : Word) (reads : List Word), w ≠ 3 → evenParity (s.boot.fuseShadow[w] ^^^ f) = false →
      let tries := [0, 1, 2, 3].map (fun k => s.boot.fuseArray[w] ^^^ reads.getD k 0)
      (∀ x, tries.find? (fuseWordOk w) = some x → ∃ t, exec (.parityScan (.fuse w f reads)) s = .next t ∧
        t.boot.fuseShadow[w] = x ∧ t.boot.startEvents = s.boot.startEvents ||| oneBit 3 2 ∧ t.boot.stage = .released ∧
        t.ports = s.ports) ∧
      (tries.all (fun x => !fuseWordOk w x) = true → s.boot.regulated = true →
        ∃ t, exec (.parityScan (.fuse w f reads)) s = .next t ∧ t.boot.stage = .halted ∧ t.boot.kilnHalt = true ∧
          t.pw.faultN = true ∧ ∀ p, (t.port p).st = .off ∧ (t.port p).rxq = {} ∧ (t.port p).txq = {})

/-! ### Line units (03) -/

/-- The cause commands of R80 and Table 3.6: each sets its cause in its pair (both pairs for a lane failure, the pair
the port sends on for contention, the receive-role pair for undriven), a short is counted, the line mode is decided
again (R85), and nothing else of any port's state, profile or line moves; so it is too while a port leaves Off, where a
cause found before the line check has ended is kept for its results (log 148). The commands that end a cause (R80, R81):
the pair leaves it, the line mode is decided again, and in Run a recovered lane or wire starts a quick sense that holds
its pairs back (R83); the driver of a transmit-role pair that is good again after a short stays on at mark in full
duplex (Table 3.15; log 101). SHORT_RETRY (R81, R330): with no other driver of the port on, a trip counts and leaves the
driver off, no trip leaves it on; on a pair whose condition is another than a short (Table 3.6), one that is not used
(R63), in a freeze (R290), and outside Run, where the drivers are off, none is made (log 118). Completes:
portLaneFailure, shortDetected, shortToGround, foreignVoltage, contention, openWire, undriven, portLaneRecovered,
shortCleared, foreignVoltageEnd, openWireEnd, shortRetry. -/
def Obligations.PairCausesAct : Prop :=
  (∀ (s : State) (p : PortId) (mid : Mid), s.serving = true → s.present p = true →
    ∃ t, exec (.portLaneFailure p mid) s = .next t ∧ t.steady = s.relined p (fun l =>
      { l with a := { l.a with lane := true }, b := { l.b with lane := true } })) ∧
  (∀ (s : State) (p : PortId), s.serving = true → s.present p = true →
    ((s.port p).line.a.lane = true ∨ (s.port p).line.b.lane = true) →
    ∃ t, exec (.portLaneRecovered p) s = .next t ∧ t.steady = s.relined p (fun l =>
      { l with a := { l.a with lane := false }, b := { l.b with lane := false } }) ∧
      ((s.port p).inRun = true → (t.port p).line.sensing = true ∧ (t.port p).line.a.waits = true ∧
        (t.port p).line.b.waits = true)) ∧
  (∀ (s : State) (p : PortId), s.lineLive p = true ↔ s.serving = true ∧ s.present p = true ∧
    ((s.port p).st ≠ .off ∨ ∃ t, (s.port p).trans = some t)) ∧
  (∀ (s : State) (p : PortId) (pr : PairId) (mid : Mid), s.lineLive p = true →
    let found (f : CheckFound → CheckFound) (q : PairSt) : PairSt :=
      { q with found := if (s.port p).unchecked = true then f q.found else q.found }
    (∃ t, exec (.shortDetected p pr mid) s = .next t ∧ t.steady = s.relined p (fun l =>
      { l.modPair pr (fun q => found (fun f => { f with short := true }) { q with short := true, retry := false }) with
        trips := satInc l.trips })) ∧
    (∃ t, exec (.shortToGround p pr mid) s = .next t ∧ t.steady = s.relined p (fun l =>
      l.modPair pr (fun q => found (fun f => { f with ground := true }) { q with ground := true, retry := false }))) ∧
    (∃ t, exec (.foreignVoltage p pr mid) s = .next t ∧ t.steady = s.relined p (fun l =>
      l.modPair pr (fun q => found (fun f => { f with foreign := true }) { q with foreign := true }))) ∧
    (∃ t, exec (.openWire p pr mid) s = .next t ∧ t.steady = s.relined p (fun l =>
      l.modPair pr (fun q => found (fun f => { f with opn := true }) { q with opn := true }))) ∧
    (∃ t, exec (.contention p mid) s = .next t ∧ t.steady = s.relined p (fun l =>
      l.modPair (s.port p).sendPair (fun q => found (fun f => { f with contention := true }) { q with contention := true }))) ∧
    ∃ t, exec (.undriven p mid) s = .next t ∧ t.steady = s.relined p (fun l =>
      l.modPair l.rxRole (fun q => found (fun f => { f with undriven := true }) { q with undriven := true }))) ∧
  (∀ (s : State) (p : PortId) (pr : PairId), s.lineLive p = true →
    let found (f : CheckFound → CheckFound) (q : PairSt) : PairSt :=
      { q with found := if (s.port p).unchecked = true then f q.found else q.found }
    let q := (s.port p).line.pair pr
    ((q.short = true ∨ q.ground = true) → q.retry = true →
      ∃ t, exec (.shortCleared p pr) s = .next t ∧ t.steady = s.relined p (fun l =>
        l.modPair pr (fun q => { q with short := false, ground := false })) ∧
        (pr = (t.port p).line.txRole false → (t.port p).line.mode = .full → ((t.port p).line.pair pr).cond = 0#4 →
          s.lineUnitsOn p = true → t.driverOn p pr = true)) ∧
    (q.foreign = true → ∃ t, exec (.foreignVoltageEnd p pr) s = .next t ∧ t.steady = s.relined p (fun l =>
      l.modPair pr (fun q => found (fun f => { f with foreign := false }) { q with foreign := false }))) ∧
    (q.opn = true → ∃ t, exec (.openWireEnd p pr) s = .next t ∧ t.steady = s.relined p (fun l =>
        l.modPair pr (fun q => found (fun f => { f with opn := false }) { q with opn := false })) ∧
      ((s.port p).inRun = true → (t.port p).line.sensing = true ∧ ((t.port p).line.pair pr).waits = true))) ∧
  ∀ (s : State) (p : PortId) (pr : PairId) (trips : Bool), s.lineLive p = true →
    (((s.port p).line.pair pr).short = true ∨ ((s.port p).line.pair pr).ground = true) → (s.port p).tx.driver = false →
    ((s.port p).line.pair (otherPair pr)).retrying = false →
    let made := (s.port p).inRun = true ∧ (s.port p).frozen = false ∧ ((s.port p).line.pair pr).notUsed = false ∧
      (((s.port p).line.pair pr).cond = 3#4 ∨ ((s.port p).line.pair pr).cond = 5#4)
    (made → exec (.shortRetry p pr trips) s = .next (s.modLine p (fun l =>
      { l.modPair pr (fun q => { q with retry := !trips }) with trips := if trips then satInc l.trips else l.trips }))) ∧
    (¬ made → exec (.shortRetry p pr trips) s = .next s)

/-- Which condition a pair shows when several causes are present: the highest of Table 3.6, in its order 8, 7, 4, 3, 5,
6, 2, 1, 9, and 0 with none (R80). A multi-drop profile is in multi-drop while its bus pair is good, else in line-fault.
The line mode of a full-duplex profile (R85, Table 3.7): lane failure of either pair puts it in line-fault; both pairs
good, or an undriven receive pair, in full duplex; one good pair in fall-back where FB_EN is 1, else line-fault; a port
in fall-back keeps it while its shared pair is good and the table does not give line-fault, until R93 ends it. What a
powered port applies to its pairs (R67, R117): only the receive-role or bus pair is terminated, at 100 Ω in fast mode
and else as TERM says, 11 as off (log 114); it is biased always in full duplex, and on a bus where MD_BIAS is 1; a
driver is on only for what the port sends, or after a retry that did not trip, in the short that it met and once the
pair is good again (R81; log 101). -/
def Obligations.LineModeDecision : Prop :=
  (∀ q : PairSt,
    (q.cond = 8#4 ↔ q.lane = true) ∧
    (q.cond = 7#4 ↔ q.prot = true ∧ q.lane = false) ∧
    (q.cond = 4#4 ↔ q.foreign = true ∧ q.prot = false ∧ q.lane = false) ∧
    (q.cond = 3#4 ↔ q.short = true ∧ q.foreign = false ∧ q.prot = false ∧ q.lane = false) ∧
    (q.cond = 5#4 ↔ q.ground = true ∧ q.short = false ∧ q.foreign = false ∧ q.prot = false ∧ q.lane = false) ∧
    (q.cond = 6#4 ↔ q.contention = true ∧ q.ground = false ∧ q.short = false ∧ q.foreign = false ∧ q.prot = false ∧
      q.lane = false) ∧
    (q.cond = 2#4 ↔ q.opn = true ∧ q.contention = false ∧ q.ground = false ∧ q.short = false ∧ q.foreign = false ∧
      q.prot = false ∧ q.lane = false) ∧
    (q.cond = 1#4 ↔ q.undriven = true ∧ q.opn = false ∧ q.contention = false ∧ q.ground = false ∧ q.short = false ∧
      q.foreign = false ∧ q.prot = false ∧ q.lane = false) ∧
    (q.cond = 9#4 ↔ q.notUsed = true ∧ q.undriven = false ∧ q.opn = false ∧ q.contention = false ∧ q.ground = false ∧
      q.short = false ∧ q.foreign = false ∧ q.prot = false ∧ q.lane = false) ∧
    (q.cond = 0#4 ↔ q.lane = false ∧ q.prot = false ∧ q.foreign = false ∧ q.short = false ∧ q.ground = false ∧
      q.contention = false ∧ q.opn = false ∧ q.undriven = false ∧ q.notUsed = false)) ∧
  (∀ (x : Port) (l : LineSt), x.multidrop = true →
    x.decideMode l = if (l.pair l.rxRole).cond = 0#4 then .multidrop else .lineFault) ∧
  (∀ (x : Port) (l : LineSt), x.multidrop = false →
    let tx := (l.pair (l.txRole false)).cond
    let rx := (l.pair l.rxRole).cond
    let table : LineMode :=
      if tx = 8#4 ∨ rx = 8#4 then .lineFault
      else if tx = 0#4 ∧ (rx = 0#4 ∨ rx = 1#4) then .full
      else if tx = 0#4 ∧ x.fbEn = true then .fallback (l.txRole false)
      else if tx ≠ 0#4 ∧ rx = 0#4 ∧ x.fbEn = true then .fallback l.rxRole
      else .lineFault
    ((∀ pr, x.line.mode ≠ .fallback pr) → x.decideMode l = table) ∧
    ∀ sh, x.line.mode = .fallback sh →
      x.decideMode l = if (l.pair sh).cond = 0#4 ∧ table ≠ .lineFault then .fallback sh else table) ∧
  ∀ (s : State) (p : PortId) (pr : PairId), s.lineUnitsOn p = true →
    let x := s.port p
    let fast := x.fastEntry s.fastDisable x.rate.rxEntry
    (pr ≠ x.line.rxRole → s.termination p pr = .off ∧ s.bias p pr = false) ∧
    (pr = x.line.rxRole → s.termination p pr = if fast = true ∨ bits x.cfg[0] 28 2 = 1#2 then .ohm100
      else if bits x.cfg[0] 28 2 = 2#2 then .ohm120 else .off) ∧
    (pr = x.line.rxRole → (s.bias p pr = true ↔ (x.multidrop = false ∨ x.cfg[0].getLsbD 25 = true))) ∧
    (s.driverOn p pr = true ↔ (x.tx.driver = true ∧ pr = x.sendPair) ∨
      ((x.line.pair pr).retry = true ∧ ((x.line.pair pr).cond = 3#4 ∨ (x.line.pair pr).cond = 5#4 ∨
        (x.line.pair pr).cond = 0#4)))

/-- Roles of a full-duplex port (R71): drive on pair A alone makes it the receive pair, drive on pair B alone, or on
none, makes pair B the receive pair, which is then undriven; drive on both is contention on both, the roles standing
(log 99). A quick sense changes neither a role nor the polarity of a pair that stayed good, and takes both anew where
neither did (R82); a pair in Protection is not measured (R296). A short or a foreign voltage that the sensors of a
full-duplex port found before the line check ended stands beside its readings (R80). QUICK_SENSE_END and LINE_CHECK_END
(R71, R72, R83): the line takes the roles, polarity and conditions that the readings give, a retry ends where its pair
shows no short any more and is not good in its role (R81; log 101), and the check is marked as done; a frozen port is
not calibrated under load (log 149). Completes: quickSenseEnd, lineCheckEnd. -/
def Obligations.SensesAssign : Prop :=
  (∀ (l : LineSt) (sa sb : PairSense),
    let n := l.assign false sa sb
    let da := sa.drive ≠ .undriven
    let db := sb.drive ≠ .undriven
    (da ∧ ¬ db → n.swapped = true ∧ n.a.inv = (sa.drive == .neg) ∧ n.a.contention = false ∧ n.b.contention = false) ∧
    (¬ da ∧ db → n.swapped = false ∧ n.b.inv = (sb.drive == .neg) ∧ n.b.undriven = false) ∧
    (¬ da ∧ ¬ db → n.swapped = false ∧ n.b.undriven = true ∧ n.a.undriven = false) ∧
    (da ∧ db → n.swapped = l.swapped ∧ n.a.contention = true ∧ n.b.contention = true)) ∧
  (∀ (l : LineSt) (multidrop : Bool) (sa sb : PairSense),
    let n := l.sense multidrop sa sb
    (l.a.carries = true → n.a = l.a ∧ n.swapped = l.swapped) ∧ (l.b.carries = true → n.b = l.b ∧ n.swapped = l.swapped) ∧
    (multidrop = false → l.a.carries = false → l.b.carries = false → n.swapped = (l.assign false sa sb).swapped ∧
      n.a = { (l.assign false sa sb).a with waits := false } ∧ n.b = { (l.assign false sa sb).b with waits := false }) ∧
    (l.a.prot = true → n.loopA = 0xFFF#12 ∧ n.loaded = false) ∧ (l.b.prot = true → n.loopB = 0xFFF#12 ∧ n.loaded = false)) ∧
  (∀ (l : LineSt) (light : Bool) (sa sb : PairSense) (pr : PairId),
    let n := (l.check false light sa sb).pair pr
    n.found = {} ∧ ((l.pair pr).found.foreign = true → n.foreign = true) ∧
    ((l.pair pr).found.short = true → n.short = true) ∧ ((l.pair pr).found.ground = true → n.ground = true)) ∧
  ∀ (s : State) (p : PortId) (sa sb : PairSense),
    (s.lineLive p = true → (s.port p).line.sensing = true → ∃ t, exec (.quickSenseEnd p sa sb) s = .next t ∧
      let n := (s.port p).line.sense (s.port p).multidrop sa sb
      let n := if n.swapped = (s.port p).line.swapped then n else n.setBoost
      let n := ({ n with mode := (s.port p).decideMode n } : LineSt).endRetries
      (t.port p).line.a = n.a ∧ (t.port p).line.b = n.b ∧ (t.port p).line.swapped = n.swapped ∧
        (t.port p).line.eqBoost = n.eqBoost ∧ (t.port p).line.sensing = false ∧ (t.port p).st = (s.port p).st ∧
        (t.port p).cfg = (s.port p).cfg) ∧
    (s.serving = true → s.present p = true → (s.port p).line.checking = true →
      ∃ t, exec (.lineCheckEnd p sa sb) s = .next t ∧
        let n := (s.port p).line.check (s.port p).multidrop ((s.port p).lightTrain || (s.port p).frozen) sa sb
        (t.port p).line.a = n.a ∧ (t.port p).line.b = n.b ∧ (t.port p).line.swapped = n.swapped ∧
          (t.port p).line.lenEst = n.lenEst ∧ (t.port p).line.loopA = n.loopA ∧ (t.port p).line.loopB = n.loopB ∧
          (t.port p).line.checkDone = true ∧ (t.port p).line.checking = false ∧
          (t.port p).trans = (s.port p).trans.map (fun t => { t with checked := true }))

/-- The other line commands of a live port in Run: drive on a failed pair starts a quick sense, which holds back the
pairs that were undriven, open, in contention or in lane failure (R83); in line-fault the hold's expiry begins the
discard of the transmit queue and ends a flush that was pending (R88, R298), and a queue whose copies disagree is reset
with it (R213; log 145); the failed pair good again and the shared pair idle end fall-back (R93); a collision in
fall-back stops the transmitter with back-off (R91, R92); edges set the margin and, outside a break and above 2.5 Mbaud,
step the boost by one within 0 to 15 (R79, R68; log 103), on the pair that the port listens to, which in fall-back may
be the transmit-role pair (the model's choice, log 153). READY_ACTIVITY (R337), in Ready and on the way there from Run
(log 94), sets ACTIVITY, and the receive queue's pending loss becomes held and of unknown count. Completes:
stationDriveSeen, lineFaultHoldExpiry, fallbackExit, collision, eqTrack, readyActivity. -/
def Obligations.LineCommandsAct : Prop :=
  (∀ (s : State) (p : PortId), s.lineLive p = true → (s.port p).inRun = true →
    let x := s.port p
    let failed (q : PairSt) : Bool := q.undriven || q.opn || q.contention || q.lane
    ((failed x.line.a || failed x.line.b) = true →
      exec (.stationDriveSeen p) s = .next (s.modLine p (fun l => { l with
        a := { l.a with waits := l.a.waits || failed l.a }, b := { l.b with waits := l.b.waits || failed l.b },
        sensing := true }))) ∧
    (x.lineFault = true → x.frozen = false → x.line.lfDiscard = false →
      ∃ t, exec (.lineFaultHoldExpiry p) s = .next t ∧ (t.port p).line.lfDiscard = true ∧ (t.port p).txq.flush = .none ∧
        (s.sound p .tx = true → (t.port p).txq.items = 0 ∧ t.steady = s.steady) ∧
        (s.sound p .tx = false → (t.port p).resetsTx = satInc x.resetsTx)) ∧
    (∀ sh, x.line.mode = .fallback sh → (x.line.pair (otherPair sh)).carries = true → x.tableMode x.line = .full →
      x.tx.now = .idle → x.rx.phase = .hunting → ∃ t, exec (.fallbackExit ⟨p, .idle⟩) s = .next t ∧
        (t.port p).line.mode = .full ∧ (t.port p).tx.driver = false ∧ (t.port p).tx.backoff = false) ∧
    (∀ sh, x.line.mode = .fallback sh → x.frozen = false → x.tx.now ≠ .idle →
      ∃ t, exec (.collision p) s = .next t ∧ (t.port p).tx.now = .idle ∧ (t.port p).tx.driver = false ∧
        (t.port p).tx.backoff = true ∧ (t.port p).line.lineEvents.getLsbD 9 = true ∧ t.steady = s.steady) ∧
    (x.receives = true → ∀ (m : BitVec 8) (k : EqStep), ∃ t, exec (.eqTrack p m k) s = .next t ∧
      let boost := (t.port p).line.eqBoost
      let inUse := x.rx.phase = .hunting ∧ x.div s.fastDisable x.rate.rxEntry < 1280
      (t.port p).line.edgeMin = m ∧ (¬ inUse → boost = x.line.eqBoost) ∧
      (inUse → boost.toNat = match k with
        | .stay => x.line.eqBoost.toNat
        | .up => min 15 (x.line.eqBoost.toNat + 1)
        | .down => x.line.eqBoost.toNat - 1) ∧
      (t.port p).line.a = x.line.a ∧ (t.port p).line.b = x.line.b)) ∧
  ∀ (s : State) (p : PortId), s.lineLive p = true →
    ((s.port p).st = .ready ∨ ((s.port p).st = .run ∧ ∃ tr, (s.port p).trans = some tr ∧ tr.target = .ready)) →
    ∃ t, exec (.readyActivity p) s = .next t ∧ (t.port p).stEvents = (s.port p).stEvents ||| 1#2 ∧
      (∃ r, (t.port p).rxq.pend = some r ∧ r.held = true ∧ r.count = none) ∧ t.steady = s.steady

/-! ### Receiving (04, 05) -/

/-- A bit is the majority of its three samples about the centre, and the data bits come least significant first (R100,
R104). A received character carries one condition (R103, R104): framing before parity before noise. When the first stop
bit is decided 0 and every data and parity bit was also decided 0, no character is entered and the receiver is in a
break (R109). Any other character whose start bit is valid (R99) is offered to the queue with its condition where the
port runs neither flow control, addresses nor frames (R100 to R107), and in fast mode the centre follows the mean of the
positions of its data edges, one step at a time within -3 to +3 (R101). Each such edge is a change between two port
samples of the character up to the last that decides the first stop bit, and its position the sixteenths of a bit from
the nearest bit boundary, the model's reading (log 144). Completes: characterReceived. -/
def Obligations.CharactersReceived : Prop :=
  (∀ (x : Port) (c : BitVec 3) (r : RxChar) (k : Nat),
    let b := r.samples.getD (1 + k) 0xFFFF#16
    let at_ (j : Nat) : Bool := b.getLsbD ((7 + c.toInt) + j).toNat
    let vote := (at_ 0 && at_ 1) || (at_ 0 && at_ 2) || (at_ 1 && at_ 2)
    (k < x.dataBits → (x.decideBits c r).data.getLsbD k = vote) ∧
    (k = x.dataBits → x.parity ≠ 0 → (x.decideBits c r).parity = vote) ∧
    (k = x.dataBits + (if x.parity = 0 then 0 else 1) → (x.decideBits c r).stop = vote)) ∧
  (∀ (m : BitVec 3) (data : BitVec 9) (c : RxBits),
    let parityBad := match m.toNat with
      | 1 => c.parity ≠ (popcount data % 2 == 1)
      | 2 => c.parity ≠ (popcount data % 2 == 0)
      | 3 => c.parity = false
      | 4 => c.parity = true
      | _ => False
    (conditionOf m data c = 2#3 ↔ c.stop = false) ∧
    (conditionOf m data c = 1#3 ↔ c.stop = true ∧ parityBad) ∧
    (conditionOf m data c = 3#3 ↔ c.stop = true ∧ ¬ parityBad ∧ c.noise = true) ∧
    (conditionOf m data c = 0#3 ↔ c.stop = true ∧ ¬ parityBad ∧ c.noise = false)) ∧
  (∀ (c : BitVec 3) (es : List Int), c ≠ 4#3 → es ≠ [] →
    (es.length ≤ es.sum → (trackCentre c es).toInt = min 3 (c.toInt + 1)) ∧
    (es.sum ≤ -es.length → (trackCentre c es).toInt = max (-3) (c.toInt - 1)) ∧
    (-es.length < es.sum → es.sum < es.length → trackCentre c es = c)) ∧
  (∀ (x : Port) (c : BitVec 3) (r : RxChar) (e : Int),
    let at_ (j : Nat) : Bool := (r.samples.getD (j / 16) 0xFFFF#16).getLsbD (j % 16)
    let stop := 16 * (1 + x.dataBits + (if x.parity = 0 then 0 else 1))
    e ∈ x.dataEdges c r ↔ ∃ j : Nat, 0 < j ∧ (j : Int) ≤ stop + (9 + c.toInt) ∧ at_ j ≠ at_ (j - 1) ∧
      -8 ≤ e ∧ e ≤ 7 ∧ (16 : Int) ∣ (j - e)) ∧
  (∀ (s : State) (p : PortId) (c : RxChar), s.hears p = true → (s.port p).rx.phase = .hunting → startValid c = true →
    let b := (s.port p).decideBits ((s.port p).centreNow s.fastDisable) c
    b.data = 0 → b.parity = false → b.stop = false → (s.port p).af.rxFrame = .wait →
    exec (.characterReceived p c) s = .next (s.modPort p (fun x => { x with rx := { x.rx with phase := .inBreak } }))) ∧
  ∀ (s : State) (p : PortId) (c : RxChar), s.hears p = true → (s.port p).rx.phase = .hunting → startValid c = true →
    (s.port p).fcMode = 0 → (s.port p).addrMode = false → (s.port p).frameEn = false →
    let b := (s.port p).decideBits ((s.port p).centreNow s.fastDisable) c
    (b.stop = true ∨ b.parity = true ∨ b.data ≠ 0) →
    let o := s.offer p { item := charItem (conditionOf (s.port p).parity b.data b) b.data
                         lane := if (s.port p).rxUrgent = 1#2 then .urgent else .bulk }
    ((s.port p).fastEntry s.fastDisable (s.port p).rate.rxEntry = false → exec (.characterReceived p c) s = .next o) ∧
    ((s.port p).fastEntry s.fastDisable (s.port p).rate.rxEntry = true → exec (.characterReceived p c) s = .next
      (o.modPort p (fun x => { x with rx := { x.rx with
        centre := trackCentre x.rx.centre ((s.port p).dataEdges ((s.port p).centreNow s.fastDisable) c) } })))

/-- An item offered with the holding register empty, nothing waiting before it and room for it enters its queue, whose
copies agree (R107, R211): the queue then holds that item as the last of the urgent lane, where its lane is urgent and
neither a barrier nor a demotion stands against it (R191, R198), and else as the last of the bulk lane with URGENT 0
(R50); none is lost, and the register is empty again. What the Sieve takes from a queue (R195; promises A to C, R53 to
R56): always the oldest item of one lane, the other lane standing; between packets the closed urgent packet of the read
epoch; no urgent item ahead of the barrier that opens its epoch, and no barrier while an urgent item of the read epoch
waits; and within a packet only its own lane (R52). -/
def Obligations.OfferedItemEnters : Prop :=
  (∀ (s : State) (p : PortId) (i : Item) (lane : QLane), (s.port p).rx.holding = none → (s.port p).rxq.pend = none →
    (s.port p).rxq.flushOwed = 0 → (s.port p).rxq.flushing = false → i.cells ≤ (s.port p).rxq.freeCells (s.pool p) →
    s.sound p .rx = true →
    let q := (s.port p).rxq
    let t := s.offer p { item := i, lane := lane }
    let r := (t.port p).rxq
    let asUrgent := lane = .urgent ∧ i.barrier = false ∧ q.mustDemote ((s.port p).fmt .rx) i = false
    (t.port p).rx.holding = none ∧ r.pend = none ∧ r.items = q.items + 1 ∧
      (t.port p).rx.overruns = (s.port p).rx.overruns ∧ t.steady = s.steady ∧
      (asUrgent → r.urgItems = q.urgItems ++ [i.withUrgent true] ∧ r.bulkItems = q.bulkItems) ∧
      (¬ asUrgent → r.bulkItems = q.bulkItems ++ [i.withUrgent false] ∧ r.urgItems = q.urgItems)) ∧
  (∀ (q : Queue) (pool : Nat) (r : Taken), q.sieveNext pool = some r →
    (r.lane = .urgent ∧ q.urgItems = r.e.item :: r.q.urgItems ∧ r.q.bulkItems = q.bulkItems) ∨
    (r.lane = .bulk ∧ q.bulkItems = r.e.item :: r.q.bulkItems ∧ r.q.urgItems = q.urgItems)) ∧
  ∀ (q : Queue) (pool : Nat) (u : Entry) (us : List Entry), q.urg = u :: us →
    (q.servingNow = .bulk → ∀ r, q.sieveNext pool = some r → r.lane = .bulk) ∧
    (q.servingNow = .urgent → ∀ r, q.sieveNext pool = some r → r.lane = .urgent) ∧
    (q.servingNow = .none → ¬ (q.pinValid = true ∧ q.bulkLeft = q.pinPos) →
      (u.tag = q.rEpoch → u.pinned = false → q.headClosed = true → ∃ r, q.sieveNext pool = some r ∧ r.lane = .urgent) ∧
      (u.tag ≠ q.rEpoch → ∀ r, q.sieveNext pool = some r → r.lane = .bulk) ∧
      (∀ b bs, q.chain = b :: bs → b.item.barrier = true →
        (u.tag = q.rEpoch → (u.pinned = true ∨ q.headClosed = false) → q.sieveNext pool = none) ∧
        (u.tag ≠ q.rEpoch → ∃ r, q.sieveNext pool = some r ∧ r.e = b ∧ r.q.rEpoch = q.rEpoch + 1)))

/-- Breaks (R110, R112, R113, R141): in frame mode one of 13 to 20 bit times opens a header and writes nothing; any
other is offered as a BREAK mark of its length; one that lasts is stuck low: a BREAK with the stuck flag, then LINE 0x10
for the pair listened to (in fall-back the shared pair, log 104), until a character time at mark. Completes: breakEnd,
stuckLow. -/
def Obligations.BreaksEnd : Prop :=
  ∀ (s : State) (p : PortId) (len : Nat), s.hears p = true → (s.port p).rx.phase = .inBreak →
    let x := s.port p
    let inPhase (f : RxPhase) : State := s.modPort p (fun x => { x with rx := { x.rx with phase := f } })
    (x.frameEn = true → 13 ≤ len → len ≤ 20 →
      exec (.breakEnd p len) s =
        .next ((inPhase .hunting).modPort p (fun x => { x with af := { x.af with rxFrame := .sync } }))) ∧
    ((x.frameEn = false ∨ len < 13 ∨ 20 < len) →
      exec (.breakEnd p len) s = .next ((inPhase .hunting).offer p { item := breakMark false len, lane := x.markLane })) ∧
    exec (.stuckLow p) s = .next (((inPhase .stuck).offer p { item := breakMark true 0xFFFF, lane := x.markLane }).offerLine p
      (pairScope x.line.listen) 0x10 x.markLane) ∧
    ∃ t, exec (.stuckLow p) s = .next t ∧ (t.port p).rx.phase = .stuck ∧ (t.port p).line.lineEvents.getLsbD 15 = true ∧
      t.steady = s.steady

/-- A glitch (R99, R111): a start that the receiver rejects, one whose sample 8 reads 1 among them, and a rejected rise
in a break count in GLITCHES and set its event bit, and the receiver stays where it is. A character that arrives at a
port in line-fault whose receive pair is good, in contention or in Protection is a State loss of unknown count, whose
GAP enters where the queue has room and its copies agree (log 119). A character time at mark ends stuck low (R112); the
gap limit ends an open frame with the mark FRAME_ERR 0x7 and counts it (R144, R146). A bit of AF_EVENTS that an item
carries is set as the item enters its queue, and not while it waits in the holding register (R154). The Sieve takes the
held item, which then is the queue's last (R107); a pending loss becomes a GAP of its reason and count, the last item of
the bulk lane, and is pending no more (R46, R47). Completes: startRejected, breakRiseRejected, stuckLowEnd,
frameGapTimeout, holdingRegisterDrain, gapWrite. -/
def Obligations.ReceiverWaitsEnd : Prop :=
  (∀ (s : State) (p : PortId), s.hears p = true →
    let counted (t : State) : Prop :=
      (t.port p).rx = { (s.port p).rx with glitches := satInc (s.port p).rx.glitches,
                                           charEvents := (s.port p).rx.charEvents ||| 2#7 } ∧
      t.steady = s.steady ∧ (t.port p).rxq = (s.port p).rxq
    ((s.port p).rx.phase = .hunting → ∃ t, exec (.startRejected p) s = .next t ∧ counted t) ∧
    ((s.port p).rx.phase = .hunting → ∀ c, startValid c = false → exec (.characterReceived p c) s = exec (.startRejected p) s) ∧
    ((s.port p).rx.phase = .inBreak → ∃ t, exec (.breakRiseRejected p) s = .next t ∧ counted t)) ∧
  (∀ (s : State) (p : PortId), s.serving = true → s.present p = true →
    ((s.port p).rx.phase = .stuck →
      exec (.stuckLowEnd p) s = .next (s.modPort p (fun x => { x with rx := { x.rx with phase := .hunting } }))) ∧
    ((s.port p).samples = true → (s.port p).rx.phase = .hunting → (s.port p).af.rxFrame ≠ .wait →
      let lane := if (s.port p).af.rxFrame = .payload then (s.port p).markLane else (s.port p).plainLane
      let u := s.modPort p (fun x => { x with af := { x.af with
        frameErrs := satInc x.af.frameErrs, rxFrame := .wait, rxRemain := 0 } })
      exec (.frameGapTimeout p) s = .next (u.offer p { item := mark1 6 7, lane := lane, af := some 1 })) ∧
    ((s.port p).inRun = true → (s.port p).frozen = false → (s.port p).lineFault = true →
      ((s.port p).line.pair (s.port p).line.rxRole).cond ∈ [0#4, 6#4, 7#4] → ∀ c, startValid c = true →
      ∃ t, exec (.characterReceived p c) s = .next t ∧
        t.steady = s.steady ∧
        ((s.port p).rxq.pend = none → (s.port p).rxq.flushOwed = 0 → (s.port p).rxq.flushing = false →
          (s.port p).rx.holding = none → 2 ≤ (s.port p).rxq.freeCells (s.pool p) → s.sound p .rx = true →
          (t.port p).rxq.bulkItems = (s.port p).rxq.bulkItems ++ [gapMark 3 none] ∧ (t.port p).rxq.pend = none))) ∧
  (∀ (s : State) (p : PortId) (i : Item) (lane : QLane) (b : Fin 4), (s.port p).rx.holding = none →
    (s.port p).rxq.pend = none → (s.port p).rxq.flushOwed = 0 → (s.port p).rxq.flushing = false →
    let h : HeldItem := { item := i, lane := lane, af := some b }
    let t := s.offer p h
    t.steady = s.steady ∧
    (i.cells ≤ (s.port p).rxq.freeCells (s.pool p) → s.sound p .rx = true → (t.port p).rx.holding = none ∧
      (t.port p).af = { (s.port p).af with events := (s.port p).af.events ||| oneBit 4 b.val }) ∧
    (lane = .bulk → (s.port p).rxq.freeCells (s.pool p) < i.cells →
      (t.port p).rx.holding = some h ∧ (t.port p).af = (s.port p).af)) ∧
  ∀ (s : State) (p : PortId), s.storeOn = true → s.present p = true →
    (∀ h, (s.port p).rx.holding = some h → (s.port p).rxq.pend = none → (s.port p).rxq.flushOwed = 0 →
      (s.port p).rxq.flushing = false → h.item.cells ≤ (s.port p).rxq.freeCells (s.pool p) → s.sound p .rx = true →
      ∃ t, exec (.holdingRegisterDrain p) s = .next t ∧ (t.port p).rx.holding = none ∧
        (t.port p).rxq.items = (s.port p).rxq.items + 1 ∧
        ((t.port p).rxq.urgItems = (s.port p).rxq.urgItems ++ [h.item.withUrgent true] ∨
          (t.port p).rxq.bulkItems = (s.port p).rxq.bulkItems ++ [h.item.withUrgent false]) ∧ t.steady = s.steady) ∧
    ∀ (d : Dir) (r : Loss), (s.queue p d).pend = some r → r.held = false → (s.queue p d).flushOwed = 0 →
      (s.queue p d).flushing = false → (d = .tx → (s.port p).txSinks = false) →
      2 ≤ (s.queue p d).freeCells (s.pool p) → s.sound p d = true →
      ∃ t, exec (.gapWrite p d) s = .next t ∧ (t.queue p d).pend = none ∧
        (t.queue p d).bulkItems = (s.queue p d).bulkItems ++ [gapMark r.reason r.count] ∧
        (t.queue p d).urgItems = (s.queue p d).urgItems ∧ t.steady = s.steady ∧
        (d = .tx → (t.port p).gaps = (s.port p).gaps + 1)

/-! ### Transmitting, flow control and ties (04, 05, 06) -/

/-- A received hold sets HELD, a received resume clears it; a hold while HELD is set and a resume while it is clear
leave the flow controller's HELD and its count (R159), and a code that is both is a hold (the model's choice, log 155);
a credit code adds its credits where the port runs them (R165). A character received good, or with noise, that is a flow
code of the port's mode (R156: 0x1F0 and above with nine data bits, else HOLD_CODE and RESUME_CODE) acts so and is
removed: no item is offered (R157); with credits any other character uses one granted credit, or sets CREDIT_VIOL
(R166). Completes: characterReceived (with flow control). -/
def Obligations.HoldAndResume : Prop :=
  (∀ (s : State) (p : PortId) (ch : BitVec 9),
    let x := s.port p
    let y := (s.actFlowCode p ch).port p
    (x.isHold ch = true → y.flow.held = true ∧
      y.flow.holdsRx = (if x.flow.held = true then x.flow.holdsRx else satInc x.flow.holdsRx)) ∧
    (x.isHold ch = true → x.flow.held = true → s.actFlowCode p ch = s) ∧
    (x.isHold ch = false → x.isResume ch = true → y.flow.held = false ∧ y.flow.holdsRx = x.flow.holdsRx) ∧
    (x.isHold ch = false → x.isResume ch = true → x.flow.held = false → s.actFlowCode p ch = s) ∧
    (x.isHold ch = false → x.isResume ch = false → x.credits = true →
      y.flow.txCredit.toNat = min 65535 (x.flow.txCredit.toNat + 2 ^ (ch.toNat - 0x1F2)) ∧ y.flow.held = x.flow.held) ∧
    y.rxq = x.rxq ∧ y.rx = x.rx) ∧
  ∀ (s : State) (p : PortId) (c : RxChar), s.hears p = true → (s.port p).rx.phase = .hunting → startValid c = true →
    (s.port p).fcMode ≠ 0 →
    let x := s.port p
    let fast := x.fastEntry s.fastDisable x.rate.rxEntry
    let b := x.decideBits (x.centreNow s.fastDisable) c
    let track (t : State) : State :=
      if fast = true then t.modPort p (fun z => { z with rx := { z.rx with
        centre := trackCentre z.rx.centre (x.dataEdges (x.centreNow s.fastDisable) c) } })
      else t
    let code := if x.dataBits = 9 then 0x1F0 ≤ b.data.toNat
      else b.data = x.holdCode.setWidth 9 ∨ b.data = x.resumeCode.setWidth 9
    let cond := conditionOf x.parity b.data b
    ((cond = 0 ∨ cond = 3) → code → exec (.characterReceived p c) s = .next (track (s.actFlowCode p b.data))) ∧
    (b.stop = true → (¬ (cond = 0 ∨ cond = 3) ∨ ¬ code) → x.addrMode = false → x.frameEn = false →
      exec (.characterReceived p c) s = .next (track ((s.useGrant p).offer p
        { item := charItem cond b.data, lane := (s.port p).plainLane }))) ∧
    (x.credits = true → x.flow.rxOutstanding ≠ 0 →
      ((s.useGrant p).port p).flow.rxOutstanding = x.flow.rxOutstanding - 1) ∧
    (x.credits = true → x.flow.rxOutstanding = 0 →
      ((s.useGrant p).port p).flow.events = x.flow.events ||| 2#3 ∧ ((s.useGrant p).port p).flow.rxOutstanding = 0) ∧
    (x.credits = false → s.useGrant p = s)

/-- A character received in 9-bit address mode (R128 to R134, Table 5.2), and in frame mode (R138 to R143, R147, Table
5.7), that is neither a flow code nor a break; in fast mode the centre then follows (R101). ADDRESS MODE. A character
with bit 8 clear enters in its packet's lane, and while the detector is muted it is discarded and counted. With bit 8
set: one received with framing or parity wrong counts as damaged, mutes where MUTE is 1 and enters in the plain lane;
one that the lowest matching pair, else the broadcast address, names unmutes, and its ADDR_MATCH mark enters and then
the character, both in the lane of R127; one that none names is discarded where MUTE is 1, which mutes, and else enters
in the plain lane. FRAME MODE. Outside a frame a character enters in the plain lane; SYNC, a protected identifier whose
parity and table entry are good, the length where the entry asks for one, and the check byte open a frame with its
FRAME_START mark; each that is wrong writes FRAME_ERR with its code, and so does a break within; RX_PID takes every
identifier (log 109). A payload character enters in the frame's lane, and after the last, or at once where the length is
0, FRAME_END follows and FRAMES_OK counts. Completes: characterReceived (address and frame mode). -/
def Obligations.DetectorsAct : Prop :=
  ∀ (s : State) (p : PortId) (c : RxChar), s.hears p = true → (s.port p).rx.phase = .hunting → startValid c = true →
    let x := s.port p
    let b := x.decideBits (x.centreNow s.fastDisable) c
    let cond := conditionOf x.parity b.data b
    let bad := cond = 1 ∨ cond = 2
    let byte : Byte := b.data.setWidth 8
    let track (t : State) : State :=
      if x.fastEntry s.fastDisable x.rate.rxEntry = true then
        t.modPort p (fun z => { z with rx := { z.rx with
          centre := trackCentre z.rx.centre (x.dataEdges (x.centreNow s.fastDisable) c) } })
      else t
    let u := s.useGrant p
    let y := u.port p
    let runs (t : State) : Prop := exec (.characterReceived p c) s = .next (track t)
    let af (f : AfSt → AfSt) : State := u.modPort p (fun z => { z with af := f z.af })
    let enters (t : State) (lane : QLane) : State := t.offer p { item := charItem cond b.data, lane := lane }
    let error (pid : Byte) (code : BitVec 10) : State :=
      (af (fun a => { a with rxPid := pid, frameErrs := satInc a.frameErrs, rxFrame := .wait, rxRemain := 0 })).offer p
        { item := mark1 6 code, lane := y.plainLane, af := some 1 }
    let ended (t : State) : State :=
      ((t.modPort p (fun z => { z with af := { z.af with
        framesOk := satInc z.af.framesOk, rxFrame := .wait, rxRemain := 0 } })).portCount 29 p).offer p
        { item := mark1 5 (BitVec.ofNat 10 (min (t.port p).af.rxLen 1023)), lane := (t.port p).markLane }
    ((b.stop = true ∨ b.parity = true ∨ b.data ≠ 0) → ((cond = 0 ∨ cond = 3) → x.isFlowCode b.data = false) →
      (x.addrMode = true →
        let discarded : Prop := ∃ t, exec (.characterReceived p c) s = .next t ∧ t.steady = s.steady ∧
          (t.port p).rxq = x.rxq ∧ (t.port p).rx.holding = x.rx.holding ∧ (t.port p).af.muted = true ∧
          (t.port p).af.muteDiscards = satInc x.af.muteDiscards
        let hit (k : Fin 8) : Prop :=
          let w := y.cfg[8 + k.val]'(by omega)
          w.getLsbD 17 = true ∧ (byte ^^^ bits w 0 8) &&& bits w 8 8 = 0
        let matched (urgent : Bool) (k : BitVec 4) : State :=
          let lane : QLane := if y.rxUrgent = 1 ∨ (y.rxUrgent = 2 ∧ urgent = true) then .urgent else .bulk
          enters ((af (fun a => { a with muted := false, curUrgent := lane == .urgent, lastIndex := k })).offer p
            { item := mark1 3 ((if urgent then 0x10#10 else 0#10) ||| k.setWidth 10), lane := lane }) lane
        (b.data.getLsbD 8 = false → y.mute = true → y.af.muted = true → discarded) ∧
        (b.data.getLsbD 8 = false → (y.mute = false ∨ y.af.muted = false) → runs (enters u y.markLane)) ∧
        (b.data.getLsbD 8 = true → bad →
          runs ((af (fun a => { a with
            damagedAddr := satInc a.damagedAddr, muted := y.mute, curUrgent := false, lastIndex := 15 })).offer p
            { item := charItem cond b.data, lane := y.plainLane, af := some 0 })) ∧
        (b.data.getLsbD 8 = true → ¬ bad →
          (∀ k, hit k → (∀ j, j < k → ¬ hit j) →
            runs (matched ((y.cfg[8 + k.val]'(by omega)).getLsbD 16) (BitVec.ofNat 4 k.val))) ∧
          ((∀ k, ¬ hit k) → let broadcast := y.cfg[7].getLsbD 8 = true ∧ byte = bits y.cfg[7] 0 8
            (broadcast → runs (matched (y.cfg[7].getLsbD 9) 8)) ∧
            (¬ broadcast → y.mute = true → discarded) ∧
            (¬ broadcast → y.mute = false →
              runs (enters (af (fun a => { a with muted := false, curUrgent := false, lastIndex := 15 })) y.plainLane))))) ∧
      (x.addrMode = false → x.frameEn = true →
        let pid := y.af.rxPid
        let entry := u.frameEntry byte
        let parityOk := byte.getLsbD 6 = (byte.getLsbD 0 ^^ byte.getLsbD 2 ^^ byte.getLsbD 4) ∧
          byte.getLsbD 7 = !(byte.getLsbD 1 ^^ byte.getLsbD 3 ^^ byte.getLsbD 5)
        (y.af.rxFrame = .wait → runs (enters u y.plainLane)) ∧
        (bad → (y.af.rxFrame = .sync ∨ y.af.rxFrame = .pid ∨ y.af.rxFrame = .len ∨ y.af.rxFrame = .check) → runs (error pid 5)) ∧
        (¬ bad → y.af.rxFrame = .sync →
          (byte ≠ y.sync → runs (error pid 1)) ∧ (byte = y.sync → runs (af (fun a => { a with rxFrame := .pid })))) ∧
        (¬ bad → y.af.rxFrame = .pid →
          (¬ parityOk → runs (error byte 2)) ∧
          (parityOk → entry.getLsbD 15 = false → runs (error byte 4)) ∧
          (parityOk → entry.getLsbD 15 = true → entry.getLsbD 13 = true →
            runs (af (fun a => { a with rxPid := byte, rxFrame := .len }))) ∧
          (parityOk → entry.getLsbD 15 = true → entry.getLsbD 13 = false →
            runs (af (fun a => { a with rxPid := byte, rxFrame := .check, rxLen := (entry.extractLsb' 0 10).toNat })))) ∧
        (¬ bad → y.af.rxFrame = .len → runs (af (fun a => { a with rxFrame := .check, rxLen := byte.toNat }))) ∧
        (¬ bad → y.af.rxFrame = .check →
          let e := u.frameEntry pid
          let v := af (fun a => { a with rxFrame := .payload, rxUrgent := e.getLsbD 14, rxRemain := BitVec.ofNat 10 a.rxLen })
          let w := v.offer p
            { item := mark1 4 ((if e.getLsbD 13 then 0x100#10 else 0#10) ||| pid.setWidth 10), lane := (v.port p).markLane }
          (byte ≠ frameCrc pid y.af.rxLen → runs (error pid 3)) ∧
          (byte = frameCrc pid y.af.rxLen → runs (if y.af.rxLen = 0 then ended w else w))) ∧
        (y.af.rxFrame = .payload →
          let w := (enters u y.markLane).modPort p (fun z => { z with af := { z.af with rxRemain := z.af.rxRemain - 1 } })
          runs (if y.af.rxRemain = 1 then ended w else w)))) ∧
    (b.stop = false → b.parity = false → b.data = 0 → x.af.rxFrame ≠ .wait → exec (.characterReceived p c) s =
      .next (((s.modPort p (fun z => { z with af := { z.af with
        frameErrs := satInc z.af.frameErrs, rxFrame := .wait, rxRemain := 0 } })).offer p
        { item := mark1 6 6, lane := if x.af.rxFrame = .payload then x.markLane else x.plainLane, af := some 1 }).modPort p
        (fun z => { z with rx := { z.rx with phase := .inBreak } })))

/-- What the transmitter does next at a character boundary, once it may drive and neither flow control nor a code of the
port's own holds it back, the back-off of a collision being over (R92; log 105). A line effect makes it busy, turns its
driver on, counts in the pacer and, in fast mode with credits, takes one (R120, R165): the next header character, the
payload following the last (R149), at a full window too (R120); and where the pacer's window is not full, for at a full
one nothing leaves the queue (R195), a character of the transmit queue, but one that is a reserved code with flow
control and nine data bits is refused (R158), a BREAK of at least one bit more than a character (R114), and a
FRAME_START whose length stands in the frame table, or in the character behind it: its break starts, with SYNC,
identifier, length and check to follow (R149), and a length character leaves the queue with it (the model's choice, log
29). A length that has not come is waited for; a FRAME_START followed by a mark, or of a reserved length source, is
consumed with TX_LS_RESERVED (R150, R151), and so is one whose length lies in the urgent lane by its own URGENT bit (the
model's choice, log 156), a FLUSH leaves its tag (R208), and a TIE mark of a port that is no member sets STRAY (R171); a
member waits at its mark. On the line stand ADDR_TX_IDLE bits of mark before an address character (R135), a start bit,
the data bits least significant first, the parity of the bits sent (R104) and the stop bits; a break is space and two
bits of mark. Neither this command nor a short retry ever leaves two drivers of a port on (R330). Completes:
transmitStart. -/
def Obligations.TransmittedCharacterStarts : Prop :=
  (∀ (s : State) (p : PortId) (mid : Mid), s.lineStartDue p = false → s.mayDrive p mid = true →
    let u := (s.modPort p (fun x => { x with tx := { x.tx with backoff := false } })).tieSync p
    let y := u.port p
    u.mayDrive p mid = true → y.flowStops = false → u.codeDue p = false →
    let leads (f : Port → Prop) : Prop := ∃ v, exec (.transmitStart ⟨p, mid⟩) s = .next v ∧ v.steady = s.steady ∧ f (v.port p)
    let starts (now : TxNow) (f : Port → Prop) : Prop := leads (fun z => z.tx.now = now ∧ z.tx.driver = true ∧
      z.tx.backoff = false ∧ z.tx.paceCount = satInc y.tx.paceCount ∧
      z.flow.txCredit.toNat = y.flow.txCredit.toNat - (if y.credits = true then 1 else 0) ∧ f z)
    let stays (f : Port → Prop) : Prop := leads (fun z => z.tx.now = .idle ∧ z.tx.header = [] ∧
      z.tx.paceCount = y.tx.paceCount ∧ z.flow.txCredit = y.flow.txCredit ∧ f z)
    (∀ c rest, y.tx.header = c :: rest → starts (.char c) (fun z => z.tx.header = rest ∧ z.txq = y.txq ∧
      z.af.txFrame = if rest = [] then .payload else y.af.txFrame)) ∧
    (y.tx.header = [] → (y.flow.tieWait ≠ none ∨ y.paceFull = true) → exec (.transmitStart ⟨p, mid⟩) s = .next u) ∧
    ∀ (e : Entry) (lane : QLane) (t : State), y.tx.header = [] → y.flow.tieWait = none → y.paceFull = false → y.txq.peekNext = some (e, lane) →
      u.takeItem p .tx = some (e, lane, t) →
      let left := (t.port p).txq
      let mask : BitVec 9 := BitVec.allOnes 9 >>> (9 - y.dataBits)
      let v := e.item.cell.setWidth 9 &&& mask
      let code := y.fcMode ≠ 0 ∧ y.dataBits = 9 ∧ 0x1F0 ≤ v.toNat
      let arg := e.item.arg
      let source := (arg.extractLsb' 8 2).toNat
      let id : BitVec 6 := arg.extractLsb' 0 6
      let frame (len : Nat) (counted : Bool) (z : Port) : Prop := z.af.txFrame = .header ∧ z.af.txPid = pidByte id ∧
        z.af.txLen = len ∧ z.af.txSent = 0 ∧ z.tx.header = [y.sync.setWidth 9, (pidByte id).setWidth 9] ++
          (if counted = true then [BitVec.ofNat 9 (len % 256)] else []) ++ [(frameCrc (pidByte id) len).setWidth 9]
      let opening : TxNow := .brk (max (brkTxField y.cfg[16]) (y.charBits + 1))
      (e.item.isMark = false → ¬ code → starts (.char v) (fun z => z.txq = left ∧
        z.af.txSent = if y.af.txFrame = .payload then y.af.txSent + 1 else y.af.txSent)) ∧
      (e.item.isMark = false → code → stays (fun z => z.txq = left ∧
        z.txRefused = satInc y.txRefused ∧ z.flow.events = y.flow.events ||| 4#3)) ∧
      (∀ n, e.item.isType 1 = true → e.item.ext = some n →
        starts (.brk (max n.toNat (y.charBits + 1))) (fun z => z.txq = left)) ∧
      (e.item.isType 8 = true → stays (fun z => z.txq = left ∧ z.flushTag = some arg)) ∧
      (e.item.isType 4 = true →
        (source = 0 → starts opening (fun z => z.txq = left ∧
          frame ((t.frameEntry (e.item.cell.setWidth 8)).extractLsb' 0 10).toNat false z)) ∧
        (∀ c l w, source = 1 → ((t.port p).fmt .tx ≠ .frame ∨ left.servingNow ≠ .none) →
          left.peekNext = some (c, l) → c.item.isMark = false → t.takeItem p .tx = some (c, l, w) →
          starts opening (fun z => z.txq = (w.port p).txq ∧
            frame (c.item.cell.setWidth 8 : BitVec 8).toNat true z)) ∧
        (source = 1 → ((t.port p).fmt .tx ≠ .frame ∨ left.servingNow ≠ .none) → left.peekNext = none →
          stays (fun z => z.txq = y.txq)) ∧
        ((source = 1 ∧ (((t.port p).fmt .tx = .frame ∧ left.servingNow = .none) ∨
            ∃ c l, left.peekNext = some (c, l) ∧ c.item.isMark = true)) ∨ 2 ≤ source →
          stays (fun z => z.txq = left ∧ z.af.events.getLsbD 2 = true ∧ z.txRefused = satInc y.txRefused ∧
            z.af.txFrame = .outside))) ∧
      (e.item.isType 7 = true → stays (fun z => z.txq = left) ∧ ∃ v, exec (.transmitStart ⟨p, mid⟩) s = .next v ∧
        (v.tie ⟨(arg.extractLsb' 0 2).toNat, (arg.extractLsb' 0 2).isLt⟩).stray = true)) ∧
  (∀ (x : Port) (v : BitVec 9), x.tx.now = .char v ∨ x.tx.now = .code v →
    let idle := if x.tx.now = .char v ∧ x.addrMode = true ∧ v.getLsbD 8 = true then (bits x.cfg[7] 12 4 : BitVec 4).toNat else 0
    let wire := x.onLine.drop idle
    let sent := v &&& (BitVec.allOnes 9 >>> (9 - x.dataBits))
    x.onLine.take idle = List.replicate idle true ∧
    wire.length = x.charBits ∧ wire[0]? = some false ∧ wire.getLast? = some true ∧
    (∀ k, k < x.dataBits → wire[1 + k]? = some (v.getLsbD k)) ∧
    (x.parity = 1 → wire[1 + x.dataBits]? = some (popcount sent % 2 == 1)) ∧
    (x.parity = 2 → wire[1 + x.dataBits]? = some (popcount sent % 2 == 0)) ∧
    (x.parity = 3 → wire[1 + x.dataBits]? = some true) ∧ (x.parity = 4 → wire[1 + x.dataBits]? = some false)) ∧
  (∀ (x : Port) (n : Nat), x.tx.now = .brk n → x.onLine = List.replicate n false ++ [true, true]) ∧
  ∀ (s t : State) (p : PortId) (pr : PairId) (trips : Bool) (mid : Mid),
    ¬ (s.driverOn p .a = true ∧ s.driverOn p .b = true) →
    (exec (.transmitStart ⟨p, mid⟩) s = .next t ∨ exec (.shortRetry p pr trips) s = .next t) →
    ¬ (t.driverOn p .a = true ∧ t.driverOn p .b = true)

/-- The ends of transmission and the pacer (R114, R120, R121, R137, R161, R167): the transmitter is idle after its
character, the half-duplex driver goes off and the receiver hunts, a window opens, and a long hold warns once.
Completes: transmitEnd, driverRelease, pacerWindow, holdLong. -/
def Obligations.TransmitterRests : Prop :=
  ∀ (s : State) (p : PortId), s.serving = true → s.present p = true →
    let x := s.port p
    (x.tx.now ≠ .idle → ∃ t, exec (.transmitEnd p) s = .next t ∧ (t.port p).tx.now = .idle ∧ t.steady = s.steady) ∧
    (x.halfDuplex = true → x.tx.driver = true → x.tx.now = .idle →
      exec (.driverRelease p) s = .next (s.modPort p (fun x =>
        { x with tx := { x.tx with driver := false }, rx := { x.rx with phase := .hunting } }))) ∧
    (x.inRun = true → ∃ t, exec (.pacerWindow p) s = .next t ∧ (t.port p).tx.paceCount = 0 ∧ t.steady = s.steady) ∧
    (x.flow.held = true → x.flow.holdWarned = false → 0 < x.holdWarn →
      ∃ t, exec (.holdLong p) s = .next t ∧ (t.port p).flow.holdWarned = true ∧
        (t.port p).flow.events = x.flow.events ||| 1#3 ∧ t.steady = s.steady)

/-- The port's own codes (R163, R164, R339): the resume of a Run entry is the first code of that Run; then a hold that
is due is sent first, is counted, and is neither paced nor charged; a resume that is due follows, then a credit code.
Completes: flowCodeSend. -/
def Obligations.FlowCodesSent : Prop :=
  ∀ (s : State) (p : PortId) (mid : Mid), s.mayDrive p mid = true →
    let x := s.port p
    (s.holdDue p = true → x.flow.entryResume = false → ∃ t, exec (.flowCodeSend ⟨p, mid⟩) s = .next t ∧
      (t.port p).tx.now = .code (if x.dataBits = 9 then 0x1F0#9 else x.holdCode.setWidth 9) ∧ (t.port p).tx.driver = true ∧
      (t.port p).flow.holdSent = true ∧ (t.port p).flow.holdsTx = satInc x.flow.holdsTx ∧
      (t.port p).tx.paceCount = x.tx.paceCount ∧ (t.port p).flow.txCredit = x.flow.txCredit ∧ t.steady = s.steady) ∧
    (((x.fcMode ≠ 0 ∧ x.flow.entryResume = true) ∨ (s.holdDue p = false ∧ s.resumeDue p = true)) →
      ∃ t, exec (.flowCodeSend ⟨p, mid⟩) s = .next t ∧
      (t.port p).tx.now = .code (if x.dataBits = 9 then 0x1F1#9 else x.resumeCode.setWidth 9) ∧
      (t.port p).flow.holdSent = false ∧ (t.port p).flow.entryResume = false ∧
      (t.port p).flow.holdsTx = x.flow.holdsTx ∧ t.steady = s.steady) ∧
    (∀ k, s.holdDue p = false → s.resumeDue p = false → s.creditDue p = some k →
      ∃ t, exec (.flowCodeSend ⟨p, mid⟩) s = .next t ∧ (t.port p).tx.now = .code (BitVec.ofNat 9 (0x1F2 + k)) ∧
      (t.port p).flow.rxOutstanding = x.flow.rxOutstanding + BitVec.ofNat 14 (2 ^ k) ∧ t.steady = s.steady)

/-- A pending rate step (R115, R116): each direction takes it at its own boundary, and once both have, the entry is
current, none is pending and the event is set; an entry into fast mode under FC_MODE = 10 clears HELD, TX_CREDIT and the
credits granted (R161). A receiver that is stuck low takes the step too (the model's choice, log 154). Completes:
rxRateStep, txRateStep. -/
def Obligations.RateStepsTaken : Prop :=
  ∀ (s : State) (p : PortId), s.serving = true → s.present p = true → (s.port p).inRun = true →
    (s.port p).rate.pend = true →
    let r := (s.port p).rate
    let done (t : State) : Prop := (t.port p).rate.pend = false ∧ (t.port p).rate.cur = r.pendEntry ∧
      (t.port p).rx.charEvents.getLsbD 6 = true ∧
      ((s.port p).fastEntry s.fastDisable r.pendEntry = true → r.fcFast = false → (s.port p).fcMode = 2 →
        (t.port p).flow.held = false ∧ (t.port p).flow.txCredit = 0 ∧ (t.port p).flow.rxOutstanding = 0)
    (r.rxTaken = false → (s.port p).rx.phase ≠ .inBreak → ∃ t, exec (.rxRateStep p) s = .next t ∧
      (t.port p).rate.rxEntry = r.pendEntry ∧ (t.port p).rx.centre = 0 ∧
      (r.txTaken = false → (t.port p).rate.pend = true ∧ (t.port p).rate.cur = r.cur) ∧ (r.txTaken = true → done t)) ∧
    (r.txTaken = false → (s.port p).tx.now = .idle → ∃ t, exec (.txRateStep p) s = .next t ∧
      (t.port p).rate.txEntry = r.pendEntry ∧
      (r.rxTaken = false → (t.port p).rate.pend = true ∧ (t.port p).rate.cur = r.cur) ∧ (r.rxTaken = true → done t))

/-- Tie groups (R173, R174, R177): a group with HOST_REL 0 releases itself when every member has reached its mark,
counting the release and scheduling the line starts of the usable members that stand at a mark of the group, one that
left the round and stands at a further mark among them (the model's choice, log 157); at the line start each takes its
next item, `mids` being what their shifters hold, which starts nothing where that item has no line effect (log 106).
Completes: tieAutoRelease, tieLineStart. -/
def Obligations.TieRoundsRelease : Prop :=
  ∀ (s : State) (g : Fin 4), s.serving = true →
    ((s.tie g).opened = true → (s.tie g).hostRel = false → s.allReached g = true →
      ∃ t, exec (.tieAutoRelease g) s = .next t ∧ t = s.tieRelease g ∧ (t.tie g).releases = (s.tie g).releases + 1 ∧
        ∀ p, p ∈ (t.tie g).starting ↔ (p ∈ (s.tie g).starting ∨
          (s.present p = true ∧ (s.port p).flow.tieWait = some g ∧ (s.port p).usable = true))) ∧
    ∀ mids : List Mid, exec (.tieLineStart ⟨g, mids⟩) s =
      .next (forEach (s.tie g).starting.zipIdx (fun x t => t.txStart x.1 (mids.getD x.2 .idle))
        (s.modTie g (fun t => { t with starting := [] })))

/-! ### Requests to the state-command block (09, 12) -/

/-- The port commands (R277, R335, R115): each selected present port takes its command in ascending order and the
request completes with OK; a command to Run that DEVICE_INDEX or the image holds back goes to Ready and completes with
the error status and the ports it was for (R24, R264, R368); one that selects no present port completes with OK (log
74). A rate step that names the current entry with none pending changes nothing; in Run another becomes the pending
step, in a freeze too (log 93, DEDUCED), and neither direction has taken it, though one may have taken the entry it
names (log 97, DEDUCED); in any other state its entry is current at once (R118). Completes: portOff, portRetain,
portReady, portRun, rateCmd. -/
def Obligations.PortCommandsAct : Prop :=
  ∀ (s : State) (q : Req) (ports : BitVec 16) (mids : List Mid) (e : BitVec 2), s.hostReady →
    let u := s.acceptBlk
    let all (want : PState) (ms : List Mid) : State :=
      forEach (s.portsOf ports).zipIdx (fun x t => t.portCommand x.1 want (ms.getD x.2 .idle)) u
    exec (.portOff q ports mids) s = .next ((all .off mids).complete q 0 0 0 []) ∧
    exec (.portRetain q ports mids) s = .next ((all .retain mids).complete q 0 0 0 []) ∧
    exec (.portReady q ports mids) s = .next ((all .ready mids).complete q 0 0 0 []) ∧
    (s.runHeld = false ∨ s.portsOf ports = [] → exec (.portRun q ports) s = .next ((all .run []).complete q 0 0 0 [])) ∧
    (s.runHeld = true → s.portsOf ports ≠ [] →
      exec (.portRun q ports) s = .next ((all .ready []).complete q 2 0 (ports &&& s.presentMask) [])) ∧
    exec (.rateCmd q e ports) s =
      .next ((forEach (s.portsOf ports) (fun p t => t.rateCommand p e) u).complete q 0 0 0 []) ∧
    ∀ (v : State) (p : PortId), let r := (v.port p).rate
      let y := ((v.rateCommand p e).port p).rate
      (r.pend = false → r.cur = e → v.rateCommand p e = v) ∧
      ((r.pend = true ∨ r.cur ≠ e) → (v.port p).inRun = true → y.pend = true ∧ y.pendEntry = e ∧ y.rxTaken = false ∧
        y.txTaken = false ∧ y.cur = r.cur) ∧
      ((r.pend = true ∨ r.cur ≠ e) → (v.port p).inRun = false → y.pend = false ∧ y.cur = e ∧ y.rxEntry = e ∧ y.txEntry = e)

/-- What a port command does to its port (R16, R335, R340): COMMANDED is written; in Sleep a command to Ready or Run
waits for the exit; a port in that state stays; a rise of supply is queued where the region's power transitions and the
eligible commands accepted before it are two or more; any other transition starts now, and a command during a transition
is queued, replacing an earlier one; no other port's state moves. SEQUENCER_START (R16) starts the earliest eligible
queued command of a region with fewer than two power transitions. PORT_TRANSITION_END (R334, R339): the port reaches the
target and REACHED is set; a port that enters Run begins with HELD, HOLD_SENT, the credits, the pacer, RX_PID, TX_PID
and EDGE_MIN clear (R446). Completes: sequencerStart, portTransitionEnd. -/
def Obligations.PortStatesMove : Prop :=
  (∀ (s : State) (p : PortId) (target : PState) (mid : Mid),
    let x := s.port p
    let t := s.portCommand p target mid
    let y := t.port p
    let order := match x.queued with
      | some c => c.order
      | none => s.host.accepted
    let ahead := (s.eligible (regionOf p)).filter (fun c => decide (c.2.order < order))
    let waits := raisesSupply x.st target = true ∧ 2 ≤ s.powerCount (regionOf p) + ahead.length
    y.commanded = target ∧ y.st = x.st ∧
    (s.dev.st = .sleep → (target = .ready ∨ target = .run) →
      y.deferred = some { target := target, order := s.host.accepted } ∧ y.trans = x.trans ∧ y.queued = none) ∧
    (s.dev.st ≠ .sleep → y.deferred = none) ∧
    (s.dev.st ≠ .sleep → x.trans = none → x.st = target → y.trans = none ∧ y.queued = none) ∧
    (s.dev.st ≠ .sleep → x.trans = none → x.st ≠ target → waits →
      y.trans = none ∧ y.queued = some { target := target, order := order }) ∧
    (s.dev.st ≠ .sleep → x.trans = none → x.st ≠ target → ¬ waits →
      y.queued = none ∧ y.trans = some { target := target, source := x.st, byCmd := true,
                                         supply := raisesSupply x.st target, checked := x.st != .off }) ∧
    (∀ tr, s.dev.st ≠ .sleep → x.trans = some tr → (tr.target ≠ target ∨ x.queued ≠ none) →
      y.trans = some tr ∧ y.queued = some { target := target, order := order }) ∧
    ∀ o, o ≠ p → (t.port o).st = (s.port o).st ∧ (t.port o).trans = (s.port o).trans ∧
      (t.port o).queued = (s.port o).queued ∧ (t.port o).commanded = (s.port o).commanded) ∧
  (∀ (s : State) (r : RegionId) (p : PortId) (target : PState), s.serving = true → s.powerCount r < 2 →
    s.nextQueued r = some (p, target) →
    ∃ t, exec (.sequencerStart r) s = .next t ∧ (t.port p).queued = none ∧ (t.port p).st = (s.port p).st ∧
      (t.port p).trans = some { target := target, source := (s.port p).st, byCmd := true,
                                supply := raisesSupply (s.port p).st target, checked := (s.port p).st != .off }) ∧
  ∀ (s : State) (p : PortId) (tr : Trans) (sa sb : PairSense), s.serving = true → s.present p = true →
    (s.port p).trans = some tr → tr.byCmd = true → (tr.checked = true ∨ tr.target = .off) →
    ∃ t, exec (.portTransitionEnd p sa sb) s = .next t ∧ (t.port p).st = tr.target ∧
      (t.port p).stEvents.getLsbD 1 = true ∧ (t.port p).commanded = (s.port p).commanded ∧
      ((s.port p).queued = none → (t.port p).trans = none ∧ (t.port p).queued = none) ∧
      ((s.port p).queued = none → tr.target = .run → (s.port p).frozen = false →
        (t.port p).flow.held = false ∧ (t.port p).flow.holdSent = false ∧ (t.port p).flow.rxOutstanding = 0 ∧
        (t.port p).flow.txCredit = 0 ∧ (t.port p).tx.paceCount = 0 ∧ (t.port p).missed = false ∧
        (t.port p).af.rxPid = 0 ∧ (t.port p).af.txPid = 0 ∧ (t.port p).line.edgeMin = 0)

/-- The device commands (R228, R341 to R345, Table 12.7) of an awake device: while CHANGING is 1 each is refused; Run
and Idle command a width and retrain, Sleep and Deep need their conditions, Deep waits for a flash operation, and a
width from 1 to the lanes trained, dropped ones among them (log 45), is commanded with a retrain. Each change begins
once the completion is sent (R277): at once where nothing built waits to be sent, and Deep's with the completion (log
53). That Run, Idle and width commands retrain always is the model's reading (log 32). DEVICE_INDEX (R24, R264): the
first write since power-up is kept, and a value that differs from the strap is a mismatch and raises source 145 in every
case (log 79); a later one is ignored with INDEX_REWRITE and changes no index. Completes: deviceStateRun,
deviceStateIdle, deviceStateSleep, deviceStateDeep, trkWidthCmd, deviceIndex. -/
def Obligations.DeviceCommandsAct : Prop :=
  (∀ (s : State) (q : Req) (w : BitVec 3), s.hostReady →
    let u := s.acceptBlk
    let refused : Out := .next (u.complete q 2 1 0 [])
    let quiet := s.dev.changing = false ∧ s.dev.exiting = false ∧ s.dev.deepWait = false ∧ s.dev.changeDue = false
    let with_ (d : Dev) : State := { u with dev := d }.complete q 0 0 0 []
    let change (t : State) : State :=
      if t.tr.ctlQ = [] ∧ t.tr.waitBlk = none then t.beginRetrain else { t with dev := { t.dev with changeDue := true } }
    let wide (v : BitVec 3) : Dev := { s.dev with changing := true, byState := true, cmdWidth := v }
    (s.dev.changing = true → exec (.deviceStateRun q) s = refused ∧ exec (.deviceStateIdle q) s = refused ∧
      exec (.deviceStateSleep q) s = refused ∧ exec (.deviceStateDeep q) s = refused ∧ exec (.trkWidthCmd q w) s = refused) ∧
    (quiet → exec (.deviceStateRun q) s = .next (change (with_ (wide (BitVec.ofNat 3 (popcount s.tr.trained)))))) ∧
    (quiet → exec (.deviceStateIdle q) s = .next (change (with_ (wide 1)))) ∧
    (quiet → s.portsQuiet = true → exec (.deviceStateSleep q) s =
      .next (change (with_ { s.dev with changing := true, byState := true, toSleep := true }))) ∧
    (quiet → s.portsQuiet = true → s.deepAllowed = true → s.svc.busy = .none → exec (.deviceStateDeep q) s =
      .next (with_ { s.dev with changing := true, byState := true, deepWait := true }).enterDeep) ∧
    (quiet → s.portsQuiet = true → s.deepAllowed = true → s.svc.busy ≠ .none → exec (.deviceStateDeep q) s =
      .next (with_ { s.dev with changing := true, byState := true, deepWait := true })) ∧
    (quiet → s.portsQuiet = false → exec (.deviceStateSleep q) s = refused ∧ exec (.deviceStateDeep q) s = refused) ∧
    (quiet → s.deepAllowed = false → exec (.deviceStateDeep q) s = refused) ∧
    (quiet → w ≠ 0 → w.toNat ≤ popcount s.tr.trained → exec (.trkWidthCmd q w) s =
      .next (change (with_ { s.dev with changing := true, cmdWidth := w }))) ∧
    (w = 0 ∨ popcount s.tr.trained < w.toNat → exec (.trkWidthCmd q w) s = refused)) ∧
  ∀ (s : State) (q : Req) (v : Word), s.hostReady →
    let u := s.acceptBlk
    let i := bits v 0 2
    (s.dev.idxWritten = false → i = s.boot.straps.devidx → exec (.deviceIndex q v) s =
      .next ({ u with dev := { s.dev with idxWritten := true, idxMismatch := false, idx := i } }.complete q 0 0 0 [])) ∧
    (s.dev.idxWritten = false → i ≠ s.boot.straps.devidx → exec (.deviceIndex q v) s =
      .next ((State.attEvent 145 { u with dev := { s.dev with idxWritten := true, idxMismatch := true, idx := i } }).complete
        q 0 0 0 [])) ∧
    (s.dev.idxWritten = true → exec (.deviceIndex q v) s = .next ((u.hostError 2).complete q 4 1 0 []))

/-! ### Ties, queues and data windows (06, 07) -/

/-- The tie commands (R170, R173, R176): TIE_GROUP sets members and HOST_REL where the group has no open round and no
member of another group is named, and is refused with the group's bit elsewhere; with HOST_REL 1 a release acts where
every member of a group that has some (log 37) has reached, else it sets EARLY and is refused, and with HOST_REL 0 it
does nothing; a cancel counts no release and leaves no round open unless a member waits at a mark again. QUEUE_FLUSH and
QUEUE_RESET (R205, R206, R209, R218): each selected queue of each present port, receive before transmit, as though
commanded alone; a receive flush crosses at once: between packets it discards every item, and the GAP of reason Flush,
where any was discarded, and the FLUSH follow; a transmit flush waits for the items accepted before it (R269); a receive
reset leaves its GAP alone (each where the copies of R211 agree). Completes: tieGroup, tieRelease, tieCancel,
queueFlush, queueReset. -/
def Obligations.TieAndQueueCommandsAct : Prop :=
  (∀ (s : State) (q : Req) (g : Fin 4) (v : Word), s.hostReady →
    let u := s.acceptBlk
    let m := bits v 0 16 &&& s.presentMask
    let taken := ∃ h : Fin 4, h ≠ g ∧ (s.tie h).members &&& m ≠ 0
    let w := u.tieReady g
    let may := (s.tie g).members ≠ 0 ∧ u.allReached g = true
    ((s.tie g).opened = false → ¬ taken → exec (.tieGroup q g v) s = .next ((forEach s.presentPorts State.tieSync
      (u.modTie g (fun t => { t with members := m, hostRel := v.getLsbD 16 }))).complete q 0 0 0 [])) ∧
    ((s.tie g).opened = true ∨ taken → exec (.tieGroup q g v) s = .next (u.complete q 2 1 (oneBit 16 g.val) [])) ∧
    ((s.tie g).hostRel = false → exec (.tieRelease q g) s = .next (w.complete q 0 0 0 [])) ∧
    ((s.tie g).hostRel = true → may → exec (.tieRelease q g) s = .next ((w.tieRelease g).complete q 0 0 0 []) ∧
      ((w.tieRelease g).tie g).releases = (s.tie g).releases + 1) ∧
    ((s.tie g).hostRel = true → ¬ may → exec (.tieRelease q g) s =
      .next (((w.modTie g (fun t => { t with early := true })).attEvent (tieSrc g)).complete q 2 1 (oneBit 16 g.val) [])) ∧
    ∃ t, exec (.tieCancel q g) s = .next (t.complete q 0 0 0 []) ∧ t = u.tieCancelCmd g ∧
      (t.tie g).releases = (s.tie g).releases ∧ (t.tie g).members = (s.tie g).members ∧
      ((∀ p, s.present p = true → ((forEach (u.tieWaiting g) State.endWait u).port p).tieHead ≠ some g) →
        (t.tie g).opened = false)) ∧
  ∀ (s : State) (q : Req) (rx tx : Bool) (ports : BitVec 16), s.hostReady →
    let u := s.acceptBlk
    exec (.queueFlush q rx tx ports) s = .next ((forEach (s.portsOf ports) (fun p t =>
      let t := if rx = true then t.flushCmd p .rx else t
      if tx = true then t.flushCmd p .tx else t) u).complete q 0 0 0 []) ∧
    exec (.queueReset q rx tx ports) s = .next ((forEach (s.portsOf ports) (fun p t =>
      let t := if rx = true then t.resetCmd p .rx else t
      if tx = true then t.resetCmd p .tx else t) u).complete q 0 0 0 []) ∧
    (∀ p, (s.queue p .tx).flush = .none → ((s.flushCmd p .tx).queue p .tx).flush = .waiting s.host.accepted ∧
      ((s.flushCmd p .tx).queue p .tx).items = (s.queue p .tx).items) ∧
    ∀ p, let x := s.queue p .rx
      let n := x.items
      x.flush = .none → x.pend = none → x.flushOwed = 0 → s.sound p .rx = true →
      (x.isOpen = false → (let e := x.clear false (s.pool p); 3 ≤ e.1.freeCells e.2) →
        let y := (s.flushCmd p .rx).queue p .rx
        y.flush = .none ∧ y.pend = none ∧ y.urgItems = [] ∧
          y.bulkItems = (if n = 0 then [] else [gapMark 5 (some n)]) ++ [flushMark]) ∧
      ((s.port p).rx.holding = none → (let e := x.clear true (s.pool p); 2 ≤ e.1.freeCells e.2) →
        let y := (s.resetCmd p .rx).queue p .rx
        y.flush = .none ∧ y.pend = none ∧ y.urgItems = [] ∧ y.bulkItems = if n = 0 then [] else [gapMark 0 (some n)])

/-- How flushes, resets and reclaims end (R205, R206, R209, R211 to R215): the transmit flush crosses once the items
before it have entered, which its command lets enter where they still wait (the model's choice, log 70); at its boundary
the flush ends, and its GAP, where it discarded an item, and its FLUSH are the queue's last items. Nothing enters or
leaves a queue whose copies, or the pool's, disagree (log 145); a queue whose two copies, or its pool's, or whose chain
parity an upset parts is reset and counted, with its fault bit, and charged 1,000 ms of outage (R300, R301, Table 10.8),
and one whose copies agree stays as it is; a reset hands every segment it held to the reclaim, and joins one that runs
(Table 10.2, R298; log 78), whose end leaves the queues of its region none to return. Completes: flushCrossing,
flushBoundary, queueIntegrityFault, reclaimEnd. -/
def Obligations.QueueEndsAct : Prop :=
  ∀ (s : State) (p : PortId) (d : Dir), s.storeOn = true → s.present p = true →
    (∀ o, (s.queue p .tx).flush = .waiting o →
      exec (.flushCrossing p) s = .next ((s.enterQwrites p o).crossFlush p .tx)) ∧
    (∀ c ns, (s.queue p d).flush = .crossed c ns → (s.queue p d).isOpen = false →
      ∃ t, exec (.flushBoundary p d) s = .next t ∧ (t.queue p d).flush = .none ∧ t.steady = s.steady ∧
        ((s.queue p d).pend = none → (s.queue p d).flushOwed = 0 → 3 ≤ (s.queue p d).freeCells (s.pool p) →
          (d = .tx → (s.port p).txSinks = false) → s.sound p d = true →
          (t.queue p d).bulkItems = (s.queue p d).bulkItems ++ (if c = 0 then [] else [gapMark 5 (some c)]) ++ [flushMark] ∧
          (t.queue p d).urgItems = (s.queue p d).urgItems)) ∧
    (∀ (u : Upset) (v : ParityUpset), let q := (s.queue p d).check
      let c := ((s.port p).checkOf d).upset u v
      let y := s.region (regionOf p)
      let ptr := c.pointerFails q ||
        !(y.poolUpsets ++ u.pool.filter (fun g => (g.link || g.tag) && decide (g.seg < y.pool))).isEmpty
      let par := c.parityFails q
      (ptr = false → par = false → exec (.queueIntegrityFault p d u v) s = .next s) ∧
      ((ptr = true ∨ par = true) → ∃ t, exec (.queueIntegrityFault p d u v) s = .next t ∧
      (d = .rx → (t.port p).resetsRx = satInc (s.port p).resetsRx ∧ (t.port p).resetsTx = (s.port p).resetsTx ∧
        (t.port p).qFaults = (s.port p).qFaults ||| (if ptr = true then 1#4 else 0#4) ||| (if par = true then 2#4 else 0#4)) ∧
      (d = .tx → (t.port p).resetsTx = satInc (s.port p).resetsTx ∧ (t.port p).resetsRx = (s.port p).resetsRx ∧
        (t.port p).qFaults = (s.port p).qFaults ||| (if ptr = true then 4#4 else 0#4) ||| (if par = true then 8#4 else 0#4)) ∧
      (t.port p).outage = satAdd (s.port p).outage 1000 ∧
      (t.region (regionOf p)).reclaim = true ∧ (t.port p).st = (s.port p).st)) ∧
    (s.sound p d = false → s.takeItem p d = none ∧ ∀ i u ns o, s.enterItem p d i u ns o = none) ∧
    (∀ q, s.sound p d = true → (s.setQueue p d q).sound p d = true) ∧
    (∀ reason known extra, let t := s.resetQueue p d reason known extra
      (t.queue p d).flush = .none ∧ (t.region (regionOf p)).reclaim = true ∧
      (t.queue p d).reclaimOwn + (t.queue p d).reclaimPool = (s.queue p d).held) ∧
    ∀ r bad, (s.region r).reclaim = true → ∃ t, exec (.reclaimEnd r bad) s = .next t ∧ (t.region r).reclaim = false ∧
      ∀ o, s.present o = true → regionOf o = r → ∀ e, (t.queue o e).reclaimOwn = 0 ∧ (t.queue o e).reclaimPool = 0

/-- The data windows (R203, R204, Table 7.5): in bench mode with the port in Ready or Run POP takes what the Sieve gives
and a PUSH enters its cell, elsewhere, and for a PUSH to a receive window, the access is refused; PEEK shows what POP
would take at all times; each read answers its word with VALID, the lane and the packet start, or stalls, and a FLUSH
that leaves a transmit queue sets TXQ_FLUSH_TAG (R208); the end of a stall answers a cell that has come, or the window's
last value with VALID 0 and UNDERRUN. Completes: pop, peek, push, dataWindowStallEnd. -/
def Obligations.DataWindowsAct : Prop :=
  ∀ (s : State) (q : Req) (p : PortId) (d : Dir) (v : Word), s.hostReady →
    let u := s.acceptBlk
    let shut := s.benchMode = false ∨ ((s.port p).st ≠ .ready ∧ (s.port p).st ≠ .run)
    let stalled (peek : Bool) : Out :=
      .next { u with host := { u.host with stalls := u.host.stalls ++ [{ q := q, p := p, d := d, peek := peek }] } }
    (shut → exec (.pop q p d) s = .next (u.accessError q (windowAddr p d 0) 1) ∧
      exec (.push q p d v) s = .next (u.accessError q (windowAddr p d 8) 1)) ∧
    exec (.push q p .rx v) s = .next (u.accessError q (windowAddr p .rx 8) 1) ∧
    (¬ shut → exec (.push q p .tx v) s = .next ((u.pushCmd p v).complete q 0 0 0 [])) ∧
    (¬ shut → s.present p = true → (s.queue p d).popExt = none →
      (∀ e lane t, u.takeItem p d = some (e, lane, t) → ∃ t' : State, exec (.pop q p d) s =
        .next (t'.complete q 0 0 0 [windowWord (lane == .urgent) e.start e.item.cell]) ∧
        (t'.queue p d).popExt = e.item.ext ∧
        (d = .tx → e.item.isType 8 = true → (t'.port p).flushTag = some e.item.arg)) ∧
      (u.takeItem p d = none → exec (.pop q p d) s = stalled false)) ∧
    (s.present p = true → (s.queue p d).popExt = none →
      (∀ e lane, (s.queue p d).peekNext = some (e, lane) → ∃ t' : State, exec (.peek q p d) s =
        .next (t'.complete q 0 0 0 [windowWord (lane == .urgent) e.start e.item.cell]) ∧
        (t'.queue p d).items = (s.queue p d).items ∧ (t'.queue p d).popExt = none) ∧
      ((s.queue p d).peekNext = none → exec (.peek q p d) s = stalled true)) ∧
    (¬ shut → s.present p = true → ∀ x, (s.queue p d).popExt = some x →
      ∃ t' : State, exec (.pop q p d) s =
        .next (t'.complete q 0 0 0 [windowWord ((s.queue p d).lastPop.getLsbD 30) false x]) ∧ (t'.queue p d).popExt = none) ∧
    ∀ w, s.host.stalls.find? (fun y => sameReq y.q q) = some w →
      let r := { s with host := { s.host with stalls := s.host.stalls.filter (fun y => y != w) } }
      (∀ x t, r.windowNow w.p w.d w.peek = some (x, t) →
        exec (.dataWindowStallEnd q) s = .next (t.complete w.q 0 0 0 [x])) ∧
      (r.windowNow w.p w.d w.peek = none → s.present w.p = true → ∃ t : State, exec (.dataWindowStallEnd q) s =
        .next (t.complete w.q 0 0 0 [(s.queue w.p w.d).lastPop &&& 0x7FFFFFFF#32]) ∧
        (w.d = .rx → (t.port w.p).rxqEvents = (s.port w.p).rxqEvents ||| 8#4) ∧
        (w.d = .tx → (t.port w.p).txqEvents = (s.port w.p).txqEvents ||| 16#5))

/-! ### Attention and counters (11, 16) -/

/-- A claim (R314) answers the source word of a pending source to a processor in TARGETS, which takes it; any other
claim answers 1023 and changes nothing but the counters that count it. A completion (R316) by the claimer ends the
claim: the source is pending again where ASSERTED or REPEND is 1, else idle; any other completes with OK, changes no
source but the unit's own, and sets STRAY_COMPLETE. Completes: claim, claimComplete. -/
def Obligations.ClaimsAnswer : Prop :=
  ∀ (s : State) (q : Req) (i : SrcId), s.hostReady →
    let u := s.acceptBlk
    let x := u.att.srcs[i]
    let may := s.srcPresent i = true ∧ x.pend = true ∧ x.targets.getLsbD q.proc.toNat = true
    let taken : Src := { x with pend := false, claimed := true, claimer := q.proc, count := 0 }
    let ended : Src := { x with claimed := false, repend := false, pend := x.asserted || x.repend,
                                noticed := if x.asserted || x.repend then 0 else x.noticed }
    (may → exec (.claim q i) s = .next ((State.count 0x0A1 { u with att := u.att.put i taken }).complete q 0 0 0
      [(x.count.setWidth 32 <<< 20) ||| BitVec.ofNat 32 i.val])) ∧
    (¬ may → exec (.claim q i) s = .next ((u.count 0x0A2).complete q 0 0 0 [0x000003FF#32])) ∧
    (s.srcPresent i = true → x.claimed = true → x.claimer = q.proc →
      exec (.claimComplete q i) s = .next ({ u with att := u.att.update i ended }.complete q 0 0 0 [])) ∧
    (s.srcPresent i = true → (x.claimed = false ∨ x.claimer ≠ q.proc) →
      exec (.claimComplete q i) s = .next (((u.count 0x0A3).attUnitEvent 2#3).complete q 0 0 0 [])) ∧
    (s.srcPresent i = false → exec (.claimComplete q i) s = .next (u.complete q 0 0 0 []))

/-- An event of a source (R304, R307): COUNT adds one, a claimed source takes REPEND, any other is pending, in a new
episode where it was idle; the event waits for Release before it (R306), and only its arrival is kept while the state is
saved (R321). No other source but the unit's own moves. -/
def Obligations.SourceEvents : Prop :=
  ∀ (s : State) (i : SrcId), s.srcPresent i = true → i ≠ 153 →
    let x := s.att.srcs[i]
    let t := s.attEvent i
    let y := t.att.srcs[i]
    (s.released = true → s.att.saved = false →
      y.count = satInc x.count ∧ y.claimed = x.claimed ∧ y.asserted = s.ownerAsserted i ∧ y.targets = x.targets ∧
      (x.claimed = true → y.repend = true ∧ y.pend = x.pend) ∧
      (x.claimed = false → y.pend = true ∧ y.repend = x.repend ∧ y.noticed = if x.pend = true then x.noticed else 0) ∧
      ∀ j : SrcId, j ≠ i → j ≠ 153 → t.att.srcs[j] = s.att.srcs[j]) ∧
    (s.released = true → s.att.saved = true → t.att.srcs = s.att.srcs ∧ t.att.arrived.contains i = true) ∧
    (s.released = false → s.boot.stage ≠ .halted → t = { s with boot := { s.boot with early := s.boot.early ++ [i] } })

/-- The attention registers (R307, R308, R310, R311, R313): a one of PEND_SET, PEND_CLR, MASK_SET or MASK_CLR acts on
its source, and no zero does; ATT_PROC and TARGETS take the bits written. By Table 11.2 PEND_SET makes an idle source
pending in a new episode, leaves a pending one and sets REPEND of a claimed one; PEND_CLR makes a pending source idle
and clears REPEND of a claimed one; neither changes COUNT, nor the claim. Completes: attPendSet, attPendClr, attMaskSet,
attMaskClr, attProc, targets. -/
def Obligations.AttentionWordsAct : Prop :=
  ∀ (s : State) (q : Req) (w : Fin 5) (v : Word) (i : SrcId), s.hostReady →
    let u := s.acceptBlk
    exec (.attPendSet q w v) s = .next ((u.attBits w v Src.pendSet).complete q 0 0 0 []) ∧
    exec (.attPendClr q w v) s = .next ((u.attBits w v Src.pendClr).complete q 0 0 0 []) ∧
    exec (.attMaskSet q w v) s = .next ((u.attBits w v (fun x => { x with masked := true })).complete q 0 0 0 []) ∧
    exec (.attMaskClr q w v) s = .next ((u.attBits w v (fun x => { x with masked := false })).complete q 0 0 0 []) ∧
    exec (.attProc q v) s = .next ((u.attProcCmd v).complete q 0 0 0 []) ∧
    (u.attProcCmd v).att.proc = (s.att.proc &&& ~~~(bits v 16 8)) ||| (bits v 0 8 &&& bits v 16 8) ∧
    exec (.targets q i v) s = .next ((u.targetsCmd i v).complete q 0 0 0 []) ∧
    (s.srcPresent i = true → i ≠ 153 → (u.targetsCmd i v).att.srcs[i].targets = bits v 8 4) ∧
    (∀ f : Src → Src, i ≠ 153 → i.val / 32 = w.val →
      (u.attBits w v f).att.srcs[i] =
        if v.getLsbD (i.val % 32) = true ∧ s.srcPresent i = true then f u.att.srcs[i] else u.att.srcs[i]) ∧
    (i ≠ 153 → i.val / 32 = w.val → v.getLsbD (i.val % 32) = true → s.srcPresent i = true →
      let x := u.att.srcs[i]
      let y := (u.attBits w v Src.pendSet).att.srcs[i]
      let z := (u.attBits w v Src.pendClr).att.srcs[i]
      y.count = x.count ∧ z.count = x.count ∧ y.claimed = x.claimed ∧ z.claimed = x.claimed ∧
      (x.claimed = true → y.repend = true ∧ z.repend = false ∧ y.pend = x.pend ∧ z.pend = x.pend) ∧
      (x.claimed = false → y.pend = true ∧ z.pend = false ∧ y.repend = x.repend ∧ z.repend = x.repend ∧
        y.noticed = if x.pend = true then x.noticed else 0))

/-- The counters (R430 to R435, R438): an event adds one to every counter that selects its code, modulo 2^48, and sets
OVF where it passes to 0, and no other counter moves; while they are saved none counts. A counter whose SEL is 0, a
reserved code or the code of an absent port holds, whatever event is counted: the codes that select a source are the 34
of each present port and the 61 of Table 16.2. A SEL write sets SEL and the counter to 0, and a CNT_CLEAR bit sets its
counter to 0; neither touches OVF. A TICK is source 1; while the link is up the equalisers of the lanes in use adapt
with it, to codes that are free, and nothing else of the trunk moves (R223; the model's choice, log 170). Source 147 is
asserted while a bit of CNT_OVF is 1. Completes: cntSel, cntClear, tick. -/
def Obligations.CountersCount : Prop :=
  ∀ (s : State) (code : Nat) (i : Fin 32) (q : Req) (v : Word),
    (s.att.saved = true → s.count code = s) ∧
    (s.att.saved = false →
      (s.count code).cnt.sels = s.cnt.sels ∧
      (s.selects s.cnt.sels[i].toNat = false → (s.count code).cnt.vals[i] = s.cnt.vals[i]) ∧
      (s.count code).cnt.vals[i] =
        (if s.selects code = true ∧ s.cnt.sels[i].toNat = code then s.cnt.vals[i] + 1 else s.cnt.vals[i]) ∧
      (s.count code).cnt.ovf.getLsbD i.val = (s.cnt.ovf.getLsbD i.val ||
        decide (s.selects code = true ∧ s.cnt.sels[i].toNat = code ∧ s.cnt.vals[i] = 0xFFFFFFFFFFFF#48))) ∧
    (∀ (e : Nat) (p : PortId), 16 ≤ e → e ≤ 49 → s.selects (16 * e + p.val) = s.present p) ∧
    (0x320 ≤ code → s.selects code = false) ∧
    (code < 0x100 → (s.selects code = true ↔ code = 0x001 ∨ (∃ r k, r < 4 ∧ k < 3 ∧ code = 0x040 + 4 * r + k) ∨
      (∃ k, k ≤ 10 ∧ code = 0x060 + k) ∨ (∃ k, k ≤ 3 ∧ code = 0x070 + k) ∨ (∃ k, k ≤ 5 ∧ code = 0x080 + k) ∨
      (∃ k, k ≤ 6 ∧ code = 0x088 + k) ∨ (∃ k, k ≤ 10 ∧ code = 0x090 + k) ∨ (∃ k, k ≤ 3 ∧ code = 0x0A0 + k) ∨
      (∃ g, g ≤ 3 ∧ code = 0x0A8 + g) ∨ code = 0x0B0)) ∧
    (s.hostReady → let u := s.acceptBlk
      exec (.cntSel q i v) s = .next ({ u with cnt := { u.cnt with
        sels := u.cnt.sels.set i (bits v 0 10), vals := u.cnt.vals.set i 0 } }.complete q 0 0 0 []) ∧
      exec (.cntClear q v) s = .next ({ u with cnt := { u.cnt with
        vals := Vector.ofFn (fun k => if v.getLsbD k.val then 0 else u.cnt.vals[k]) } }.complete q 0 0 0 [])) ∧
    (s.serving = true → exec .tick s = .next (State.count 1 (State.adapt { s with coreUs := s.coreUs + 1 }))) ∧
    (s.linkUp = false → s.adapt = s) ∧
    (s.linkUp = true → ∃ ls : Vector Word 4,
      s.adapt = { s with tr := { s.tr with lanes := ls }, freeCtr := s.freeCtr + 1 } ∧
      ∀ k : Fin 4, bits ls[k] 0 16 = bits s.tr.lanes[k] 0 16 ∧
        (s.tr.activeMask.getLsbD k.val = false → ls[k] = s.tr.lanes[k])) ∧
    (s.serving = false → exec .tick s = .next { s with coreUs := s.coreUs + 1 }) ∧
    s.ownerAsserted 147 = (s.cnt.ovf != 0)

/-! ### Register requests and host items (09, 17) -/

/-- Bench writes (R125, R263, R371, R372, R392, R427, R449): BENCH_PSEL, a frame-table register, an IMG register of a port
(PORT_FORMAT writes PORT_LINE_CFG's field, R447) and a reservation take their values where Table 13.6 lets them and the
checks of Table 14.6 hold, R125's among them; else the write is ignored with CFG_WRITE_IGNORED, recorded, and completes
with status 4. A SEC register is hidden from a non-secure origin; IMG_WIN_CTL sets its bit and may end the session. An RW
register takes the value written in its fields (R441): THRESH and RX_ILV. That a written value's reserved bits are
ignored before the checks, and that a profile is checked against the reservations in force, is the model's reading (log
66). Completes: benchPsel, imgWinCtl, imgWrite. -/
def Obligations.BenchWritesAct : Prop :=
  ∀ (s : State) (q : Req) (p : PortId) (k : Fin 32) (v : Word), s.hostReady →
    let u := s.acceptBlk
    let pselAt := 0x200#16 + BitVec.ofNat 16 (4 * p.val)
    let frameAt := 0x480#16 + BitVec.ofNat 16 (4 * k.val)
    let ignored (a : BitVec 16) : Out := .next (((u.recordErr q a).hostError 1).complete q 4 1 0 [])
    (s.secure q = false → exec (.benchPsel q p v) s = .next (u.complete q 0 0 0 []) ∧
      exec (.imgWinCtl q v) s = .next (u.complete q 0 0 0 [])) ∧
    (s.secure q = true → exec (.imgWinCtl q v) s = .next ((u.imgWinCmd v).complete q 0 0 0 [])) ∧
    (s.secure q = true → s.present p = true → s.benchMode = true → (s.port p).benchOpen = true →
      exec (.benchPsel q p v) s = .next ((((u.modPort p (fun x =>
        { x with benchEn := v.getLsbD 31, benchLevel := bits v 0 4 })).loadProfile p).parityGood pselAt).complete q 0 0 0 [])) ∧
    (s.secure q = true → s.present p = true → (s.benchMode = false ∨ (s.port p).benchOpen = false) →
      exec (.benchPsel q p v) s = ignored pselAt) ∧
    (s.benchMode = true → (∀ o, s.present o = true → (s.port o).benchOpen = true) →
      exec (.imgWrite q frameAt v) s = .next (((u.setFrames k (v &&& 0xE3FFE3FF#32)).parityGood frameAt).complete q 0 0 0 [])) ∧
    (s.benchMode = false → exec (.imgWrite q frameAt v) s = ignored frameAt) ∧
    (∀ (a : BitVec 16) (i : Fin 24) (format : Bool), a.toNat % 4 = 0 →
      regAt a.toNat = some (.port p (if format then .format else .cfg i)) → s.present p = true →
      let w := (s.port p).benchCfg i format v
      let open_ := s.benchMode = true ∧ (s.port p).benchOpen = true
      let refused := (w[7].getLsbD 17 = true ∧ bits w[0] 2 2 ≠ 2#2) ∨ (w[16].getLsbD 0 = true ∧ bits w[0] 2 2 ≠ 1#2) ∨
        profileFormOk w = false ∨ profileFlowOk s.minRxNow w = false
      (open_ → ¬ refused → exec (.imgWrite q a v) s = .next (((u.modPort p (fun x =>
        ({ x with cfg := w } : Port).withLine (x.line.forProfile ({ x with cfg := w } : Port).multidrop))).parityGood a).complete q 0 0 0 [])) ∧
      (¬ open_ ∨ refused → exec (.imgWrite q a v) s = ignored a)) ∧
    (∀ (a : BitVec 16) (d : Dir), a.toNat % 4 = 0 → regAt a.toNat = some (.resv p d) → s.present p = true →
      let n : BitVec 12 := bits v 0 12
      let ps := (regionPorts (regionOf p)).filter s.present
      let total := (ps.map (fun o => (s.port o).resv .rx + (s.port o).resv .tx)).sum - (s.port p).resv d + n.toNat
      let fits (w : Vector Word 24) : Prop := bits w[17] 30 2 ≠ 0#2 → (bits w[18] 0 16).toNat < 64 * n.toNat
      let taken := s.benchMode = true ∧ (∀ o, o ∈ ps → (s.port o).st = .off ∧ (s.port o).trans = none) ∧
        8 ≤ n.toNat ∧ n.toNat ≤ 2048 ∧ total ≤ 8192 ∧
        (d = .rx → (∀ k : Fin 16, fits s.boot.shadow.profiles[k]) ∧ ∀ o, s.present o = true → fits (s.port o).cfg)
      (taken → exec (.imgWrite q a v) s = .next (((u.setResv p d n).parityGood a).complete q 0 0 0 [])) ∧
      (¬ taken → exec (.imgWrite q a v) s = ignored a)) ∧
    (s.present p = true → ∀ d : Dir, exec (.registerWrite q 2 (0x10DC#16 + BitVec.ofNat 16 (0x100 * p.val + if d = .rx then 0 else 4)) v) s =
      .next ((u.modPort p (fun x => { x with cfg := match d with
        | .rx => x.cfg.set 20 (v &&& 0xFFFFF#32)
        | .tx => x.cfg.set 21 (v &&& 0xFFFFF#32) })).complete q 0 0 0 [])) ∧
    exec (.registerWrite q 2 0x6020 v) s = .next ({ u with host := { u.host with rxIlv := v &&& 0x80FFFFFF#32 } }.complete q 0 0 0 [])

/-- READ and WRITE (R256 to R258, R440, R441, R447, R472): one 32-bit beat that no rule of Table 9.3 refuses reads the
register's value, or clears the event bits written as 1; the READ of a configuration register is a parity check too,
which acts where its parity bit fails: it returns the stored value, the record keeps the register, and its port or
region freezes or the built-in default takes its place (R290, R291); a refused one completes with ACCESS_ERROR, is
recorded and changes no register, as does every access to TX_COMMIT but a single 32-bit beat; a WRITE whose words do not
match its length and a malformed control block complete with MALFORMED. REGISTER_WRITE is a WRITE of one beat.
Completes: read, write, registerWrite, malformedControlBlock. -/
def Obligations.RequestsComplete : Prop :=
  ∀ (s : State) (q : Req) (addr : BitVec 16) (r : Reg) (v : Word) (mids : List Mid), s.hostReady →
    let u := s.acceptBlk
    (∀ size m a, u.refusal q false size addr (m.toNat + 1) [] = some a →
      exec (.read q size m addr) s = .next (u.accessError q a (m.toNat + 1))) ∧
    (∀ (p : PortId) size (m : BitVec 6), size ≠ 2#2 ∨ m ≠ 0 → ∃ a,
      exec (.read q size m (0x1030#16 + BitVec.ofNat 16 (0x100 * p.val))) s = .next (u.accessError q a (m.toNat + 1))) ∧
    (regAt addr.toNat = some r → u.refusal q false 2 addr 1 [] = none → r.single = false →
      let t := u.checkCfg addr
      exec (.read q 2 0 addr) s = .next (t.complete q 0 0 0 [u.readReg (u.secure q) r]) ∧
      (u.isCfg r = false ∨ addr ∉ s.boot.cfgBad → t = u) ∧
      (u.isCfg r = true → addr ∈ s.boot.cfgBad → t.parityRecord.getLsbD 31 = true ∧
        (∀ p x, r = .port p x → (t.port p).frozen = true ∧ (t.port p).cfg = (s.port p).cfg) ∧
        (∀ p d, r = .resv p d → (t.region (regionOf p)).frozen = true) ∧
        (r = .trkCfg → t.boot.trkCfg = Config.builtinTrkCfg ∧ addr ∉ t.boot.cfgBad) ∧
        (r = .imgDevice → t.boot.imgDevice = Config.builtinImgDevice ∧ addr ∉ t.boot.cfgBad) ∧
        (∀ i, r = .frameTable i → addr ∉ t.boot.cfgBad) ∧
        ∀ p, r = .benchPsel p → (t.port p).benchEn = false ∧ (t.port p).benchLevel = 0)) ∧
    (∀ size (m : BitVec 6) ws a, ws.length = (if size = 3#2 then 2 * (m.toNat + 1) else m.toNat + 1) →
      u.refusal q true size addr (m.toNat + 1) ws = some a →
      exec (.write q size m addr ws mids) s = .next (u.accessError q a (m.toNat + 1))) ∧
    (∀ size (m : BitVec 6) ws, ws.length ≠ (if size = 3#2 then 2 * (m.toNat + 1) else m.toNat + 1) →
      exec (.write q size m addr ws mids) s = .next (u.complete q 5 0 0 [])) ∧
    (regAt addr.toNat = some r → u.refusal q true 2 addr 1 [v] = none → r.acc = .w1c → u.hidden q r = false →
      exec (.write q 2 0 addr [v] mids) s = .next ((u.clearEvents r v).complete q 0 0 0 []) ∧
      exec (.registerWrite q 2 addr v) s = .next ((u.clearEvents r v).complete q 0 0 0 [])) ∧
    (regAt addr.toNat = some r → u.refusal q true 2 addr 1 [v] = none → u.hidden q r = true →
      exec (.registerWrite q 2 addr v) s = .next (u.complete q 0 0 0 [])) ∧
    (u.clearEvents .hostErrors v).host.errors = s.host.errors &&& ~~~(bits v 0 6) ∧
    (u.clearEvents .powerEvents v).pw.events = u.pw.events &&& ~~~(bits v 0 7) ∧
    (u.clearEvents .hostErrors v).ports = s.ports ∧
    ∀ op tag w1, exec (.malformedControlBlock op tag (some w1)) s = .next (u.complete
      (if op = 1 ∨ op = 2 ∨ op = 3 then { tag := tag, sec := w1.getLsbD 31, proc := bits w1 29 2 }
       else { tag := tag, sec := false, proc := 0 }) 5 0 0 [])

/-- Host items and credits (R58, R270 to R275): a QWRITE's cells are carried and its items wait in order, entering at
QWRITE_COMPLETE or where an earlier need has them enter (log 70), and it completes once they have entered, with the
beats a reset failed; a TX_COMMIT waits, and returns GAPS and ENTERED once what was accepted before it has entered or
stands under a written GAP, later than R275's 200 µs where that GAP is kept until a later Run (log 111); an RX_CREDIT
sets a port's limit unless it lies 2^23 or more ahead, which RXC_BAD records. Completes: qwrite, qwriteComplete,
txCommit, txCommitReturn, rxCredit. -/
def Obligations.HostItemsAct : Prop :=
  ∀ (s : State) (q : Req) (p : PortId) (urgent odd : Bool) (ws : List Word) (n : BitVec 24), s.hostReady →
    let u := s.acceptBlk
    (ws.length = 0 ∨ 64 < ws.length → exec (.qwrite q urgent p odd ws) s = .next (u.complete q 5 0 0 [])) ∧
    (0 < ws.length → ws.length ≤ 64 → s.present p = false → exec (.qwrite q urgent p odd ws) s = .next (u.complete q 0 0 0 [])) ∧
    (0 < ws.length → ws.length ≤ 64 → s.present p = true → ∃ t, exec (.qwrite q urgent p odd ws) s = .next t ∧
      (let w : QWrite := { q := q, p := p, order := s.host.accepted + 1, beats := ws.length,
                           left := qwriteItems urgent (cellItems (qwriteCells odd ws)) 0, failedAt := none }
       t.host.qwrites = s.host.qwrites ++ [w]) ∧
      (t.port p).carried = (s.port p).carried + BitVec.ofNat 24 (2 * ws.length - (if odd then 1 else 0)) ∧
      (t.port p).txq = (s.port p).txq) ∧
    (∀ w, s.host.qwrites.find? (fun y => sameReq y.q q) = some w →
      let e := s.enterQwrites w.p (w.order + 1)
      let r := { e with host := { e.host with qwrites := e.host.qwrites.filter (fun y => y.order != w.order) } }
      (w.failedAt = none → exec (.qwriteComplete q) s = .next (r.complete w.q 0 0 0 [])) ∧
      ∀ k, w.failedAt = some k →
        exec (.qwriteComplete q) s = .next (r.complete w.q 3 (w.beats - k) (BitVec.ofNat 16 k) [])) ∧
    (s.present p = true → exec (.txCommit q p) s =
      .next { u with host := { u.host with commits := s.host.commits ++ [{ q := q, p := p, order := s.host.accepted + 1 }] } }) ∧
    (s.present p = false → exec (.txCommit q p) s = .next (u.complete q 0 0 0 [0])) ∧
    (∀ c, s.host.commits.find? (fun y => sameReq y.q q) = some c →
      let e := (s.enterQwrites c.p c.order).tryGap c.p .tx false
      ((e.port c.p).lossesShown c.order = true → ∃ t : State, exec (.txCommitReturn q) s =
        .next (t.complete c.q 0 0 0 [((t.port c.p).gaps.setWidth 32 <<< 24) ||| (t.port c.p).entered.setWidth 32]) ∧
        t.host.commits = s.host.commits.filter (fun y => y.order != c.order) ∧ t.ports = e.ports) ∧
      ((e.port c.p).lossesShown c.order = false → exec (.txCommitReturn q) s = .next e)) ∧
    (s.present p = true → ∃ t, exec (.rxCredit (oneBit 16 p.val) [n]) s = .next t ∧
      ((n - (s.port p).rxCarried).toNat < 2 ^ 23 → (t.port p).rxLimit = n ∧ (t.port p).rxLimitGiven = true ∧
        t.host.errors = s.host.errors) ∧
      (2 ^ 23 ≤ (n - (s.port p).rxCarried).toNat → t.ports = s.ports ∧ t.host.errors = s.host.errors ||| 32#6))

/-! ### The trunk (08) -/

/-- The lanes (R223 to R227): a full training begins where the link is down; a drop counts its code errors, removes its
lane and retrains, WIDTH falling to the survivors with the drop (log 49), a lane powered down outside the width among
them (log 121, the model's choice), or with the last lane the link is down; two missing MARKs in succession drop a lane
(log 33); a retrain's end puts the surviving lanes in use with the delay measured (its rounding the model's choice, log
122), every coefficient and the settings of pairs not in use kept; a lane that locks under test, of which there is none
in Sleep, and that the host agrees to comes back by a retrain (log 34); a millisecond without a lane sets holdover. The
ordered sets (R224, Table 8.3): a training set is 16 symbols, its flags say what the Lulos offers, a halted device sets
HALTED and fills with K28.5, D21.5 (R356). Completes: trainingStart, laneDrop, markMissing, retrainEnd, laneTest,
laneRestore, holdover. -/
def Obligations.LanesAct : Prop :=
  (∀ (s : State) (k : Fin 4) (tn : Trained) (locked : Bool) (lane : Word) (errs : BitVec 8),
    (s.pw.inputOn = true → s.tr.link = .down → (s.boot.stage = .training ∨ s.boot.stage = .halted ∨
        (s.boot.stage = .released ∧ s.dev.st ≠ .deep)) → exec .trainingStart s = .next { s with
      tr := { s.tr with link := .training }
      ties := s.ties.map (fun g => { g with disturbed := g.disturbed || g.opened }) }) ∧
    (s.laneLive k = true → let left := s.tr.alive &&& ~~~(oneBit 4 k.val)
      ∃ t, exec (.laneDrop ⟨k, errs⟩) s = .next t ∧ t.tr.alive = left ∧ t.tr.trkEvents = s.tr.trkEvents ||| 1#11 ∧
        t.ports = s.ports ∧ t.tr.stored = s.tr.stored ∧
        (bits t.tr.lanes[k] 0 8 : BitVec 8) = satAdd (bits s.tr.lanes[k] 0 8 : BitVec 8) errs.toNat ∧
        (bits t.tr.lanes[k] 8 24 : BitVec 24) = bits s.tr.lanes[k] 8 24 ∧
        (left = 0 → t.tr.link = .down ∧ t.tr.width = 0) ∧
        (left ≠ 0 → t.tr.link = .retrain ∧ t.tr.retrains = satInc s.tr.retrains ∧
          t.tr.width = BitVec.ofNat 3 (min s.tr.width.toNat (popcount left)))) ∧
    (s.laneLive k = true → ∀ next, s.tr.markMissed.getLsbD k.val = false ∨ next = false → exec (.markMissing ⟨k, next⟩) s =
      .next { s with tr := { s.tr with markMissed := s.tr.markMissed ||| oneBit 4 k.val } }) ∧
    (s.laneLive k = true → s.tr.markMissed.getLsbD k.val = true →
      exec (.markMissing ⟨k, true⟩) s = exec (.laneDrop ⟨k, 0⟩) s ∧ ∃ t, exec (.markMissing ⟨k, true⟩) s = .next t ∧
        t.tr.alive = s.tr.alive &&& ~~~(oneBit 4 k.val)) ∧
    (s.trunkOn = true → s.tr.link = .retrain → s.tr.restoring = false → s.tr.alive &&& tn.pairUp ≠ 0 → s.dev.st = .awake →
      s.dev.toSleep = false → s.dev.exiting = false → s.dev.changeDue = false →
      ∃ t, exec (.retrainEnd tn) s = .next t ∧ t.tr.link = .up ∧ t.tr.alive = s.tr.alive &&& tn.pairUp ∧
        (∀ j : Fin 4, (bits t.tr.lanes[j] 16 16 : BitVec 16) = bits s.tr.lanes[j] 16 16) ∧
        (∀ j : Fin 4, (s.tr.alive &&& tn.pairUp).getLsbD j.val = false → t.tr.lanes[j] = s.tr.lanes[j]) ∧
        t.tr.delay = tn.delay ∧ t.tr.delayValid = true ∧
        t.tr.width = BitVec.ofNat 3 (min s.dev.cmdWidth.toNat (popcount (s.tr.alive &&& tn.pairUp))) ∧
        t.dev.changing = false ∧ t.dev.cmdWidth = s.dev.cmdWidth ∧ t.tr.trkEvents.getLsbD 10 = true ∧
        (s.tr.delayValid = true → (s.tr.delay.toNat + 16 < tn.delay.toNat ∨ tn.delay.toNat + 16 < s.tr.delay.toNat) →
          t.tr.trkEvents.getLsbD 9 = true)) ∧
    (s.dev.st = .sleep → exec (.laneTest k ⟨locked, lane⟩) s = .next s) ∧
    (s.trunkOn = true → s.tr.link = .up → s.tr.alive.getLsbD k.val = false →
      (s.dev.st ≠ .sleep → ∃ t, exec (.laneTest k ⟨locked, lane⟩) s = .next t ∧
        t.tr.laneLocked = (if locked = true then s.tr.laneLocked ||| oneBit 4 k.val
          else s.tr.laneLocked &&& ~~~(oneBit 4 k.val)) ∧
        (bits t.tr.lanes[k] 8 24 : BitVec 24) = bits lane 8 24 ∧
        (bits t.tr.lanes[k] 0 8 : BitVec 8) = satAdd (bits s.tr.lanes[k] 0 8 : BitVec 8) (bits lane 0 8 : BitVec 8).toNat ∧
        { t with tr := s.tr } = s) ∧
      (s.tr.laneLocked.getLsbD k.val = true → ∃ t, exec (.laneRestore k true) s = .next t ∧ t.tr.link = .retrain ∧
        t.tr.restoring = true ∧ t.tr.alive = s.tr.alive ∧ t.ports = s.ports)) ∧
    (s.serving = true → (s.tr.link = .down ∨ s.tr.link = .training) → s.tr.holdover = false →
      ∃ t, exec .holdover s = .next t ∧ t.tr.holdover = true ∧ t.tr.trkEvents = s.tr.trkEvents ||| 4#11 ∧ t.ports = s.ports)) ∧
  (∀ (l m r : Byte) (f : TsFlags), (OrderedSet.ts1 l f).symbols.length = 16 ∧ (OrderedSet.ts2 l f m r).symbols.length = 16 ∧
    (OrderedSet.ts1 l f).symbols.take 4 = [symK 28 5, symK 28 2, .d l, .d f.byte] ∧
    (OrderedSet.ts2 l f m r).symbols.take 6 = [symK 28 5, symK 28 1, .d l, .d f.byte, .d m, .d r] ∧ tsFlags f.byte = f) ∧
  ∀ (s : State) (half : Bool),
    ((s.sentFlags half).halted = true ↔ s.boot.stage = .halted) ∧ (s.sentFlags half).halfAttempt = half ∧
    ((s.sentFlags half).fullRate = true → half = false ∧ s.halfForced = false ∧ s.boot.stage ≠ .halted) ∧
    (s.sentFlags half).fresh = s.tr.freshDue ∧
    (s.boot.stage = .halted → s.fill = [symK 28 5, symD 21 5]) ∧ (s.boot.stage ≠ .halted → s.fill = [symK 28 5, symD 16 2])

/-- Host blocks (R233, R238, R240, R265, R266): a data block in sequence advances the expected number, its cells are
carried and its items are placed in order; a malformed one sets the error bit. A block that fails its check, is aborted
or is of a reserved class is counted and discarded; a duplicate is dropped in silence; any other number out of sequence
is answered by one NAK for each expected number in 10 µs. A reserved link block changes nothing. A block on the lanes
(R231): SBK, its bytes, EBK and PAD to a full column, byte *i* on logical lane (*i* + 1) mod *w*. Completes:
hostDataBlock, blockDiscard, linkBlockReserved. -/
def Obligations.HostBlocksAct : Prop :=
  (∀ (s : State) (b : DataBlk) (st : BitVec 4),
    (s.hostReady → ∀ rs, blkDecode b = some rs →
      let v := forEach (s.blkCells b) (fun x t => t.carry x.1 x.2) s.acceptBlk
      exec (.hostDataBlock b) s = .next (v.placeData b (s.host.accepted + 1) (s.blkCells b) []) ∧
      v.tr.rxExpect = s.tr.rxExpect + 1) ∧
    (s.hostReady → blkDecode b = none → ∃ t, exec (.hostDataBlock b) s = .next t ∧ t.host.errors.getLsbD 3 = true ∧
      t.host.accepted = s.host.accepted + 1 ∧ t.tr.rxExpect = s.tr.rxExpect + 1) ∧
    (s.blocksFlow = true → ∀ why, (why = .crc ∨ why = .escapes ∨ (∃ k, why = .aborted k) ∨
        ∃ w, why = .reservedType w ∧ blockClass w = none) →
      ∃ t, exec (.blockDiscard why) s = .next t ∧ t.tr.discards = satInc s.tr.discards ∧
        t.tr.trkEvents = s.tr.trkEvents ||| 32#11 ∧ t.tr.rxExpect = s.tr.rxExpect ∧ t.ports = s.ports ∧ t.host = s.host) ∧
    (s.blocksFlow = true → ∀ seq ten, (s.tr.rxExpect - seq).toNat ≤ 2047 →
      exec (.blockDiscard (.outOfSeq seq ten)) s = .next s) ∧
    (s.blocksFlow = true → ∀ seq ten, 2047 < (s.tr.rxExpect - seq).toNat →
      (s.tr.nakFor = some s.tr.rxExpect → exec (.blockDiscard (.outOfSeq seq false)) s = .next s) ∧
      (s.tr.nakFor ≠ some s.tr.rxExpect ∨ ten = true → ∃ t, exec (.blockDiscard (.outOfSeq seq ten)) s = .next t ∧
        t.tr.linkOut = .nak s.tr.rxExpect ∧ t.tr.nakFor = some s.tr.rxExpect ∧ t.tr.rxExpect = s.tr.rxExpect ∧
        t.tr.trkEvents = s.tr.trkEvents ∧ t.ports = s.ports)) ∧
    exec (.linkBlockReserved st) s = .next s) ∧
  ∀ (w : Nat) (bytes : List Byte), 0 < w →
    let xs := frameSyms w bytes
    xs.length % w = 0 ∧ xs[0]? = some (symK 27 7) ∧ xs[bytes.length + 1]? = some (symK 29 7) ∧
    (∀ k, bytes.length + 2 ≤ k → k < xs.length → xs[k]? = some (symK 23 7)) ∧
    ∀ (i : Nat) (h : i < bytes.length), (laneSyms w ((i + 1) % w) xs)[(i + 1) / w]? = some (.d bytes[i])

/-- Acknowledgements and rewinds (R233, R241 to R246): an ACK or NAK releases the blocks it names and those before them,
and a NAK or the rewind timer sends every stored block again, in sequence; an ACK that names no sent block is ACK_BAD,
but for the block just before the rewind mark, whose ACK releases nothing and ends no passing (log 125); the timer's ACK
names the block before the one expected, and every eighth accepted block is acknowledged at once; at the stall limit
passing begins, but not while 2,047 blocks are stored (log 126). A link block is six bytes, WORD0 of TYPE 8 with its
subtype and number and its CRC-16, and says to its receiver what it was built from. Completes: ackReceived, nakReceived,
rewindTimeout, ackTimer, stallLimitExpiry. -/
def Obligations.AcknowledgementsAct : Prop :=
  (∀ (s : State) (a : BitVec 12), s.blocksFlow = true →
    (∀ k, s.tr.stored.findIdx? (fun b => b.seq == a && b.sent) = some k →
      exec (.ackReceived a) s = .next { s with tr := { s.tr with stored := s.tr.stored.drop (k + 1), passing := false } }.pump ∧
      ∃ t : State, exec (.nakReceived (a + 1)) s = .next t.rewind.pump ∧ t.tr.stored = s.tr.stored.drop (k + 1) ∧
        t.tr.trkEvents = s.tr.trkEvents ||| 64#11 ∧ t.ports = s.ports) ∧
    (s.tr.stored.findIdx? (fun b => b.seq == a && b.sent) = none →
      (a = s.tr.rewindSeq - 1 → exec (.ackReceived a) s = .next s.pump) ∧
      (a ≠ s.tr.rewindSeq - 1 → exec (.ackReceived a) s = .next (s.trkEvent 7).pump)) ∧
    (s.tr.stored ≠ [] → exec .rewindTimeout s = .next s.rewind) ∧
    s.rewind.tr.stored = s.tr.stored.map (fun b => { b with sent := true, fresh := false }) ∧
    s.rewind.tr.trkEvents = s.tr.trkEvents ||| 1024#11 ∧
    (∃ t, exec .ackTimer s = .next t ∧ t.tr.linkOut = .ack (s.tr.rxExpect - 1) ∧ t.tr.rxExpect = s.tr.rxExpect ∧
      t.tr.stored = s.tr.stored ∧ t.ports = s.ports) ∧
    (7 ≤ s.tr.sinceAck → s.acceptBlk.tr.linkOut = .ack s.tr.rxExpect ∧ s.acceptBlk.tr.sinceAck = 0) ∧
    s.acceptBlk.tr.rxExpect = s.tr.rxExpect + 1 ∧
    (2047 ≤ s.tr.stored.length → exec .stallLimitExpiry s = .next s) ∧
    (∀ b, s.serving = true → s.tr.stalled = true → s.tr.passing = false → bits s.boot.trkCfg 16 16 ≠ 0 →
      s.tr.stored.length < 2047 → s.tr.waitBlk = some b →
      exec .stallLimitExpiry s = .next (State.place b { s with tr := { s.tr with passing := true } }).pump)) ∧
  ∀ (b : LinkBlk) (w : Word), b.word0 = some w →
    linkBlkOf w = b ∧ bits w 28 4 = 8#4 ∧ bits w 12 12 = 0#12 ∧
    b.bytes.length = 6 ∧ b.bytes.take 4 = wordBytes w ∧ b.bytes.drop 4 = cellBytes (crc16 (wordBytes w))

/-- Device-to-host blocks (R57, R202, R237, R248, R274, R276): the block planned for a port holds at least one item and
at most 512 payload bytes, 32 escapes and the cells its limit leaves; it is built when its oldest item has waited, or is
full, or its first item is urgent, and its cells are charged. TX_CREDIT_SEND sends a block with every port's limit that
has risen (R272, R273), and NOTICE_BUILD announces the first source due to the processor (R279, R310), but not while a
block that may carry the item is built and not yet numbered, nor while any block waits for space (the model's choice,
log 62). In Sleep nothing is built (R229, R343). Completes: blockWaitExpiry, dataBlockBuild, txCreditSend, noticeBuild.
-/
def Obligations.DeviceBlocksBuild : Prop :=
  ∀ (s : State) (p : PortId),
    (∀ pl, s.planBlk p = some pl → 0 < pl.items.length ∧ (packSize pl.pack pl.urgent pl.items).1 ≤ 512 ∧
      (packSize pl.pack pl.urgent pl.items).2 ≤ 32 ∧ (pl.items.map Item.cells).sum ≤ (s.port p).rxCreditRoom ∧
      ((s.buildPlan p pl).port p).rxCarried = (s.port p).rxCarried + BitVec.ofNat 24 (pl.items.map Item.cells).sum) ∧
    (∀ pl, s.mayBuild = true → s.present p = true → s.tr.heldFor p = none → s.planBlk p = some pl → s.masked p = false →
      exec (.blockWaitExpiry p) s = .next (s.buildPlan p pl) ∧
      (pl.urgent = true ∨ pl.full = true → exec (.dataBlockBuild (.single p)) s = .next (s.buildPlan p pl))) ∧
    (∀ b, s.mayBuild = true → s.present p = true → s.tr.heldFor p = some (b, true) → s.masked p = false →
      exec (.blockWaitExpiry p) s = .next (s.heldStep p b) ∧
      exec (.dataBlockBuild (.single p)) s = .next (s.heldStep p b)) ∧
    (∀ b, s.mayBuild = true → s.planIlv = some b → exec (.dataBlockBuild .interleaved) s = .next (s.buildIlv b)) ∧
    (let ps := s.presentPorts.filter (fun o => (s.port o).limitRisen)
     let b := creditBlk (ps.map (fun o => (o, (s.port o).txLimit)))
     let v := forEach ps (fun o t => t.modPort o (fun x => { x with limitSent := x.txLimit, limitGiven := true })) s
     (ps ≠ [] → s.ctlReady b.size = true → exec .txCreditSend s = .next (v.sendCtl b) ∧
      ∀ o, o ∈ ps → (v.port o).limitSent = (s.port o).txLimit ∧ (v.port o).limitGiven = true) ∧
     (ps = [] → exec .txCreditSend s = .next s)) ∧
    (s.dev.st = .sleep → exec .txCreditSend s = .next s ∧ exec (.blockWaitExpiry p) s = .next s ∧
      (∀ sel, exec (.dataBlockBuild sel) s = .next s) ∧ ∀ proc, exec (.noticeBuild proc) s = .next s) ∧
    ∀ proc i d, s.att.due.find? (fun x => x.2 == proc) = some (i, d) →
      let x := s.att.srcs[i]
      let b := noticeBlk proc x.count i
      (s.ctlReady b.size = true → s.noticeWaits i = false → exec (.noticeBuild proc) s = .next ((State.count 0x0A0 { s with
        att := s.att.put i { x with noticed := x.noticed ||| oneBit 4 proc.toNat } }).sendCtl b)) ∧
      (s.noticeWaits i = true → exec (.noticeBuild proc) s = .next s) ∧
      ((s.tr.heldFor p).isSome = true → i.val / 8 = p.val → i.val % 8 ≤ 3 → s.noticeWaits i = true) ∧
      (s.tr.waitBlk.isSome = true → exec (.noticeBuild proc) s = .next s)

/-- Sleep (R229, R340, R343, R344). The retrain of its command ends in it: one lane is in use, attention and counters
are saved. In Sleep: a command to Run or Idle begins the exit, with the width it commands and no retrain of its own, one
to Sleep is done at once (the model's choice, log 75), one to Deep is carried out, a width command is refused; port
commands complete, and those to Ready and Run wait; the attention, counter, claim and window registers refuse every
request; a QWRITE is carried and waits, and does not complete; a data block is held, or discarded where it overfills a
placement buffer; resets and flushes wait (log 110). The exit, once the completion of its command is sent (R277; log
128): attention is restored, the counters as they were; the width is commanded again by a retrain; the queue commands
act; the held blocks enter in order, each item counting in ENTERED and its cells in P; the deferred port commands start
in the order of acceptance; and STATE_DONE and WOKE are set. Completes: sleepExitEnd. -/
def Obligations.SleepActs : Prop :=
  (∀ (s : State) (tn : Trained), s.trunkOn = true → s.tr.link = .retrain → s.tr.restoring = false →
    s.tr.alive &&& tn.pairUp ≠ 0 → s.dev.st = .awake → s.dev.toSleep = true → s.dev.changeDue = false →
    ∃ t, exec (.retrainEnd tn) s = .next t ∧ t.dev.st = .sleep ∧ t.dev.changing = false ∧ t.dev.toSleep = false ∧
      t.tr.link = .up ∧ t.tr.width = 1 ∧ t.tr.laneLocked = 0 ∧ t.att.saved = true ∧ t.pw.events.getLsbD 5 = true) ∧
  (∀ (s : State) (q : Req) (w : BitVec 3) (ports : BitVec 16) (mids : List Mid) (p : PortId), s.blocksFlow = true →
    s.boot.stage = .released → s.dev.st = .sleep →
    let u := s.acceptBlk
    let ok (t : State) : Out := .next (t.complete q 0 0 0 [])
    let all (want : PState) (ms : List Mid) (t : State) : State :=
      forEach (s.portsOf ports).zipIdx (fun x t => t.portCommand x.1 want (ms.getD x.2 .idle)) t
    let exits (v : BitVec 3) : Out := ok { u with dev := { s.dev with
      changing := true, byState := true, exiting := true, cmdWidth := v } }
    let shut (a : BitVec 16) : Out := .next (u.accessError q a 1)
    (s.dev.changing = false → exec (.deviceStateRun q) s = exits (BitVec.ofNat 3 (popcount s.tr.trained)) ∧
      exec (.deviceStateIdle q) s = exits 1 ∧ (s.portsQuiet = true → exec (.deviceStateSleep q) s = ok (u.powerEvent 5))) ∧
    (s.dev.changing = false → s.dev.exiting = false → s.portsQuiet = true → s.deepAllowed = true → s.svc.busy = .none →
      exec (.deviceStateDeep q) s = .next (({ u with dev := { s.dev with
        changing := true, byState := true, deepWait := true } }.complete q 0 0 0 []).enterDeep)) ∧
    exec (.trkWidthCmd q w) s = .next (u.complete q 2 1 0 []) ∧
    exec (.portOff q ports mids) s = ok (all .off mids u) ∧ exec (.portRetain q ports mids) s = ok (all .retain mids u) ∧
    exec (.portReady q ports mids) s = ok (all .ready mids u) ∧
    (s.runHeld = false → exec (.portRun q ports) s = ok (all .run [] u)) ∧
    (∀ (i : SrcId) (k : Fin 5) (v : Word), exec (.claim q i) s = shut (0x7000#16 + BitVec.ofNat 16 (4 * i.val)) ∧
      exec (.claimComplete q i) s = shut (0x7000#16 + BitVec.ofNat 16 (4 * i.val)) ∧
      exec (.attPendSet q k v) s = shut (0x4020#16 + BitVec.ofNat 16 (4 * k.val)) ∧
      exec (.targets q i v) s = shut (0x4400#16 + BitVec.ofNat 16 (4 * i.val)) ∧
      exec (.cntClear q v) s = shut 0x5204) ∧
    (∀ (d : Dir) (v : Word), exec (.pop q p d) s = shut (windowAddr p d 0) ∧ exec (.peek q p d) s = shut (windowAddr p d 4) ∧
      exec (.push q p d v) s = shut (windowAddr p d 8)) ∧
    (∀ (urgent odd : Bool) (ws : List Word), 0 < ws.length → ws.length ≤ 64 → s.present p = true →
      ∃ t, exec (.qwrite q urgent p odd ws) s = .next t ∧ (t.port p).txq = (s.port p).txq ∧
        (let n : QWrite := { q := q, p := p, order := s.host.accepted + 1, beats := ws.length,
                             left := qwriteItems urgent (cellItems (qwriteCells odd ws)) 0, failedAt := none }
         t.host.qwrites = s.host.qwrites ++ [n]) ∧
        (t.port p).carried = (s.port p).carried + BitVec.ofNat 24 (2 * ws.length - (if odd then 1 else 0))) ∧
    exec (.qwriteComplete q) s = .next s ∧
    (∀ (b : DataBlk) (rs : List (PortId × List TxItem)), blkDecode b = some rs →
      (s.overfills b (s.blkCells b) = true → exec (.hostDataBlock b) s = exec (.blockDiscard .crc) s) ∧
      (s.overfills b (s.blkCells b) = false → ∃ t, exec (.hostDataBlock b) s = .next t ∧
        t.host.sleepHeld = s.host.sleepHeld ++ [⟨b, s.blkCells b, s.host.accepted + 1, []⟩] ∧
        ∀ o, (t.port o).txq = (s.port o).txq)) ∧
    ∀ d, ((s.queue p d).flush = .none → ((s.flushCmd p d).queue p d).flush = .waiting s.host.accepted ∧
        ((s.flushCmd p d).queue p d).items = (s.queue p d).items) ∧
      (s.resetCmd p d).host.sleepResets = s.host.sleepResets ++ [{ p := p, d := d, order := s.host.accepted }] ∧
      ((s.resetCmd p d).queue p d).items = (s.queue p d).items ∧ ((s.resetCmd p d).queue p d).flush = .none) ∧
  (∀ (s : State) (tn : Trained) (bad : RetentionFault), s.serving = true → s.dev.st = .sleep → s.dev.exiting = true →
    (s.tr.ctlQ ≠ [] ∨ s.tr.waitBlk ≠ none → exec (.sleepExitEnd tn bad) s = .next s) ∧ (s.tr.ctlQ = [] → s.tr.waitBlk = none →
    let r := { s with dev := { s.dev with
      st := .awake, exiting := false, changing := false, byState := false, changeDue := false } }.restoreAtt bad
    let w := r.wakeRetrain tn
    let v := w.runSleepCmds.releaseHeld
    r.att.saved = false ∧ r.cnt = s.cnt ∧
    ((s.tr.link = .up ∨ s.tr.link = .retrain) → s.tr.restoring = false → s.tr.alive &&& tn.pairUp ≠ 0 →
      s.dev.toSleep = false → w.tr.link = .up ∧
        w.tr.width = BitVec.ofNat 3 (min s.dev.cmdWidth.toNat (popcount (s.tr.alive &&& tn.pairUp))) ∧
        (s.tr.link = .up → w.tr.retrains = satInc s.tr.retrains)) ∧
    ∃ t, exec (.sleepExitEnd tn bad) s = .next t ∧
      t = (((forEach v.deferredList State.startDeferred v).powerEvent 5).powerEvent 6).pump ∧
      t.dev.st = .awake ∧ t.dev.exiting = false ∧ t.dev.changing = false ∧ t.dev.cmdWidth = s.dev.cmdWidth ∧
      t.att.saved = false ∧ t.host.sleepHeld = [] ∧ t.host.sleepResets = [] ∧ t.pw.events.getLsbD 5 = true ∧
      t.pw.events.getLsbD 6 = true)) ∧
  (∀ s : State, s.host.sleepFresh = [] → s.releaseHeld =
    let v := forEach s.host.sleepHeld (fun h t => t.placeData h.blk h.order h.cells h.gone)
      { s with host := { s.host with sleepHeld := [] } }
    { v with host := { v.host with sleepWrites := [] } }) ∧
  (∀ (s : State) (b : DataBlk) (rs : List (PortId × List TxItem)) (n : Nat) (cells : List (PortId × BitVec 24))
    (gone : List PortId) (p : PortId), blkDecode b = some rs → s.host.writes = [] → s.present p = true → p ∉ gone →
    let mine := (rs.filter (fun r => r.1 == p)).flatMap (fun r => r.2)
    let y := (s.placeData b n cells gone).port p
    y.entered = (s.port p).entered + BitVec.ofNat 24 mine.length ∧
    y.placed = (s.port p).placed + BitVec.ofNat 24 (mine.map (fun i => i.item.cells)).sum) ∧
  (∀ (s : State) (p : PortId) (i : Item) (o : Nat), (s.port p).txSinks = false → (s.port p).txq.flushing = false →
    (s.port p).txq.blocked = false → i.cells ≤ (s.port p).txq.freeCells (s.pool p) → s.sound p .tx = true →
    let q := ((s.txEnter p i false o).port p).txq
    q.bulkItems = (s.port p).txq.bulkItems ++ [i.withUrgent false] ∧ q.urgItems = (s.port p).txq.urgItems) ∧
  ∀ s : State, s.deferredList.Pairwise (fun a b => a.2.order ≤ b.2.order) ∧
    ∀ (p : PortId) (c : QueuedCmd),
      ((p, c) ∈ s.deferredList ↔ s.present p = true ∧ (s.port p).deferred = some c) ∧
      let y := (s.startDeferred (p, c)).port p
      let waits := raisesSupply (s.port p).st c.target = true ∧ s.mustWait (regionOf p) c.order = true
      y.deferred = none ∧
      (∀ tr, (s.port p).trans = some tr → y.trans = some tr ∧ y.queued = some c) ∧
      ((s.port p).trans = none → (s.port p).st = c.target → y.trans = none ∧ y.queued = none) ∧
      ((s.port p).trans = none → (s.port p).st ≠ c.target → waits → y.trans = none ∧ y.queued = some c) ∧
      ((s.port p).trans = none → (s.port p).st ≠ c.target → ¬ waits → y.queued = none ∧
        y.trans = some { target := c.target, source := (s.port p).st, byCmd := true,
                         supply := raisesSupply (s.port p).st c.target, checked := (s.port p).st != .off })

/-- Deep ends (R230, R345, R346, R370): the wake tone powers its domains, resets POWER_EVENTS (R446; log 54), and notes
whether a fuse shadow word or an image shadow word fails its parity, so that Kiln or Slip must run again; once neither
must, at the tone or as the last of the two passes, attention is restored and the queues are up and empty with every
port's state as it was (STAGE reads released throughout: the model's choice, log 133), and a full training begins, whose
LINK_UP ends the exit: the device is in Run on all the pairs that trained, at half rate where Deep began so, with WOKE,
the lanes' code errors are 0 (R446), and the service logic runs. A LINK_UP after release (R223, R239, R248, R278, R318):
FRESH on either side restarts the numbers, the replay buffer, the credits and P, ends every claim (in Sleep too, while
the state is saved: log 141, DEDUCED) and every request that waited, marks the losses of the ports unknown (Table 8.21;
log 92), keeps a data block that waited and drops a waiting control block (log 152, DEDUCED); in Sleep the transmit
queues stay and their GAP is owed (log 57). Without FRESH nothing of it happens. Completes: wakeTone, trainingStart,
linkUp (after release). -/
def Obligations.DeepAndFreshEnd : Prop :=
  (∀ (s : State) (fuses : List (Fin 32 × Word)) (image : List ShadowUpset) (bad : RetentionFault), s.boot.stage = .released →
    s.pw.inputOn = true → s.dev.st = .deep → s.dev.exiting = false →
    let v := fuses.foldl (fun v f => v.set f.1 (v[f.1] ^^^ f.2)) s.boot.fuseShadow
    let ups := s.boot.upsets ++ image
    let flips (w : ShadowWord) : Word := (ups.filter (fun u => u.word == w)).foldl (fun f u => f ^^^ u.flip) 0
    ∃ t, exec (.wakeTone fuses image bad) s = .next t ∧ t.dev.exiting = true ∧ t.dev.st = .deep ∧ t.boot.fuseShadow = v ∧
      (t.boot.rerunKiln = true ↔ ∃ w : Fin 32, w ≠ 3 ∧ evenParity v[w] = false) ∧
      (t.boot.rerunSlip = true ↔ ∃ u, u ∈ ups ∧ evenParity (flips u.word) = false) ∧ t.pw.events = 0 ∧
      (t.boot.rerunKiln = false → t.boot.rerunSlip = false → t.att.saved = false ∧ ∀ o, t.present o = true →
        (t.port o).st = (s.port o).st ∧ (t.port o).rxq.items = 0 ∧ (t.port o).txq.items = 0) ∧
      (t.boot.rerunKiln = true ∨ t.boot.rerunSlip = true → t.att = s.att ∧ t.ports = s.ports) ∧
      t.boot.fuseArray = s.boot.fuseArray ∧ t.flash = s.flash) ∧
  (∀ s : State, s.pw.inputOn = true → s.boot.stage = .released → s.dev.st = .deep → s.dev.exiting = true →
    let up (t : State) : Prop := t.boot.rerunKiln = false ∧ t.boot.rerunSlip = false ∧ t.boot.stage = .released ∧
      t.att.saved = false ∧ ∀ o, t.present o = true → (t.port o).st = (s.port o).st ∧ (t.port o).rxq.items = 0 ∧
        (t.port o).txq.items = 0 ∧ (t.port o).resvRx = bits t.boot.shadow.resv[o] 0 12 ∧
        (t.port o).resvTx = bits t.boot.shadow.resv[o] 16 12
    (∀ flips reads, s.boot.rerunKiln = true → s.boot.rerunSlip = false → firstBadFuse (s.kilnReads flips) = none →
      ∃ t, exec (.kilnAttempt flips reads) s = .next t ∧ t.boot.fuseShadow = s.kilnReads flips ∧ up t) ∧
    (s.boot.rerunKiln = false → s.boot.rerunSlip = true → ∃ t, exec .slip s = .next t ∧ up t)) ∧
  (∀ s : State, s.pw.inputOn = true → s.boot.stage = .released → s.tr.link = .down → s.dev.st = .deep →
    let ready := s.dev.exiting = true ∧ s.boot.rerunKiln = false ∧ s.boot.rerunSlip = false
    (ready → exec .trainingStart s = .next { s with
      tr := { s.tr with link := .training }
      ties := s.ties.map (fun g => { g with disturbed := g.disturbed || g.opened }) }) ∧
    (¬ ready → exec .trainingStart s = .next s)) ∧
  ∀ (s : State) (tn : Trained) (halfAttempt : Bool) (flags ms : Byte), s.pw.inputOn = true → s.boot.stage = .released →
    s.tr.link = .training → tn.pairUp ≠ 0 →
    let fresh := flags.getLsbD 1 = true ∨ s.tr.freshDue = true
    ∃ t, exec (.linkUp tn halfAttempt flags ms) s = .next t ∧ t.tr.alive = tn.pairUp ∧ t.tr.delay = tn.delay ∧
      t.flash = s.flash ∧ (s.dev.changeDue = false → t.tr.link = .up) ∧
      (s.dev.st = .deep → s.dev.toSleep = false → s.dev.changeDue = false → t.dev.st = .awake ∧ t.dev.exiting = false ∧
        t.dev.cmdWidth = BitVec.ofNat 3 (popcount tn.pairUp) ∧ t.tr.width = BitVec.ofNat 3 (popcount tn.pairUp) ∧
        t.tr.half = (s.halfForced || halfAttempt || !flags.getLsbD 0 || flags.getLsbD 2 || s.tr.half) ∧
        (∀ k : Fin 4, bits t.tr.lanes[k] 0 8 = 0) ∧ t.svc.running = true ∧ t.pw.events.getLsbD 6 = true) ∧
      (fresh → t.tr.stored = [] ∧ t.tr.txNext = 0 ∧ t.tr.rxExpect = 0 ∧ t.tr.waitBlk = none ∧ t.tr.ctlQ = [] ∧
        t.host.commits = [] ∧ t.host.qwrites = [] ∧ t.host.stalls = [] ∧
        (∀ i : SrcId, t.att.srcs[i].claimed = false) ∧
        t.tr.heldBlks = (match s.tr.waitBlk with
          | some b => if b.isCtl = true then s.tr.heldBlks else b :: s.tr.heldBlks
          | none => s.tr.heldBlks) ∧
        ∀ p, s.present p = true → (t.port p).carried = 0 ∧ (t.port p).limitGiven = false ∧ (t.port p).rxCarried = 0 ∧
          (t.port p).rxLimitGiven = false ∧ (t.port p).portLossUnknown = true ∧
          (s.dev.st = .awake → (t.port p).placed = 0) ∧
          (s.dev.st = .sleep → (t.port p).txq = (s.port p).txq ∧ (p, s.host.accepted) ∈ t.host.sleepFresh)) ∧
      (¬ fresh → t.tr.rxExpect = s.tr.rxExpect ∧ t.host.commits = s.host.commits ∧ t.host.qwrites = s.host.qwrites ∧
        ∀ p, (t.port p).carried = (s.port p).carried ∧ (t.port p).txq = (s.port p).txq)

end
end

