-- ==== Sys2Proof/Laws/Apart.lean ====
section
/-! SUPPORT. What the operations on one port leave alone: each keeps `State.apart p`, everything but port `p` and the
shared registers its events reach. One lemma per operation; a proof about a command cites them and unfolds nothing. -/

namespace Sys2Proof.Machine

theorem setPort_apart (s : State) (p : PortId) (x : Port) : (s.setPort p x).apart p = s.apart p := by
  simp [State.apart, State.setPort, Vector.set_set]
theorem modPort_apart (s : State) (p : PortId) (f : Port → Port) : (s.modPort p f).apart p = s.apart p :=
    setPort_apart ..
theorem modRegion_apart (s : State) (p : PortId) (f) : (s.modRegion (regionOf p) f).apart p = s.apart p := by
  simp [State.apart, State.modRegion, Vector.set_set]
theorem modTie_apart (s : State) (p : PortId) (g f) : (s.modTie g f).apart p = s.apart p := rfl
theorem setQueue_apart (s : State) (p : PortId) (d q) : (s.setQueue p d q).apart p = s.apart p := setPort_apart ..
theorem apart_ite (c : Prop) [Decidable c] (a b : State) (p) :
    (if c then a else b).apart p = if c then a.apart p else b.apart p := by split <;> rfl
theorem forEach_apart {α : Type} (xs : List α) (f : α → State → State) (s : State) (p) (h : ∀ x t, (f x t).apart p = t.apart p) :
   (forEach xs f s).apart p = s.apart p := by
  unfold forEach
  induction xs generalizing s with
  | nil => rfl
  | cons x xs ih => rw [List.foldl_cons, ih, h]
theorem foldl_apart {α : Type} (f : State → α → State) (p : PortId) (h : ∀ t x, (f t x).apart p = t.apart p) (l : List α) (s : State) :
    (l.foldl f s).apart p = s.apart p := by
  induction l generalizing s with
  | nil => rfl
  | cons x xs ih => rw [List.foldl_cons, ih, h]
theorem apart_if {c : Prop} [Decidable c] {a b : State} {p : PortId} {k : State} (h1 : a.apart p = k) (h2 : b.apart p = k) :
    (if c then a else b).apart p = k := by split <;> assumption
theorem attEvent_apart (i s p) : (State.attEvent i s).apart p = s.apart p := by
  unfold State.attEvent
  simp only [↓apart_ite]
  repeat' split
  all_goals rfl
theorem attFall_apart (i s p) : (State.attFall i s).apart p = s.apart p := rfl
theorem attEvents_apart (is s p) : (State.attEvents is s).apart p = s.apart p :=
    forEach_apart _ _ _ _ (fun i t => attEvent_apart i t p)
theorem count_apart (code s p) : (State.count code s).apart p = s.apart p := by
  unfold State.count
  split
  · rfl
  · dsimp only
    refine Eq.trans (foldl_apart _ p ?_ _ _) ?_
    · exact fun t i => attEvent_apart i t p
    · unfold State.apart; rfl
theorem portCount_apart (e p s) : (State.portCount e p s).apart p = s.apart p := count_apart ..
theorem markChar_apart (b p s) : (State.markChar b p s).apart p = s.apart p := by
  unfold State.markChar
  simp only [↓modPort_apart, ↓portCount_apart]
theorem tell_apart (p n s) : (State.tell p n s).apart p = s.apart p := (attEvent_apart ..).trans (modPort_apart ..)
theorem tellAll_apart (p ns s) : (State.tellAll p ns s).apart p = s.apart p :=
    forEach_apart _ _ _ _ (fun n t => tell_apart p n t)
theorem charEvent_apart (b p s) : (State.charEvent b p s).apart p = s.apart p := (tell_apart ..).trans (markChar_apart ..)
theorem markAf_apart (b p s) : (State.markAf b p s).apart p = s.apart p := by
  unfold State.markAf
  simp only [↓modPort_apart, ↓portCount_apart]
theorem afEvent_apart (b p s) : (State.afEvent b p s).apart p = s.apart p := (tell_apart ..).trans (markAf_apart ..)
theorem flowEvent_apart (b p s) : (State.flowEvent b p s).apart p = s.apart p := by
  unfold State.flowEvent
  simp only [↓modPort_apart, ↓attEvent_apart, ↓portCount_apart]
theorem markRxq_apart (b p s) : (State.markRxq b p s).apart p = s.apart p := by
  unfold State.markRxq
  simp only [↓modPort_apart, ↓portCount_apart]
theorem rxqEvent_apart (b p s) : (State.rxqEvent b p s).apart p = s.apart p := by
  unfold State.rxqEvent
  simp only [↓tell_apart, ↓markRxq_apart, ↓apart_ite, ite_self]
theorem txqEvent_apart (b p s) : (State.txqEvent b p s).apart p = s.apart p := by
  unfold State.txqEvent
  simp only [↓modPort_apart, ↓attEvent_apart, ↓portCount_apart, ↓apart_ite, ite_self]
theorem qFaultEvent_apart (b p s) : (State.qFaultEvent b p s).apart p = s.apart p := by
  unfold State.qFaultEvent
  simp only [↓modPort_apart, ↓attEvent_apart, ↓portCount_apart]
theorem pstateEvent_apart (b p s) : (State.pstateEvent b p s).apart p = s.apart p := by
  unfold State.pstateEvent
  simp only [↓modPort_apart, ↓attEvent_apart]
theorem markLine_apart (c p s) : (State.markLine c p s).apart p = s.apart p := modPort_apart ..
theorem hostError_apart (b s p) : (State.hostError b s).apart p = s.apart p := by
  unfold State.hostError
  simp only [↓attEvent_apart, ↓count_apart]
  rfl
theorem powerEvent_apart (b s p) : (State.powerEvent b s).apart p = s.apart p := by
  unfold State.powerEvent
  simp only [↓attEvent_apart, ↓count_apart]
  rfl
theorem attUnitEvent_apart (b s p) : (State.attUnitEvent b s).apart p = s.apart p := rfl
theorem setPool_apart (p n s) : (State.setPool p n s).apart p = s.apart p := by
  unfold State.setPool
  simp only [↓modRegion_apart, ↓count_apart, ↓apart_ite, ite_self]
theorem putQueue_apart (p d q n s) : (State.putQueue p d q n s).apart p = s.apart p :=
    (setPool_apart ..).trans (setQueue_apart ..)
theorem modQueue_apart (p d f s) : (State.modQueue p d f s).apart p = s.apart p := setQueue_apart ..
theorem deliver_apart (p s) : (State.deliver p s).apart p = s.apart p :=
    (tellAll_apart ..).trans (setQueue_apart ..)
theorem addLoss_apart (p d reason count notes s) : (State.addLoss p d reason count notes s).apart p = s.apart p := by
  unfold State.addLoss
  simp only [↓modQueue_apart]
theorem addHeldLoss_apart (p s) : (State.addHeldLoss p s).apart p = s.apart p := by
  unfold State.addHeldLoss
  simp only [↓modQueue_apart]
theorem lossSince_apart (p o s) : (State.lossSince p o s).apart p = s.apart p := modPort_apart ..
theorem enterItem_apart {p d i u ns o} {s t : State} (h : s.enterItem p d i u ns o = some t) : t.apart p = s.apart p := by
  unfold State.enterItem at h
  dsimp only at h
  split at h
  · exact absurd h (by simp)
  split at h
  · exact absurd h (by simp)
  · cases h
    simp only [↓putQueue_apart, ↓apart_ite]
    cases d <;> simp only [↓putQueue_apart, ↓txqEvent_apart, ↓markRxq_apart, ↓apart_ite, ite_self]
theorem noteTxGap_apart (p r s) : (State.noteTxGap p r s).apart p = s.apart p := by
  unfold State.noteTxGap
  simp only [↓modPort_apart, ↓txqEvent_apart]
theorem writeGap_apart (p d s) : (State.writeGap p d s).apart p = s.apart p := by
  unfold State.writeGap
  split
  · rfl
  · dsimp only
    split
    · rfl
    · have h2 := (enterItem_apart ‹_›).trans (modQueue_apart ..)
      cases d
      · exact apart_if ((addHeldLoss_apart ..).trans ((markRxq_apart ..).trans h2)) ((markRxq_apart ..).trans h2)
      · exact (noteTxGap_apart ..).trans h2
theorem payFlush_apart (p d n s) : (State.payFlush p d n s).apart p = s.apart p := by
  induction n generalizing s with
  | zero => rfl
  | succ n ih =>
    unfold State.payFlush
    split
    · rfl
    · exact (ih _).trans ((modQueue_apart ..).trans (enterItem_apart ‹_›))
theorem tryGap_apart (p d force s) : (State.tryGap p d force s).apart p = s.apart p := by
  unfold State.tryGap
  dsimp only
  refine apart_if rfl ?_
  cases d
  · exact (deliver_apart ..).trans ((payFlush_apart ..).trans (writeGap_apart ..))
  · exact (payFlush_apart ..).trans (writeGap_apart ..)
theorem takeItem_apart {p d e l} {s t : State} (h : s.takeItem p d = some (e, l, t)) : t.apart p = s.apart p := by
  unfold State.takeItem at h
  split at h
  · exact absurd h (by simp)
  split at h
  · exact absurd h (by simp)
  · cases h
    exact putQueue_apart ..
theorem tieReady_apart (g s p) : (State.tieReady g s).apart p = s.apart p := by
  unfold State.tieReady
  simp only [↓modTie_apart, ↓attEvent_apart, ↓attFall_apart, ↓apart_ite, ite_self]
theorem tieLeave_apart (p' g s p) : (State.tieLeave p' g s).apart p = s.apart p := rfl
theorem tieOpen_apart (g s p) : (State.tieOpen g s).apart p = s.apart p := rfl
theorem tieSync_apart (p s) : (State.tieSync p s).apart p = s.apart p := by
  unfold State.tieSync
  dsimp only
  rw [forEach_apart _ _ _ _ (fun g t => (tieReady_apart g _ p).trans (tieOpen_apart g t p))]
  refine apart_if rfl ?_
  split
  · exact (tieLeave_apart ..).trans (modPort_apart ..)
  · exact modPort_apart ..
theorem passTie_apart (p s) : (State.passTie p s).apart p = s.apart p := by
  unfold State.passTie
  refine apart_if (apart_if (modQueue_apart ..) rfl) ?_
  split
  · exact takeItem_apart ‹_›
  · rfl
theorem endWait_apart (p s) : (State.endWait p s).apart p = s.apart p := (modPort_apart ..).trans (passTie_apart ..)
theorem leaveTie_apart (p s) : (State.leaveTie p s).apart p = s.apart p := by
  unfold State.leaveTie
  dsimp only
  rw [tieSync_apart, forEach_apart _ _ _ _ (fun g t => modTie_apart t p g _)]
  split
  · exact (tieLeave_apart ..).trans (endWait_apart ..)
  · rfl
theorem finishFlush_apart (p d s) : (State.finishFlush p d s).apart p = s.apart p := by
  unfold State.finishFlush
  split
  · refine (tieSync_apart ..).trans ((tryGap_apart ..).trans ((modQueue_apart ..).trans ?_))
    exact apart_if rfl (addLoss_apart ..)
  · rfl
theorem atBoundary_apart (p d s) : (State.atBoundary p d s).apart p = s.apart p := apart_if (finishFlush_apart ..) rfl
theorem boundaryBefore_apart (p d i s) : (State.boundaryBefore p d i s).apart p = s.apart p :=
    apart_if (finishFlush_apart ..) rfl
theorem takeFlush_apart (p reason s) : (State.takeFlush p reason s).apart p = s.apart p := by
  unfold State.takeFlush
  dsimp only
  split
  · rfl
  · exact modQueue_apart ..
  · exact (modQueue_apart ..).trans (apart_if rfl (addLoss_apart ..))
theorem flushDiscard_apart (p d i notes s) : (State.flushDiscard p d i notes s).apart p = s.apart p :=
    (atBoundary_apart ..).trans (modQueue_apart ..)
theorem rxEntered_apart (p h s) : (State.rxEntered p h s).apart p = s.apart p := by
  unfold State.rxEntered
  simp only [↓portCount_apart, ↓markChar_apart, ↓apart_ite, ite_self]
  cases h.af
  · rfl
  · exact markAf_apart ..
theorem clearHolding_apart (p s) : (State.clearHolding p s).apart p = s.apart p := modPort_apart ..
theorem drain_apart (p s) : (State.drain p s).apart p = s.apart p := by
  unfold State.drain
  dsimp only
  have h1 := (tryGap_apart p .rx false _).trans (atBoundary_apart p .rx s)
  split
  · exact (tieSync_apart ..).trans h1
  · rename_i h _
    have h2 := (boundaryBefore_apart p .rx h.item _).trans h1
    have h3 := (clearHolding_apart p _).trans h2
    refine apart_if ?_ (apart_if ((tieSync_apart ..).trans h2) ?_)
    · exact (tieSync_apart ..).trans ((flushDiscard_apart ..).trans ((rxEntered_apart ..).trans h3))
    · split
      · exact (tieSync_apart ..).trans h2
      · exact (tieSync_apart ..).trans ((deliver_apart ..).trans ((rxEntered_apart ..).trans
          ((enterItem_apart ‹_›).trans h3)))
theorem loseItem_apart (p d reason i notes s) : (State.loseItem p d reason i notes s).apart p = s.apart p :=
    (modQueue_apart ..).trans (addLoss_apart ..)
theorem offer_apart (p h s) : (State.offer p h s).apart p = s.apart p := by
  unfold State.offer
  simp only [↓modPort_apart, ↓drain_apart]
  repeat' (first | (with_reducible rfl) | split | (simp only [↓modPort_apart, ↓markChar_apart, ↓loseItem_apart, ↓drain_apart]))
theorem offerMark_apart (p i lane s) : (State.offerMark p i lane s).apart p = s.apart p := by
  unfold State.offerMark
  simp only [↓offer_apart]
theorem offerLine_apart (p scope c lane s) : (State.offerLine p scope c lane s).apart p = s.apart p := by
  unfold State.offerLine
  simp only [↓markLine_apart, ↓offer_apart]
theorem discardHolding_apart (p reason s) : (State.discardHolding p reason s).apart p = s.apart p := by
  unfold State.discardHolding
  dsimp only
  have h : ∀ c : Bool, (if c then s else s.drain p).apart p = s.apart p := fun c => apart_if rfl (drain_apart ..)
  split
  · exact h _
  · exact (loseItem_apart ..).trans ((clearHolding_apart ..).trans (h _))
theorem cancelFlush_apart (p d s) : (State.cancelFlush p d s).apart p = s.apart p := by
  unfold State.cancelFlush
  refine (modQueue_apart ..).trans ?_
  split
  · exact apart_if rfl (addLoss_apart ..)
  · rfl
theorem emptyQueue_apart (p d reason known extra s) :
    (State.emptyQueue p d reason known extra s).apart p = s.apart p := by
  unfold State.emptyQueue
  simp only []
  repeat' (first | (with_reducible rfl) | split | (simp only [↓modPort_apart, ↓modRegion_apart, ↓count_apart, ↓setPool_apart, ↓lossSince_apart, ↓addLoss_apart, ↓tryGap_apart, ↓tieSync_apart, ↓drain_apart]))
theorem resetQueue_apart (p d reason known extra s) :
    (State.resetQueue p d reason known extra s).apart p = s.apart p := (emptyQueue_apart ..).trans (cancelFlush_apart ..)
theorem divertTags_apart (p d n m s) : (State.divertTags p d n m s).apart p = s.apart p := modQueue_apart ..
theorem renewPool_apart (p s) : (State.renewPool (regionOf p) s).apart p = s.apart p := modRegion_apart ..
theorem faultReset_apart (p d c q s) : (State.faultReset p d c q s).apart p = s.apart p := by
  unfold State.faultReset
  extract_lets ptr s1 s2 s3
  have h2 : s2.apart p = s.apart p := (modPort_apart ..).trans
    ((divertTags_apart ..).trans ((resetQueue_apart ..).trans (renewPool_apart ..)))
  have h3 : s3.apart p = s.apart p := apart_if ((qFaultEvent_apart ..).trans h2) h2
  exact apart_if ((qFaultEvent_apart ..).trans h3) h3
theorem resetParted_apart (p d s) : (State.resetParted p d s).apart p = s.apart p := apart_if rfl (faultReset_apart ..)
theorem crossFlush_apart (p d s) : (State.crossFlush p d s).apart p = s.apart p := by
  unfold State.crossFlush
  extract_lets x q whole r s1 fl s2
  have h1 : s1.apart p = s.apart p := by
    dsimp only [s1]; split
    · rfl
    · exact lossSince_apart ..
  have h2 : s2.apart p = s.apart p := (putQueue_apart ..).trans h1
  refine apart_if ((tieSync_apart ..).trans (apart_if ?_ ?_)) ((faultReset_apart ..).trans h2)
  · exact (takeFlush_apart ..).trans h2
  · exact (atBoundary_apart ..).trans h2
theorem discardQueue_apart (p d reason s) : (State.discardQueue p d reason s).apart p = s.apart p := by
  unfold State.discardQueue
  extract_lets q whole r t1 t2
  have h1 : t1.apart p = s.apart p := putQueue_apart ..
  have h2 : t2.apart p = s.apart p := by
    dsimp only [t2]; repeat' split
    · exact h1
    · exact (addLoss_apart ..).trans h1
    · exact (addLoss_apart ..).trans ((lossSince_apart ..).trans h1)
  exact apart_if h2 ((faultReset_apart ..).trans h2)
theorem txLost_apart (p reason i o s) : (State.txLost p reason i o s).apart p = s.apart p :=
    (modPort_apart ..).trans ((loseItem_apart ..).trans (lossSince_apart ..))
theorem txOver_apart (p i o s) : (State.txOver p i o s).apart p = s.apart p :=
    apart_if (txLost_apart ..) ((hostError_apart ..).trans (txLost_apart ..))
theorem txEnter_apart (p i urgent o s) : (State.txEnter p i urgent o s).apart p = s.apart p := by
  unfold State.txEnter
  dsimp only
  have h0 := modPort_apart s p (fun x => { x with placed := x.placed + BitVec.ofNat 24 i.cells })
  have h1 := (boundaryBefore_apart p .tx i _).trans h0
  have h2 := (tryGap_apart p .tx false _).trans h1
  refine apart_if ((txLost_apart ..).trans h0) (apart_if ((txLost_apart ..).trans h0) (apart_if ?_ (apart_if ?_ ?_)))
  · exact (modPort_apart ..).trans ((flushDiscard_apart ..).trans ((lossSince_apart ..).trans h1))
  · exact (txOver_apart ..).trans h2
  · split
    · exact (txOver_apart ..).trans h2
    · exact (tieSync_apart ..).trans ((modPort_apart ..).trans ((enterItem_apart ‹_›).trans h2))
theorem actFlowCode_apart (p ch s) : (State.actFlowCode p ch s).apart p = s.apart p := by
  unfold State.actFlowCode
  simp only [↓modPort_apart, ↓portCount_apart, ↓tieSync_apart, ↓apart_ite, ite_self]
theorem useGrant_apart (p s) : (State.useGrant p s).apart p = s.apart p := by
  unfold State.useGrant
  simp only [↓tieSync_apart, ↓modPort_apart, ↓flowEvent_apart, ↓apart_ite, ite_self]
theorem modAf_apart (p f s) : (State.modAf p f s).apart p = s.apart p := by
  unfold State.modAf
  simp only [↓modPort_apart]
theorem muteDiscard_apart (p s) : (State.muteDiscard p s).apart p = s.apart p := by
  unfold State.muteDiscard
  simp only [↓tieSync_apart, ↓portCount_apart, ↓modAf_apart]
theorem addrChar_apart (p cond ch s) : (State.addrChar p cond ch s).apart p = s.apart p := by
  unfold State.addrChar
  simp only [↓offer_apart, ↓modAf_apart, ↓muteDiscard_apart, ↓apart_ite, ite_self]
  repeat' (first | (with_reducible rfl) | split | (simp only [↓offer_apart, ↓modAf_apart, ↓muteDiscard_apart]))
theorem frameErr_apart (p code s) : (State.frameErr p code s).apart p = s.apart p := by
  unfold State.frameErr
  simp only [↓offer_apart, ↓modAf_apart]
theorem frameErrIfOpen_apart (p code s) : (State.frameErrIfOpen p code s).apart p = s.apart p := by
  unfold State.frameErrIfOpen
  simp only [↓frameErr_apart, ↓apart_ite, ite_self]
theorem frameEnd_apart (p s) : (State.frameEnd p s).apart p = s.apart p := by
  unfold State.frameEnd
  simp only [↓portCount_apart, ↓offerMark_apart, ↓modAf_apart]
theorem frameStart_apart (p s) : (State.frameStart p s).apart p = s.apart p := by
  unfold State.frameStart
  simp only [↓offerMark_apart, ↓modAf_apart, ↓frameEnd_apart, ↓apart_ite, ite_self]
theorem frameChar_apart (p cond ch s) : (State.frameChar p cond ch s).apart p = s.apart p := by
  unfold State.frameChar
  simp only []
  repeat' (first | (with_reducible rfl) | split | (simp only [↓offer_apart, ↓modAf_apart, ↓frameErr_apart, ↓frameEnd_apart, ↓frameStart_apart]))
theorem enterChar_apart (p cond ch s) : (State.enterChar p cond ch s).apart p = s.apart p := by
  unfold State.enterChar
  simp only [↓offer_apart, ↓actFlowCode_apart, ↓useGrant_apart, ↓addrChar_apart, ↓frameChar_apart, ↓apart_ite, ite_self]
theorem modLine_apart (p f s) : (State.modLine p f s).apart p = s.apart p := by
  unfold State.modLine
  simp only [↓modPort_apart]
theorem writeLineMarks_apart (p s) : (State.writeLineMarks p s).apart p = s.apart p := by
  unfold State.writeLineMarks
  split
  · rfl
  · dsimp only
    refine Eq.trans (foldl_apart _ p ?_ _ _) (modLine_apart ..)
    exact fun t m => offerLine_apart p m.1 m.2 _ t
theorem enterLineFault_apart (p s) : (State.enterLineFault p s).apart p = s.apart p := by
  unfold State.enterLineFault
  simp only [↓modPort_apart, ↓leaveTie_apart, ↓drain_apart, ↓addLoss_apart, ↓apart_ite, ite_self]
theorem leaveLineFault_apart (p s) : (State.leaveLineFault p s).apart p = s.apart p := by
  unfold State.leaveLineFault
  simp only [↓modPort_apart, ↓tryGap_apart, ↓tieSync_apart]
theorem lineChange_apart (p mid f s) : (State.lineChange p mid f s).apart p = s.apart p := by
  unfold State.lineChange
  simp only [↓modPort_apart, ↓powerEvent_apart, ↓tieSync_apart, ↓frameErrIfOpen_apart, ↓enterLineFault_apart, ↓leaveLineFault_apart, ↓apart_ite, ite_self]
  repeat' (first | (with_reducible rfl) | split | (simp only [↓modPort_apart, ↓offerMark_apart, ↓discardHolding_apart, ↓enterChar_apart, ↓writeLineMarks_apart]))
theorem pairCause_apart (p pr mid f s) : (State.pairCause p pr mid f s).apart p = s.apart p := by
  unfold State.pairCause
  simp only [↓lineChange_apart]
theorem startSense_apart (p prs s) : (State.startSense p prs s).apart p = s.apart p := by
  unfold State.startSense
  simp only [↓modLine_apart, ↓apart_ite, ite_self]
theorem modRx_apart (p f s) : (State.modRx p f s).apart p = s.apart p := by
  unfold State.modRx
  simp only [↓modPort_apart]
theorem glitch_apart (p s) : (State.glitch p s).apart p = s.apart p := by
  unfold State.glitch
  simp only [↓charEvent_apart, ↓modRx_apart]
theorem modTx_apart (p f s) : (State.modTx p f s).apart p = s.apart p := by
  unfold State.modTx
  simp only [↓modPort_apart]
theorem modFlow_apart (p f s) : (State.modFlow p f s).apart p = s.apart p := by
  unfold State.modFlow
  simp only [↓modPort_apart]
theorem modRate_apart (p f s) : (State.modRate p f s).apart p = s.apart p := by
  unfold State.modRate
  simp only [↓modPort_apart]
theorem startLine_apart (p n s) : (State.startLine p n s).apart p = s.apart p := by
  unfold State.startLine
  simp only [↓modTx_apart, ↓modFlow_apart, ↓apart_ite, ite_self]
theorem refuseItem_apart (p s) : (State.refuseItem p s).apart p = s.apart p := by
  unfold State.refuseItem
  simp only [↓modPort_apart, ↓txqEvent_apart]
theorem closeTxFrame_apart (p s) : (State.closeTxFrame p s).apart p = s.apart p := by
  unfold State.closeTxFrame
  simp only [↓afEvent_apart, ↓modAf_apart, ↓apart_ite, ite_self]
theorem startFrame_apart (p arg len counted s) : (State.startFrame p arg len counted s).apart p = s.apart p := by
  unfold State.startFrame
  simp only [↓modAf_apart, ↓modTx_apart, ↓startLine_apart, ↓closeTxFrame_apart]
theorem sendHeader_apart (p : PortId) (c : BitVec 9) (rest : List (BitVec 9)) (s : State) :
    (State.sendHeader p c rest s).apart p = s.apart p := by
  unfold State.sendHeader
  simp only [↓portCount_apart, ↓modAf_apart, ↓modTx_apart, ↓startLine_apart, ↓apart_ite, ite_self]
theorem sendItem_apart (p i s) : (State.sendItem p i s).apart p = s.apart p := by
  unfold State.sendItem
  simp only [↓portCount_apart, ↓flowEvent_apart, ↓modAf_apart, ↓startLine_apart, ↓refuseItem_apart, ↓apart_ite, ite_self]
  repeat' (first | (with_reducible rfl) | split | (simp only [↓modPort_apart, ↓modTie_apart, ↓attEvent_apart, ↓startLine_apart, ↓refuseItem_apart, ↓closeTxFrame_apart]))
theorem sendFrameStart_apart (p i s) : (State.sendFrameStart p i s).apart p = s.apart p := by
  unfold State.sendFrameStart
  dsimp only
  split
  · rfl
  · rename_i t h
    have ht := takeItem_apart h
    have hr : ((((t.closeTxFrame p).refuseItem p).afEvent 2 p)).apart p = s.apart p :=
      (afEvent_apart ..).trans ((refuseItem_apart ..).trans ((closeTxFrame_apart ..).trans ht))
    refine apart_if ((startFrame_apart ..).trans ht) (apart_if ?_ hr)
    split
    · rfl
    · exact hr
    · split
      · rfl
      · exact (startFrame_apart ..).trans ((takeItem_apart ‹_›).trans ht)
theorem txStart_apart (p mid s) : (State.txStart p mid s).apart p = s.apart p := by
  unfold State.txStart
  dsimp only
  refine apart_if rfl ?_
  split
  · exact (tieSync_apart ..).trans (sendHeader_apart ..)
  · split
    · rfl
    · refine apart_if rfl (apart_if ((tieSync_apart ..).trans (sendFrameStart_apart ..)) ?_)
      split
      · rfl
      · exact (tieSync_apart ..).trans ((sendItem_apart ..).trans (takeItem_apart ‹_›))
theorem holdPaid_apart (p s) : (State.holdPaid p s).apart p = s.apart p := modRegion_apart ..
theorem startCode_apart (p v s) : (State.startCode p v s).apart p = s.apart p := by
  unfold State.startCode
  simp only [↓modTx_apart]
theorem rateDone_apart (p s) : (State.rateDone p s).apart p = s.apart p := by
  unfold State.rateDone
  simp only [↓modPort_apart, ↓charEvent_apart, ↓tieSync_apart, ↓apart_ite, ite_self]

end Sys2Proof.Machine
end

