-- ==== Sys2Proof/Laws/Events.lean ====
section
/-! SUPPORT. Everything an event can change: the attention unit and the events waiting for Release, the counters with them
where the event is counted, and the event's own bit. One lemma per kind of event; a proof cites it and unfolds none. -/

namespace Sys2Proof.Machine

theorem attEvent_form (i : SrcId) (s : State) :
    ∃ a e, s.attEvent i = { s with att := a, boot := { s.boot with early := e } } := by
  unfold State.attEvent
  split
  · exact ⟨s.att, s.boot.early, rfl⟩
  · split
    · exact ⟨s.att, _, rfl⟩
    · split
      · exact ⟨_, s.boot.early, rfl⟩
      · exact ⟨_, s.boot.early, rfl⟩
theorem attEvents_form (is : List SrcId) (s : State) :
    ∃ a e, is.foldl (fun t i => t.attEvent i) s = { s with att := a, boot := { s.boot with early := e } } := by
  induction is generalizing s with
  | nil => exact ⟨s.att, s.boot.early, rfl⟩
  | cons i is ih =>
    obtain ⟨a, e, h⟩ := attEvent_form i s
    obtain ⟨a', e', h'⟩ := ih (s.attEvent i)
    exact ⟨a', e', h'.trans (by rw [h])⟩
theorem count_form (code : Nat) (s : State) :
    ∃ a c e, s.count code = { s with att := a, cnt := c, boot := { s.boot with early := e } } := by
  unfold State.count
  split
  · exact ⟨s.att, s.cnt, s.boot.early, rfl⟩
  · generalize s.cnt.bump code = r
    obtain ⟨a, e, h⟩ := attEvents_form (List.replicate r.2 147) { s with cnt := r.1 }
    exact ⟨a, r.1, e, h⟩
theorem count_attEvent_form (code : Nat) (i : SrcId) (s : State) :
    ∃ a c e, (s.count code).attEvent i = { s with att := a, cnt := c, boot := { s.boot with early := e } } := by
  obtain ⟨a, c, e, h⟩ := count_form code s
  obtain ⟨a', e', h'⟩ := attEvent_form i (s.count code)
  exact ⟨a', c, e', h'.trans (by rw [h])⟩
/-- An event of SVC_EVENTS: its bit, the notice it makes due, and what counts and raises it. -/
theorem svcEvent_form (b : Fin 11) (s : State) : ∃ a c e n, s.svcEvent b =
    { s with att := a, cnt := c, boot := { s.boot with early := e },
             svc := { s.svc with events := s.svc.events ||| oneBit 11 b, noteDue := n } } ∧
    (svcNotable.getLsbD b = false → n = s.svc.noteDue) := by
  unfold State.svcEvent
  dsimp only
  generalize hn : (s.svc.noteDue || (!s.svc.events.getLsbD b && svcNotable.getLsbD b && s.mayNotify)) = n
  have hn' : svcNotable.getLsbD b = false → n = s.svc.noteDue := by
    intro hb
    rw [← hn, hb]
    simp
  split
  · obtain ⟨a, c, e, h⟩ := count_form (0x090 + b) { s with svc :=
      { s.svc with events := s.svc.events ||| oneBit 11 b, noteDue := n } }
    exact ⟨a, c, e, n, h, hn'⟩
  · obtain ⟨a, c, e, h⟩ := count_attEvent_form (0x090 + b) 146 { s with svc :=
      { s.svc with events := s.svc.events ||| oneBit 11 b, noteDue := n } }
    exact ⟨a, c, e, n, h, hn'⟩
/-- An event of POWER_EVENTS. -/
theorem powerEvent_form (b : Fin 7) (s : State) : ∃ a c e, s.powerEvent b =
    { s with att := a, cnt := c, boot := { s.boot with early := e },
             pw := { s.pw with events := s.pw.events ||| oneBit 7 b } } :=
  count_attEvent_form (0x088 + b) (powerSource b) { s with pw := { s.pw with events := s.pw.events ||| oneBit 7 b } }
/-- An event of TRK_EVENTS. -/
theorem trkEvent_form (b : Fin 11) (s : State) : ∃ a c e, s.trkEvent b =
    { s with att := a, cnt := c, boot := { s.boot with early := e },
             tr := { s.tr with trkEvents := s.tr.trkEvents ||| oneBit 11 b } } := by
  unfold State.trkEvent
  dsimp only
  split
  · exact count_attEvent_form (0x060 + b) _ { s with tr := { s.tr with trkEvents := s.tr.trkEvents ||| oneBit 11 b } }
  · exact count_form (0x060 + b) { s with tr := { s.tr with trkEvents := s.tr.trkEvents ||| oneBit 11 b } }
/-- An event of HOST_ERRORS. -/
theorem hostError_form (b : Fin 6) (s : State) : ∃ a c e, s.hostError b =
    { s with att := a, cnt := c, boot := { s.boot with early := e },
             host := { s.host with errors := s.host.errors ||| oneBit 6 b } } :=
  count_attEvent_form (0x080 + b) 145 { s with host := { s.host with errors := s.host.errors ||| oneBit 6 b } }
/-- An event of START_EVENTS. -/
theorem startEvent_form (b : Fin 3) (s : State) : ∃ a e, s.startEvent b =
    { s with att := a, boot := { s.boot with startEvents := s.boot.startEvents ||| oneBit 3 b, early := e } } :=
  attEvent_form 152 { s with boot := { s.boot with startEvents := s.boot.startEvents ||| oneBit 3 b } }
/-- FAULT_N as R23 has it now; where it goes low, the FAULT event. -/
theorem driveFault_form (s : State) : ∃ a c e n, s.driveFault =
    { s with att := a, cnt := c, boot := { s.boot with early := e },
             pw := { s.pw with faultN := s.boot.regulated && s.pw.inputOn && s.faultWanted },
             svc := { s.svc with
               events := if s.boot.regulated && s.pw.inputOn && s.faultWanted && !s.pw.faultN
                 then s.svc.events ||| oneBit 11 1 else s.svc.events
               noteDue := n } } := by
  unfold State.driveFault
  dsimp only
  generalize (s.boot.regulated && s.pw.inputOn && s.faultWanted) = low
  split
  · obtain ⟨a, c, e, n, h, -⟩ := svcEvent_form 1 { s with pw := { s.pw with faultN := low } }
    exact ⟨a, c, e, n, h⟩
  · exact ⟨s.att, s.cnt, s.boot.early, s.svc.noteDue, rfl⟩

end Sys2Proof.Machine
end

