-- ==== Sys2Proof/Laws/Flash.lean ====
section
/-! SUPPORT. The flash as a memory: a read after a write, every other byte untouched, an erased sector, and the canonical
form kept by every operation. -/

namespace Sys2Proof.Machine

/-! ### The canonical form -/

theorem flashWfFrom_weaken {m : List Host.Cell} {lo lo' : Nat} (h : flashWfFrom lo m = true) (hl : lo' ≤ lo) :
    flashWfFrom lo' m = true := by
  cases m with
  | nil => rfl
  | cons c m =>
    simp only [flashWfFrom, Bool.and_eq_true, decide_eq_true_eq] at h ⊢
    exact ⟨⟨⟨hl.trans h.1.1.1, h.1.1.2⟩, h.1.2⟩, h.2⟩
theorem flashPut_wfFrom {m : List Host.Cell} {lo : Nat} (h : flashWfFrom lo m = true) {a : Nat} (ha : lo ≤ a)
    (ha' : a < 65536) (v : Byte) : flashWfFrom lo (flashPut m a v) = true := by
  induction m generalizing lo with
  | nil => unfold flashPut; split <;> simp_all [flashWfFrom]
  | cons c m ih =>
    obtain ⟨b, w⟩ := c
    unfold flashPut
    simp only [flashWfFrom, Bool.and_eq_true, decide_eq_true_eq] at h
    obtain ⟨⟨⟨h1, h2⟩, h3⟩, h4⟩ := h
    split
    · split
      · simp_all [flashWfFrom]
      · simp_all [flashWfFrom]
    · split
      · split
        · exact flashWfFrom_weaken h4 (by omega)
        · subst_vars; simp_all [flashWfFrom]
      · simp only [flashWfFrom, Bool.and_eq_true, decide_eq_true_eq]
        exact ⟨⟨⟨h1, h2⟩, h3⟩, ih h4 (by omega)⟩
/-- A write of one byte keeps the canonical form. -/
theorem flashPut_wf {m : List Host.Cell} (h : Memory.wf m = true) {a : Nat} (ha : a < 65536) (v : Byte) :
    Memory.wf (flashPut m a v) = true := flashPut_wfFrom h (Nat.zero_le _) ha v
/-- A write of several bytes keeps it. -/
theorem flashPutAll_wf {m : List Host.Cell} (h : Memory.wf m = true) (a : Nat) (vs : List Byte) :
    Memory.wf (flashPutAll m a vs) = true := by
  induction vs generalizing m a with
  | nil => exact h
  | cons v vs ih =>
    unfold flashPutAll
    split
    · exact ih (flashPut_wf h ‹_› v) _
    · exact ih h _
theorem flashErase_wfFrom {m : List Host.Cell} {lo : Nat} (h : flashWfFrom lo m = true) (a b : Nat) :
    flashWfFrom lo (flashErase m a b) = true := by
  induction m generalizing lo with
  | nil => rfl
  | cons c m ih =>
    simp only [flashWfFrom, Bool.and_eq_true, decide_eq_true_eq] at h
    unfold flashErase
    rw [List.filter_cons]
    split
    · simp only [flashWfFrom, Bool.and_eq_true, decide_eq_true_eq]
      exact ⟨⟨⟨h.1.1.1, h.1.1.2⟩, h.1.2⟩, ih h.2⟩
    · exact flashWfFrom_weaken (ih h.2) (Nat.le_succ_of_le h.1.1.1)
/-- An erase keeps it. -/
theorem flashErase_wf {m : List Host.Cell} (h : Memory.wf m = true) (a b : Nat) : Memory.wf (flashErase m a b) = true :=
  flashErase_wfFrom h a b

/-! ### Reads after writes -/

theorem flashRead_lt {m : List Host.Cell} {lo : Nat} (h : flashWfFrom lo m = true) {x : Nat} (hx : x < lo) :
    flashRead m x = 0xFF#8 := by
  cases m with
  | nil => rfl
  | cons c m =>
    simp only [flashWfFrom, Bool.and_eq_true, decide_eq_true_eq] at h
    unfold flashRead
    rw [if_neg (by omega), if_pos (by omega)]
theorem flashRead_flashPut_from {m : List Host.Cell} {lo : Nat} (h : flashWfFrom lo m = true) (a : Nat) (v : Byte) (x : Nat) :
    flashRead (flashPut m a v) x = if x = a then v else flashRead m x := by
  induction m generalizing lo with
  | nil =>
    unfold flashPut
    split
    · simp_all [flashRead]
    · simp only [flashRead]; split <;> simp
  | cons c m ih =>
    obtain ⟨b, w⟩ := c
    simp only [flashWfFrom, Bool.and_eq_true, decide_eq_true_eq] at h
    have hm := @flashRead_lt m (b + 1) h.2
    unfold flashPut
    by_cases h1 : a < b
    · rw [if_pos h1]
      by_cases h2 : v = 0xFF#8 <;> simp only [h2, if_true, if_false, flashRead] <;> split_ifs <;> first | rfl | omega
    · rw [if_neg h1]
      by_cases h2 : a = b
      · subst h2
        by_cases h3 : v = 0xFF#8
        · simp only [h3, if_true, flashRead]
          split_ifs <;> first | rfl | exact hm (by omega)
        · simp only [h3, if_true, if_false, flashRead]
          split_ifs <;> rfl
      · simp only [h2, if_false, flashRead]
        rw [ih h.2]
        split_ifs <;> first | rfl | omega
/-- A write of one byte: it reads back, and every other byte reads as before. -/
theorem flashRead_flashPut {m : List Host.Cell} (h : Memory.wf m = true) (a : Nat) (v : Byte) (x : Nat) :
    flashRead (flashPut m a v) x = if x = a then v else flashRead m x := flashRead_flashPut_from h a v x
/-- A write of several bytes leaves every byte outside them. -/
theorem flashRead_flashPutAll_out {m : List Host.Cell} (h : Memory.wf m = true) (a : Nat) (vs : List Byte) (x : Nat)
    (hx : x < a ∨ a + vs.length ≤ x) : flashRead (flashPutAll m a vs) x = flashRead m x := by
  induction vs generalizing m a with
  | nil => rfl
  | cons v vs ih =>
    simp only [List.length_cons] at hx
    unfold flashPutAll
    split
    · rw [ih (flashPut_wf h ‹_› v) (a + 1) (by omega), flashRead_flashPut h, if_neg (by omega)]
    · exact ih h (a + 1) (by omega)
/-- A write of several bytes: each inside the array reads back. -/
theorem flashRead_flashPutAll_in {m : List Host.Cell} (h : Memory.wf m = true) (a : Nat) (vs : List Byte) (k : Nat)
    (hk : k < vs.length) (ha : a + k < 65536) : flashRead (flashPutAll m a vs) (a + k) = vs[k] := by
  induction vs generalizing m a k with
  | nil => exact absurd hk (Nat.not_lt_zero _)
  | cons v vs ih =>
    unfold flashPutAll
    rw [if_pos (by omega)]
    have hw := flashPut_wf h (show a < 65536 by omega) v
    cases k with
    | zero =>
      rw [flashRead_flashPutAll_out hw (a + 1) vs (a + 0) (by omega), Nat.add_zero, flashRead_flashPut h, if_pos rfl]
      rfl
    | succ k =>
      have := ih hw (a + 1) k (by simpa using hk) (by omega)
      rw [show a + (k + 1) = a + 1 + k by omega, this]
      rfl
theorem flashRead_flashErase_from {m : List Host.Cell} {lo : Nat} (h : flashWfFrom lo m = true) (a b x : Nat) :
    flashRead (flashErase m a b) x = if a ≤ x ∧ x < b then 0xFF#8 else flashRead m x := by
  induction m generalizing lo with
  | nil => simp [flashErase, flashRead]
  | cons c m ih =>
    simp only [flashWfFrom, Bool.and_eq_true, decide_eq_true_eq] at h
    have hm := @flashRead_lt m (c.1 + 1) h.2
    have i := ih h.2
    have e : flashErase (c :: m) a b = if c.1 < a || b ≤ c.1 then c :: flashErase m a b else flashErase m a b :=
      List.filter_cons
    rw [e]
    split
    · rename_i hc
      simp only [Bool.or_eq_true, decide_eq_true_eq] at hc
      simp only [flashRead]
      rw [i]
      split
      · subst_vars; rw [if_neg (by omega)]
      · split
        · split <;> rfl
        · rfl
    · rename_i hc
      simp only [Bool.or_eq_true, decide_eq_true_eq] at hc
      rw [i]
      simp only [flashRead]
      split
      · rfl
      · split
        · subst_vars; omega
        · split
          · exact hm (by omega)
          · rfl
/-- An erase: the sector reads 0xFF, and every other byte reads as before. -/
theorem flashRead_flashErase {m : List Host.Cell} (h : Memory.wf m = true) (a b x : Nat) :
    flashRead (flashErase m a b) x = if a ≤ x ∧ x < b then 0xFF#8 else flashRead m x := flashRead_flashErase_from h a b x

end Sys2Proof.Machine
end

