-- ==== Sys2Proof/Laws/Kept.lean ====
section
/-! SUPPORT. What the operations leave alone in the bedrock: each keeps `State.kept`, the queue of commands, the flash, the
fuses, the image shadow, the straps and the retry counts. One lemma per operation; a proof about a command cites them
and unfolds nothing. -/

namespace Sys2Proof.Machine

theorem kept_of_apart {s t : State} {p : PortId} (h : t.apart p = s.apart p) : t.kept = s.kept := by
  have := congrArg State.kept h
  exact this
theorem setPort_kept (s : State) (p x) : (s.setPort p x).kept = s.kept := rfl
theorem modPort_kept (s : State) (p f) : (s.modPort p f).kept = s.kept := rfl
theorem modRegion_kept (s : State) (p f) : (s.modRegion p f).kept = s.kept := rfl
theorem modTie_kept (s : State) (p f) : (s.modTie p f).kept = s.kept := rfl
theorem setQueue_kept (s : State) (p d q) : (s.setQueue p d q).kept = s.kept := rfl
theorem kept_ite (c : Prop) [Decidable c] (a b : State) : (if c then a else b).kept = if c then a.kept else b.kept :=
    by split <;> rfl
theorem forEach_kept {α : Type} (xs : List α) (f : α → State → State) (s : State) (h : ∀ x t, (f x t).kept = t.kept) :
   (forEach xs f s).kept = s.kept := by
  unfold forEach
  induction xs generalizing s with
  | nil => rfl
  | cons x xs ih => rw [List.foldl_cons, ih, h]
theorem foldl_kept {α : Type} (f : State → α → State) (h : ∀ t x, (f t x).kept = t.kept) (l : List α) (s : State) :
    (l.foldl f s).kept = s.kept := by
  induction l generalizing s with
  | nil => rfl
  | cons x xs ih => rw [List.foldl_cons, ih, h]
theorem kept_upd (x : State) (b pw dev ports regions tr host ties td pr att cnt sv us fc)
    (h1 : b.fuseArray = x.boot.fuseArray) (h2 : b.image = x.boot.image) (h3 : b.straps = x.boot.straps) (h4 : b.attempts = x.boot.attempts)
    (h5 : sv.noteRetries = x.svc.noteRetries) (h6 : sv.noteWait = x.svc.noteWait) :
    State.kept (State.mk x.pending b pw dev ports regions tr host ties td pr att cnt sv x.flash us fc) = x.kept := by
  simp only [State.kept, h1, h2, h3, h4, h5, h6]
theorem lossSince_kept (p o s) : (State.lossSince p o s).kept = s.kept := kept_of_apart (lossSince_apart p o s)
theorem enterItem_kept {p d i u ns o} {s t : State} (h : s.enterItem p d i u ns o = some t) : t.kept = s.kept :=
    kept_of_apart (enterItem_apart h)
theorem takeItem_kept {p d e l} {s t : State} (h : s.takeItem p d = some (e, l, t)) : t.kept = s.kept :=
    kept_of_apart (takeItem_apart h)
theorem attEvent_kept (i s) : (State.attEvent i s).kept = s.kept := kept_of_apart (attEvent_apart i s 0)
theorem attFall_kept (i s) : (State.attFall i s).kept = s.kept := kept_of_apart (attFall_apart i s 0)
theorem attEvents_kept (is s) : (State.attEvents is s).kept = s.kept := kept_of_apart (attEvents_apart is s 0)
theorem tell_kept (p n s) : (State.tell p n s).kept = s.kept :=
    kept_of_apart (tell_apart p n s)
theorem tellAll_kept (p ns s) : (State.tellAll p ns s).kept = s.kept :=
    kept_of_apart (tellAll_apart p ns s)
theorem count_kept (code s) : (State.count code s).kept = s.kept := kept_of_apart (count_apart code s 0)
theorem countN_kept (code n s) : (State.countN code n s).kept = s.kept := foldl_kept _ (fun t c => count_kept c t) _ _
theorem portCount_kept (e p s) : (State.portCount e p s).kept = s.kept := kept_of_apart (portCount_apart e p s)
theorem markChar_kept (b p s) : (State.markChar b p s).kept = s.kept := kept_of_apart (markChar_apart b p s)
theorem charEvent_kept (b p s) : (State.charEvent b p s).kept = s.kept := kept_of_apart (charEvent_apart b p s)
theorem markAf_kept (b p s) : (State.markAf b p s).kept = s.kept := kept_of_apart (markAf_apart b p s)
theorem afEvent_kept (b p s) : (State.afEvent b p s).kept = s.kept := kept_of_apart (afEvent_apart b p s)
theorem flowEvent_kept (b p s) : (State.flowEvent b p s).kept = s.kept := kept_of_apart (flowEvent_apart b p s)
theorem markRxq_kept (b p s) : (State.markRxq b p s).kept = s.kept := kept_of_apart (markRxq_apart b p s)
theorem rxqEvent_kept (b p s) : (State.rxqEvent b p s).kept = s.kept := kept_of_apart (rxqEvent_apart b p s)
theorem txqEvent_kept (b p s) : (State.txqEvent b p s).kept = s.kept := kept_of_apart (txqEvent_apart b p s)
theorem qFaultEvent_kept (b p s) : (State.qFaultEvent b p s).kept = s.kept := kept_of_apart (qFaultEvent_apart b p s)
theorem pstateEvent_kept (b p s) : (State.pstateEvent b p s).kept = s.kept := kept_of_apart (pstateEvent_apart b p s)
theorem markLine_kept (c p s) : (State.markLine c p s).kept = s.kept := kept_of_apart (markLine_apart c p s)
theorem trkEvent_kept (b s) : (State.trkEvent b s).kept = s.kept := by
  unfold State.trkEvent
  simp only []
  repeat' (first | (with_reducible rfl) | split | (simp only [↓attEvent_kept, ↓count_kept, ↓kept_upd, eq_self]))
theorem hostError_kept (b s) : (State.hostError b s).kept = s.kept := kept_of_apart (hostError_apart b s 0)
theorem powerEvent_kept (b s) : (State.powerEvent b s).kept = s.kept := kept_of_apart (powerEvent_apart b s 0)
theorem svcEvent_kept (b s) : (State.svcEvent b s).kept = s.kept := by
  unfold State.svcEvent
  simp only [↓attEvent_kept, ↓count_kept, ↓kept_ite, ↓kept_upd, ite_self, eq_self]
theorem startEvent_kept (b s) : (State.startEvent b s).kept = s.kept := by
  unfold State.startEvent
  simp only [↓attEvent_kept, ↓kept_upd, eq_self]
theorem attUnitEvent_kept (b s) : (State.attUnitEvent b s).kept = s.kept := kept_of_apart (attUnitEvent_apart b s 0)
theorem driveFault_kept (s) : (State.driveFault s).kept = s.kept := by
  unfold State.driveFault
  simp only [↓svcEvent_kept, ↓kept_ite, ↓kept_upd, ite_self, eq_self]
theorem addLoss_kept (p d reason count notes s) : (State.addLoss p d reason count notes s).kept = s.kept :=
    kept_of_apart (addLoss_apart p d reason count notes s)
theorem deliver_kept (p s) : (State.deliver p s).kept = s.kept := kept_of_apart (deliver_apart p s)
theorem setPool_kept (p n s) : (State.setPool p n s).kept = s.kept := kept_of_apart (setPool_apart p n s)
theorem putQueue_kept (p d q n s) : (State.putQueue p d q n s).kept = s.kept :=
    kept_of_apart (putQueue_apart p d q n s)
theorem modQueue_kept (p d f s) : (State.modQueue p d f s).kept = s.kept := kept_of_apart (modQueue_apart p d f s)
theorem addHeldLoss_kept (p s) : (State.addHeldLoss p s).kept = s.kept := kept_of_apart (addHeldLoss_apart p s)
theorem noteTxGap_kept (p r s) : (State.noteTxGap p r s).kept = s.kept := kept_of_apart (noteTxGap_apart p r s)
theorem writeGap_kept (p d s) : (State.writeGap p d s).kept = s.kept :=
    kept_of_apart (writeGap_apart p d s)
theorem payFlush_kept (p d n s) : (State.payFlush p d n s).kept = s.kept := kept_of_apart (payFlush_apart p d n s)
theorem tryGap_kept (p d force s) : (State.tryGap p d force s).kept = s.kept :=
    kept_of_apart (tryGap_apart p d force s)
theorem discardQueue_kept (p d reason s) : (State.discardQueue p d reason s).kept = s.kept :=
    kept_of_apart (discardQueue_apart p d reason s)
theorem holdPaid_kept (p s) : (State.holdPaid p s).kept = s.kept :=
    kept_of_apart (holdPaid_apart p s)
theorem tieReady_kept (g s) : (State.tieReady g s).kept = s.kept := kept_of_apart (tieReady_apart g s 0)
theorem tieLeave_kept (p g s) : (State.tieLeave p g s).kept = s.kept := rfl
theorem tieOpen_kept (g s) : (State.tieOpen g s).kept = s.kept :=
    kept_of_apart (tieOpen_apart g s 0)
theorem tieSync_kept (p s) : (State.tieSync p s).kept = s.kept := kept_of_apart (tieSync_apart p s)
theorem passTie_kept (p s) : (State.passTie p s).kept = s.kept := kept_of_apart (passTie_apart p s)
theorem endWait_kept (p s) : (State.endWait p s).kept = s.kept :=
    kept_of_apart (endWait_apart p s)
theorem leaveTie_kept (p s) : (State.leaveTie p s).kept = s.kept := kept_of_apart (leaveTie_apart p s)
theorem tieRelease_kept (g s) : (State.tieRelease g s).kept = s.kept := by
  unfold State.tieRelease
  simp only [↓tieReady_kept, ↓modTie_kept, ↓forEach_kept, ↓attFall_kept, ↓count_kept, ↓tieSync_kept, ↓endWait_kept, ↓kept_upd, eq_self, implies_true]
theorem finishFlush_kept (p d s) : (State.finishFlush p d s).kept = s.kept := kept_of_apart (finishFlush_apart p d s)
theorem atBoundary_kept (p d s) : (State.atBoundary p d s).kept = s.kept :=
    kept_of_apart (atBoundary_apart p d s)
theorem boundaryBefore_kept (p d i s) : (State.boundaryBefore p d i s).kept = s.kept :=
    kept_of_apart (boundaryBefore_apart p d i s)
theorem takeFlush_kept (p reason s) : (State.takeFlush p reason s).kept = s.kept :=
    kept_of_apart (takeFlush_apart p reason s)
theorem flushDiscard_kept (p d i notes s) : (State.flushDiscard p d i notes s).kept = s.kept :=
    kept_of_apart (flushDiscard_apart p d i notes s)
theorem crossFlush_kept (p d s) : (State.crossFlush p d s).kept = s.kept := kept_of_apart (crossFlush_apart p d s)
theorem rxEntered_kept (p h s) : (State.rxEntered p h s).kept = s.kept := kept_of_apart (rxEntered_apart p h s)
theorem clearHolding_kept (p s) : (State.clearHolding p s).kept = s.kept :=
    kept_of_apart (clearHolding_apart p s)
theorem drain_kept (p s) : (State.drain p s).kept = s.kept := kept_of_apart (drain_apart p s)
theorem loseItem_kept (p d reason i notes s) : (State.loseItem p d reason i notes s).kept = s.kept :=
    kept_of_apart (loseItem_apart p d reason i notes s)
theorem offer_kept (p h s) : (State.offer p h s).kept = s.kept := kept_of_apart (offer_apart p h s)
theorem offerMark_kept (p i lane s) : (State.offerMark p i lane s).kept = s.kept :=
    kept_of_apart (offerMark_apart p i lane s)
theorem offerLine_kept (p scope c lane s) : (State.offerLine p scope c lane s).kept = s.kept :=
    kept_of_apart (offerLine_apart p scope c lane s)
theorem discardHolding_kept (p reason s) : (State.discardHolding p reason s).kept = s.kept :=
    kept_of_apart (discardHolding_apart p reason s)
theorem resetQueue_kept (p d reason known extra s) : (State.resetQueue p d reason known extra s).kept = s.kept :=
    kept_of_apart (resetQueue_apart p d reason known extra s)
theorem cancelFlush_kept (p d s) : (State.cancelFlush p d s).kept = s.kept := kept_of_apart (cancelFlush_apart p d s)
theorem emptyQueue_kept (p d reason known extra s) : (State.emptyQueue p d reason known extra s).kept = s.kept :=
    kept_of_apart (emptyQueue_apart p d reason known extra s)
theorem txLost_kept (p reason i o s) : (State.txLost p reason i o s).kept = s.kept :=
    kept_of_apart (txLost_apart p reason i o s)
theorem txOver_kept (p i o s) : (State.txOver p i o s).kept = s.kept :=
    kept_of_apart (txOver_apart p i o s)
theorem txEnter_kept (p i urgent o s) : (State.txEnter p i urgent o s).kept = s.kept :=
    kept_of_apart (txEnter_apart p i urgent o s)
theorem actFlowCode_kept (p ch s) : (State.actFlowCode p ch s).kept = s.kept :=
    kept_of_apart (actFlowCode_apart p ch s)
theorem useGrant_kept (p s) : (State.useGrant p s).kept = s.kept := kept_of_apart (useGrant_apart p s)
theorem modAf_kept (p f s) : (State.modAf p f s).kept = s.kept := kept_of_apart (modAf_apart p f s)
theorem muteDiscard_kept (p s) : (State.muteDiscard p s).kept = s.kept := kept_of_apart (muteDiscard_apart p s)
theorem addrChar_kept (p cond ch s) : (State.addrChar p cond ch s).kept = s.kept :=
    kept_of_apart (addrChar_apart p cond ch s)
theorem frameErr_kept (p code s) : (State.frameErr p code s).kept = s.kept := kept_of_apart (frameErr_apart p code s)
theorem frameErrIfOpen_kept (p code s) : (State.frameErrIfOpen p code s).kept = s.kept :=
    kept_of_apart (frameErrIfOpen_apart p code s)
theorem frameEnd_kept (p s) : (State.frameEnd p s).kept = s.kept := kept_of_apart (frameEnd_apart p s)
theorem frameStart_kept (p s) : (State.frameStart p s).kept = s.kept := kept_of_apart (frameStart_apart p s)
theorem frameChar_kept (p cond ch s) : (State.frameChar p cond ch s).kept = s.kept :=
    kept_of_apart (frameChar_apart p cond ch s)
theorem enterChar_kept (p cond ch s) : (State.enterChar p cond ch s).kept = s.kept :=
    kept_of_apart (enterChar_apart p cond ch s)
theorem modLine_kept (p f s) : (State.modLine p f s).kept = s.kept := kept_of_apart (modLine_apart p f s)
theorem writeLineMarks_kept (p s) : (State.writeLineMarks p s).kept = s.kept :=
    kept_of_apart (writeLineMarks_apart p s)
theorem enterLineFault_kept (p s) : (State.enterLineFault p s).kept = s.kept :=
    kept_of_apart (enterLineFault_apart p s)
theorem leaveLineFault_kept (p s) : (State.leaveLineFault p s).kept = s.kept :=
    kept_of_apart (leaveLineFault_apart p s)
theorem lineChange_kept (p mid f s) : (State.lineChange p mid f s).kept = s.kept :=
    kept_of_apart (lineChange_apart p mid f s)
theorem pairCause_kept (p pr mid f s) : (State.pairCause p pr mid f s).kept = s.kept :=
    kept_of_apart (pairCause_apart p pr mid f s)
theorem startSense_kept (p prs s) : (State.startSense p prs s).kept = s.kept :=
    kept_of_apart (startSense_apart p prs s)
theorem nextRound_kept (p s) : (State.nextRound p s).kept = s.kept := by
  unfold State.nextRound
  simp only [↓modLine_kept, ↓kept_ite, ite_self, eq_self]
theorem modRx_kept (p f s) : (State.modRx p f s).kept = s.kept := kept_of_apart (modRx_apart p f s)
theorem glitch_kept (p s) : (State.glitch p s).kept = s.kept := kept_of_apart (glitch_apart p s)
theorem modTx_kept (p f s) : (State.modTx p f s).kept = s.kept := kept_of_apart (modTx_apart p f s)
theorem modFlow_kept (p f s) : (State.modFlow p f s).kept = s.kept := kept_of_apart (modFlow_apart p f s)
theorem modRate_kept (p f s) : (State.modRate p f s).kept = s.kept := kept_of_apart (modRate_apart p f s)
theorem startLine_kept (p n s) : (State.startLine p n s).kept = s.kept := kept_of_apart (startLine_apart p n s)
theorem refuseItem_kept (p s) : (State.refuseItem p s).kept = s.kept := kept_of_apart (refuseItem_apart p s)
theorem closeTxFrame_kept (p s) : (State.closeTxFrame p s).kept = s.kept := kept_of_apart (closeTxFrame_apart p s)
theorem startFrame_kept (p arg len counted s) : (State.startFrame p arg len counted s).kept = s.kept :=
    kept_of_apart (startFrame_apart p arg len counted s)
theorem sendHeader_kept (p : PortId) (c : BitVec 9) (rest : List (BitVec 9)) (s : State) :
    (State.sendHeader p c rest s).kept = s.kept := kept_of_apart (sendHeader_apart p c rest s)
theorem sendItem_kept (p i s) : (State.sendItem p i s).kept = s.kept := kept_of_apart (sendItem_apart p i s)
theorem sendFrameStart_kept (p i s) : (State.sendFrameStart p i s).kept = s.kept :=
    kept_of_apart (sendFrameStart_apart p i s)
theorem txStart_kept (p mid s) : (State.txStart p mid s).kept = s.kept :=
    kept_of_apart (txStart_apart p mid s)
theorem startCode_kept (p v s) : (State.startCode p v s).kept = s.kept := kept_of_apart (startCode_apart p v s)
theorem rateDone_kept (p s) : (State.rateDone p s).kept = s.kept := kept_of_apart (rateDone_apart p s)
theorem setResv_kept (p d n s) : (State.setResv p d n s).kept = s.kept := by
  unfold State.setResv
  simp only [↓modPort_kept, ↓putQueue_kept, eq_self]
theorem loaded_kept (mine bad s) : (State.loaded mine bad s).kept = s.kept := by
  unfold State.loaded
  simp only [↓kept_upd, eq_self]
theorem resvLoaded_kept (p s) : (State.resvLoaded p s).kept = s.kept := loaded_kept ..
theorem loadResv_kept (p s) : (State.loadResv p s).kept = s.kept := by
  unfold State.loadResv
  simp only [↓resvLoaded_kept, ↓setResv_kept, eq_self]
theorem loadResvRegs_kept (p s) : (State.loadResvRegs p s).kept = s.kept := by
  unfold State.loadResvRegs
  simp only [↓resvLoaded_kept, ↓modPort_kept, eq_self]
theorem loadProfile_kept (p s) : (State.loadProfile p s).kept = s.kept := by
  unfold State.loadProfile
  simp only [↓loaded_kept, ↓modPort_kept, eq_self]
theorem loadThresh_kept (p s) : (State.loadThresh p s).kept = s.kept := by
  unfold State.loadThresh
  simp only [↓modPort_kept, eq_self]
theorem freezePort_kept (p s) : (State.freezePort p s).kept = s.kept := by
  unfold State.freezePort
  simp only [↓modPort_kept, ↓addHeldLoss_kept, ↓tieSync_kept, ↓leaveTie_kept, ↓discardHolding_kept, ↓frameErrIfOpen_kept, ↓kept_ite, ite_self, eq_self]
theorem upsetShadow_kept (s) : (State.upsetShadow s).kept = s.kept := rfl
theorem endPortFreeze_kept (p s) : (State.endPortFreeze p s).kept = s.kept := by
  unfold State.endPortFreeze
  simp only [↓modPort_kept, ↓loadProfile_kept, eq_self]
theorem endRegionFreeze_kept (r s) : (State.endRegionFreeze r s).kept = s.kept := by
  have hl := forEach_kept ((regionPorts r).filter s.present) State.loadResv s (fun p t => loadResv_kept p t)
  unfold State.endRegionFreeze
  dsimp only
  split
  · exact hl
  · exact (modRegion_kept ..).trans ((forEach_kept _ _ _ (fun _ _ => modPort_kept ..)).trans hl)
theorem endFreeze_kept (p s) : (State.endFreeze p s).kept = s.kept := by
  unfold State.endFreeze
  simp only [↓attFall_kept, ↓upsetShadow_kept, ↓endPortFreeze_kept, ↓endRegionFreeze_kept, ↓kept_ite, ite_self, eq_self]
theorem leaveFaultWithRun_kept (p s) : (State.leaveFaultWithRun p s).kept = s.kept := by
  unfold State.leaveFaultWithRun
  simp only [↓modPort_kept, ↓modQueue_kept, ↓kept_ite, ite_self, eq_self]
theorem leaveRun_kept (p mid s) : (State.leaveRun p mid s).kept = s.kept := by
  unfold State.leaveRun
  simp only [↓modPort_kept, ↓charEvent_kept, ↓addLoss_kept, ↓leaveTie_kept, ↓drain_kept, ↓frameErrIfOpen_kept, ↓leaveFaultWithRun_kept, ↓kept_ite, ite_self, eq_self]
theorem enterOff_kept (p s) : (State.enterOff p s).kept = s.kept := by
  unfold State.enterOff
  simp only [↓modPort_kept, ↓discardQueue_kept, ↓tieSync_kept, ↓takeFlush_kept, ↓endFreeze_kept, eq_self]
theorem beginTransition_kept (p target byCmd mid s) : (State.beginTransition p target byCmd mid s).kept = s.kept := by
  unfold State.beginTransition
  simp only [↓modPort_kept, ↓tieSync_kept, ↓leaveTie_kept, ↓leaveRun_kept, ↓enterOff_kept, ↓kept_ite, ite_self, eq_self]
theorem freeRecords_kept (p s) : (State.freeRecords p s).kept = s.kept := by
  unfold State.freeRecords
  simp only [↓modQueue_kept, eq_self]
theorem runEntryItems_kept (p s) : (State.runEntryItems p s).kept = s.kept := by
  unfold State.runEntryItems
  simp only [↓modPort_kept, ↓addLoss_kept, ↓drain_kept, ↓offerMark_kept, ↓discardHolding_kept, ↓writeLineMarks_kept, ↓freeRecords_kept, ↓kept_ite, ite_self, eq_self]
theorem chargeFreeze_kept (p s) : (State.chargeFreeze p s).kept = s.kept := by
  unfold State.chargeFreeze
  simp only [↓modPort_kept, eq_self]
theorem entryFlow_kept (p s) : (State.entryFlow p s).kept = s.kept := by
  unfold State.entryFlow
  simp only [↓modRegion_kept, ↓modFlow_kept, eq_self]
theorem enterRun_kept (p s) : (State.enterRun p s).kept = s.kept := by
  unfold State.enterRun
  simp only [↓modPort_kept, ↓tryGap_kept, ↓tieSync_kept, ↓enterLineFault_kept, ↓runEntryItems_kept, ↓chargeFreeze_kept, ↓entryFlow_kept, ↓kept_ite, ite_self, eq_self]
theorem waited_kept (r s) : (State.waited r s).kept = s.kept := by
  unfold State.waited
  simp only [↓modRegion_kept, ↓count_kept, eq_self]
theorem startCmd_kept (p target order mid s) : (State.startCmd p target order mid s).kept = s.kept := by
  unfold State.startCmd
  simp only [↓modPort_kept, ↓beginTransition_kept, ↓waited_kept, ↓kept_ite, ite_self, eq_self]
theorem portCommand_kept (p target mid s) : (State.portCommand p target mid s).kept = s.kept := by
  unfold State.portCommand
  simp only [↓modPort_kept, ↓kept_ite]
  repeat' (first | (with_reducible rfl) | split | (simp only [↓modPort_kept, ↓startCmd_kept, eq_self]))
theorem endTransition_kept (p t sa sb s) : (State.endTransition p t sa sb s).kept = s.kept := by
  unfold State.endTransition
  simp only [↓tieSync_kept]
  repeat' (first | (with_reducible rfl) | split | (simp only [↓modPort_kept, ↓pstateEvent_kept, ↓enterRun_kept, ↓waited_kept, ↓startCmd_kept, eq_self]))
theorem rateCommand_kept (p e s) : (State.rateCommand p e s).kept = s.kept := by
  unfold State.rateCommand
  simp only [↓modPort_kept, ↓modRate_kept, ↓kept_ite, ite_self, eq_self]
theorem modTr_kept (f s) : (State.modTr f s).kept = s.kept := by
  unfold State.modTr
  simp only [↓kept_upd, eq_self]
theorem trkLoss_kept (p n s) : (State.trkLoss p n s).kept = s.kept := by
  unfold State.trkLoss
  simp only [↓modPort_kept, eq_self]
theorem stubOldest_kept {s t : State} (h : s.stubOldest = some t) : t.kept = s.kept := by
  unfold State.stubOldest at h
  split at h
  · exact absurd h (by simp)
  · cases h
    refine (trkEvent_kept ..).trans (Eq.trans (forEach_kept _ _ _ ?_) (modTr_kept ..))
    exact fun c t => trkLoss_kept c.1 c.2 t
theorem storeBlk_kept (b s) : (State.storeBlk b s).kept = s.kept := by
  unfold State.storeBlk
  simp only [↓count_kept, ↓modTr_kept, ↓kept_ite, ite_self, eq_self]
theorem placeBlk_kept (b n s) : (State.placeBlk b n s).kept = s.kept := by
  induction n generalizing s with
  | zero => exact modTr_kept ..
  | succ n ih =>
    unfold State.placeBlk
    split
    · exact storeBlk_kept ..
    · split
      · split
        · exact (ih _).trans (stubOldest_kept ‹_›)
        · exact modTr_kept ..
      · dsimp only
        split
        · exact modTr_kept ..
        · exact (trkEvent_kept ..).trans (modTr_kept ..)
theorem place_kept (b s) : (State.place b s).kept = s.kept := placeBlk_kept ..
theorem pumpN_kept (n s) : (State.pumpN n s).kept = s.kept := by
  induction n generalizing s with
  | zero => rfl
  | succ n ih =>
    unfold State.pumpN
    split
    · rfl
    · split
      · dsimp only
        split
        · exact place_kept ..
        · exact (ih _).trans (place_kept ..)
      · split
        · rfl
        · split
          · rfl
          · exact (ih _).trans (place_kept ..)
theorem beginRetrain_kept (s) : (State.beginRetrain s).kept = s.kept := by
  unfold State.beginRetrain
  simp only [↓modTr_kept, ↓kept_upd, eq_self]
theorem dueChange_kept (s) : (State.dueChange s).kept = s.kept := by
  unfold State.dueChange
  simp only [↓beginRetrain_kept, ↓kept_ite, ↓kept_upd, ite_self, eq_self]
theorem pump_kept (s : State) : s.pump.kept = s.kept := (dueChange_kept ..).trans (pumpN_kept ..)
theorem sendCtl_kept (b s) : (State.sendCtl b s).kept = s.kept := by
  unfold State.sendCtl
  simp only [↓modTr_kept, ↓pump_kept, eq_self]
theorem complete_kept (q status failCount detail data s) :
    (State.complete q status failCount detail data s).kept = s.kept := by
  unfold State.complete
  simp only [↓sendCtl_kept, eq_self]
theorem rewind_kept (s) : (State.rewind s).kept = s.kept := by
  unfold State.rewind
  simp only [↓countN_kept, ↓trkEvent_kept, ↓modTr_kept, eq_self]
theorem ackUpTo_kept (a s) : (State.ackUpTo a s).1.kept = s.kept := by
  unfold State.ackUpTo
  split
  · exact modTr_kept ..
  · split
    · rfl
    · exact trkEvent_kept ..
theorem acceptBlk_kept (s) : (State.acceptBlk s).kept = s.kept := by
  unfold State.acceptBlk
  simp only [↓count_kept, ↓modTr_kept, ↓kept_ite, ↓kept_upd, ite_self, eq_self]
theorem carry_kept (p n s) : (State.carry p n s).kept = s.kept := by
  unfold State.carry
  simp only [↓modPort_kept, ↓hostError_kept, ↓kept_ite, ite_self, eq_self]
theorem draw_kept (p n s) : (State.draw p n s).kept = s.kept := by
  induction n generalizing s with
  | zero => rfl
  | succ n ih =>
    unfold State.draw
    split
    · exact (ih _).trans ((tellAll_kept ..).trans (takeItem_kept ‹_›))
    · rfl
theorem afterDraw_kept (p s) : (State.afterDraw p s).kept = s.kept := by
  unfold State.afterDraw
  simp only [↓deliver_kept, ↓drain_kept, eq_self]
theorem buildPlan_kept (p pl s) : (State.buildPlan p pl s).kept = s.kept :=
    (place_kept ..).trans ((afterDraw_kept ..).trans ((modPort_kept ..).trans (draw_kept ..)))
theorem heldStep_kept (p b s) : (State.heldStep p b s).kept = s.kept := by
  unfold State.heldStep
  dsimp only
  split
  · split
    · rfl
    · exact (place_kept ..).trans (modPort_kept ..)
  · split
    · exact (place_kept ..).trans ((modTr_kept ..).trans (forEach_kept _ _ _ (fun q t => modPort_kept t q _)))
    · rfl
theorem buildIlv_kept (b s) : (State.buildIlv b s).kept = s.kept := by
  unfold State.buildIlv
  exact (place_kept ..).trans (forEach_kept _ _ _
    (fun c t => (afterDraw_kept ..).trans ((modPort_kept ..).trans (draw_kept ..))))
theorem enterQwrites_kept (p order s) : (State.enterQwrites p order s).kept = s.kept := by
  unfold State.enterQwrites
  simp only [↓forEach_kept, ↓txEnter_kept, ↓kept_upd, eq_self, implies_true]
theorem placeItems_kept (p is order s) : (State.placeItems p is order s).kept = s.kept := by
  unfold State.placeItems
  simp only [↓forEach_kept, ↓txEnter_kept, ↓enterQwrites_kept, ↓kept_ite, ite_self, eq_self, implies_true]
theorem malformedLoss_kept (p n order s) : (State.malformedLoss p n order s).kept = s.kept := by
  unfold State.malformedLoss
  simp only [↓modPort_kept, ↓addLoss_kept, ↓lossSince_kept, ↓tryGap_kept, ↓tieSync_kept, ↓enterQwrites_kept, eq_self]
theorem placeData_kept (b : DataBlk) (order : Nat) (cells : List (PortId × BitVec 24)) (gone : List PortId) (s : State) :
    (State.placeData b order cells gone s).kept = s.kept := by
  unfold State.placeData
  repeat' (first | (with_reducible rfl) | split | (simp only [↓forEach_kept, ↓placeItems_kept, ↓malformedLoss_kept, eq_self, implies_true]))
theorem freshLoss_kept (p o s) : (State.freshLoss p o s).kept = s.kept :=
    (tieSync_kept ..).trans ((tryGap_kept ..).trans ((addLoss_kept ..).trans (lossSince_kept ..)))
theorem freshPort_kept (p order s) : (State.freshPort p order s).kept = s.kept := by
  unfold State.freshPort
  simp only [↓freshLoss_kept, ↓modPort_kept, ↓enterQwrites_kept, ↓kept_ite, ↓kept_upd, ite_self, eq_self]
theorem writeFresh_kept (which order s) : (State.writeFresh which order s).kept = s.kept := by
  unfold State.writeFresh
  simp only [↓forEach_kept, ↓freshLoss_kept, ↓enterQwrites_kept, ↓kept_upd, eq_self, implies_true]
theorem freshRestart_kept (s) : (State.freshRestart s).kept = s.kept := by
  unfold State.freshRestart
  simp only [↓modPort_kept, ↓forEach_kept, ↓modTr_kept, ↓trkLoss_kept, ↓freshPort_kept, ↓kept_ite, ↓kept_upd, ite_self, eq_self, implies_true]
theorem loadOther_kept (s) : (State.loadOther s).kept = s.kept := by
  unfold State.loadOther
  simp only [↓kept_upd, eq_self]
theorem setFrames_kept (i w s) : (State.setFrames i w s).kept = s.kept := by
  unfold State.setFrames
  simp only [↓kept_upd, eq_self]
theorem loadImg_kept (s) : (State.loadImg s).kept = s.kept := by
  unfold State.loadImg
  simp only [↓forEach_kept, ↓loadProfile_kept, ↓loadResvRegs_kept, ↓loadOther_kept, eq_self, implies_true]
theorem loadAll_kept (s) : (State.loadAll s).kept = s.kept := by
  unfold State.loadAll
  simp only [↓forEach_kept, ↓loadThresh_kept, ↓loadImg_kept, eq_self, implies_true]
theorem initStore_kept (s) : (State.initStore s).kept = s.kept := by
  unfold State.initStore
  simp only [↓modPort_kept, ↓forEach_kept, ↓loadResv_kept, ↓kept_upd, eq_self, implies_true]
theorem beginRelease_kept (p s) : (State.beginRelease p s).kept = s.kept := by
  unfold State.beginRelease
  simp only [↓modPort_kept, eq_self]
theorem release_kept (ms s) : (State.release ms s).kept = s.kept := by
  unfold State.release
  simp only [↓modPort_kept, ↓forEach_kept, ↓attEvents_kept, ↓svcEvent_kept, ↓loadAll_kept, ↓initStore_kept, ↓beginRelease_kept, ↓kept_upd, eq_self, implies_true]
theorem saveAtt_kept (s) : (State.saveAtt s).kept = s.kept := by
  unfold State.saveAtt
  simp only [↓kept_ite, ↓kept_upd, ite_self, eq_self]
theorem replaceLost_kept (bad s) : (State.replaceLost bad s).kept = s.kept := by
  unfold State.replaceLost
  simp only [↓kept_upd, eq_self]
theorem restoreAtt_kept (bad s) : (State.restoreAtt bad s).kept = s.kept := by
  unfold State.restoreAtt
  simp only [↓attEvents_kept, ↓attUnitEvent_kept, ↓replaceLost_kept, ↓kept_ite, ↓kept_upd, ite_self, eq_self]
theorem enterDeep_kept (s) : (State.enterDeep s).kept = s.kept := by
  unfold State.enterDeep
  simp only [↓saveAtt_kept, ↓kept_upd, eq_self]
theorem bringUp_kept (s) : (State.bringUp s).kept = s.kept := by
  unfold State.bringUp
  simp only [↓loadAll_kept, ↓initStore_kept, ↓restoreAtt_kept, eq_self]
theorem enterSleep_kept (s) : (State.enterSleep s).kept = s.kept := by
  unfold State.enterSleep
  simp only [↓powerEvent_kept, ↓saveAtt_kept, ↓kept_upd, eq_self]
theorem settle_kept (s) : (State.settle s).kept = s.kept := by
  unfold State.settle
  simp only [↓powerEvent_kept, ↓enterSleep_kept, ↓kept_ite, ↓kept_upd, ite_self, eq_self]
theorem measure_kept (t s) : (State.measure t s).kept = s.kept := by
  unfold State.measure
  simp only [↓trkEvent_kept, ↓modTr_kept, ↓kept_ite, ite_self, eq_self]
theorem codeErrs_kept (k n s) : (State.codeErrs k n s).kept = s.kept := by
  unfold State.codeErrs
  simp only [↓modTr_kept, eq_self]
theorem adaptLanes_kept (t s) : (State.adaptLanes t s).kept = s.kept := by
  unfold State.adaptLanes
  simp only [↓modTr_kept, eq_self]
theorem keepLanes_kept (on t s) : (State.keepLanes on t s).kept = s.kept := by
  unfold State.keepLanes
  simp only [↓modTr_kept, eq_self]
theorem trainLanes_kept (t half s) : (State.trainLanes t half s).kept = s.kept := by
  unfold State.trainLanes
  simp only [↓modTr_kept, ↓measure_kept, ↓adaptLanes_kept, eq_self]
theorem setWidth_kept (s) : (State.setWidth s).kept = s.kept := by
  unfold State.setWidth
  simp only [↓modTr_kept, eq_self]
theorem releaseHeld_kept (s) : (State.releaseHeld s).kept = s.kept := by
  unfold State.releaseHeld
  simp only [↓forEach_kept, ↓writeFresh_kept, ↓placeData_kept, ↓kept_upd, eq_self, implies_true]
theorem laneDrop_kept (k s) : (State.laneDrop k s).kept = s.kept := by
  unfold State.laneDrop
  simp only [↓trkEvent_kept, ↓modTr_kept, ↓beginRetrain_kept, ↓kept_ite, ↓kept_upd, ite_self, eq_self]
theorem retrainLanes_kept (t s) : (State.retrainLanes t s).kept = s.kept := by
  unfold State.retrainLanes
  simp only [↓trkEvent_kept, ↓modTr_kept, ↓measure_kept, ↓keepLanes_kept, ↓setWidth_kept, ↓kept_ite, ite_self, eq_self]
theorem discardBlk_kept (s) : (State.discardBlk s).kept = s.kept := by
  unfold State.discardBlk
  simp only [↓trkEvent_kept, ↓modTr_kept, eq_self]
theorem buildSingle_kept (p want s) : (State.buildSingle p want s).kept = s.kept := by
  unfold State.buildSingle
  repeat' (first | (with_reducible rfl) | split | (simp only [↓buildPlan_kept, ↓heldStep_kept, eq_self]))
theorem flipCfg_kept (r f s) : (State.flipCfg r f s).kept = s.kept := by
  unfold State.flipCfg
  simp only []
  repeat' (first | (with_reducible rfl) | split | (simp only [↓modPort_kept, ↓setFrames_kept, ↓kept_upd, eq_self]))
  all_goals rfl
theorem defaultCfg_kept (r s) : (State.defaultCfg r s).kept = s.kept := by
  unfold State.defaultCfg
  simp only []
  repeat' (first | (with_reducible rfl) | split | (simp only [↓modPort_kept, ↓setFrames_kept, ↓kept_upd, eq_self]))
theorem recordParity_kept (r a s) : (State.recordParity r a s).kept = s.kept := by
  unfold State.recordParity
  simp only [↓kept_ite, ↓kept_upd, ite_self, eq_self]
theorem parityFails_kept (r a s) : (State.parityFails r a s).kept = s.kept := by
  unfold State.parityFails
  simp only [↓attEvent_kept, ↓count_kept, ↓recordParity_kept]
  repeat' (first | (with_reducible rfl) | split | (simp only [↓modPort_kept, ↓modRegion_kept, ↓forEach_kept, ↓freezePort_kept, ↓defaultCfg_kept, ↓kept_upd, eq_self, implies_true]))
theorem checkCfg_kept (a s) : (State.checkCfg a s).kept = s.kept := by
  unfold State.checkCfg
  repeat' (first | (with_reducible rfl) | split | (simp only [↓parityFails_kept, eq_self]))
theorem turnParity_kept (a s) : (State.turnParity a s).kept = s.kept := rfl
theorem upsetCfg_kept (a f s) : (State.upsetCfg a f s).kept = s.kept := by
  unfold State.upsetCfg
  have h (r : Reg) (hs : List (Reg × BitVec 16 × Word)) (g : Word) :
      (forEach hs (fun h u => u.turnParity h.2.1) (s.flipCfg r g)).kept = s.kept :=
    (forEach_kept _ _ _ (fun _ _ => turnParity_kept ..)).trans (flipCfg_kept ..)
  split
  · split
    · rfl
    · dsimp only
      split
      · exact (parityFails_kept ..).trans (h ..)
      · exact (checkCfg_kept ..).trans (h ..)
  · rfl
theorem divertTags_kept (p d n m s) : (State.divertTags p d n m s).kept = s.kept := modQueue_kept ..
theorem reclaimQueue_kept (p d bad s) : (State.reclaimQueue p d bad s).kept = s.kept := by
  unfold State.reclaimQueue
  simp only [↓putQueue_kept, ↓divertTags_kept, eq_self]
theorem clearPort_kept (p r v s) : (State.clearPort p r v s).kept = s.kept := by
  unfold State.clearPort
  simp only []
  repeat' (first | (with_reducible rfl) | split | (simp only [↓modPort_kept, ↓attFall_kept, eq_self]))
theorem clearTie_kept (v g s) : (State.clearTie v g s).kept = s.kept := by
  unfold State.clearTie
  simp only [↓modTie_kept, ↓attFall_kept, eq_self]
theorem clearSvc_kept (m s) : (State.clearSvc m s).kept = s.kept := by
  unfold State.clearSvc
  simp only [↓attFall_kept, ↓kept_upd, eq_self]
theorem clearEvents_kept (r v s) : (State.clearEvents r v s).kept = s.kept := by
  unfold State.clearEvents
  simp only []
  repeat' (first | (with_reducible rfl) | split | (simp only [↓modRegion_kept, ↓forEach_kept, ↓attFall_kept, ↓modTr_kept, ↓clearPort_kept, ↓clearTie_kept, ↓clearSvc_kept, ↓kept_upd, eq_self, implies_true]))
theorem parityGood_kept (a s) : (State.parityGood a s).kept = s.kept := by
  unfold State.parityGood
  simp only [↓kept_upd, eq_self]
theorem writePortImg_kept {p i fm v} {s t : State} (h : State.writePortImg p i fm v s = some t) : t.kept = s.kept := by
  unfold State.writePortImg at h
  dsimp only at h
  split at h
  · cases h
    exact modPort_kept ..
  · exact absurd h (by simp)
theorem writeResv_kept {p d n} {s t : State} (h : State.writeResv p d n s = some t) : t.kept = s.kept := by
  unfold State.writeResv at h
  dsimp only at h
  split at h
  · cases h
    exact setResv_kept ..
  · exact absurd h (by simp)
theorem writeOtherImg_kept {r v} {s t : State} (h : State.writeOtherImg r v s = some t) : t.kept = s.kept := by
  unfold State.writeOtherImg at h
  split at h
  · split at h
    · split at h
      · cases h; rfl
      · exact absurd h (by simp)
    · cases h
      exact setFrames_kept ..
    · cases h; rfl
    · exact absurd h (by simp)
  · exact absurd h (by simp)
theorem writePsel_kept {p v} {s t : State} (h : State.writePsel p v s = some t) : t.kept = s.kept := by
  unfold State.writePsel at h
  split at h
  · cases h
    exact (loadProfile_kept ..).trans (modPort_kept ..)
  · exact absurd h (by simp)
theorem imgDone_kept (a : BitVec 16) (s : State) (o : Option State) (h : ∀ t, o = some t → t.kept = s.kept) :
    (imgDone a s o).1.kept = s.kept := by
  cases o with
  | none => rfl
  | some t => exact (parityGood_kept ..).trans (h t rfl)
theorem portStateCmd_kept (v mids s) : (State.portStateCmd v mids s).1.kept = s.kept :=
    forEach_kept _ _ _ (fun _ _ => portCommand_kept ..)
theorem rateCmd_kept (v s) : (State.rateCmd v s).kept = s.kept := by
  unfold State.rateCmd
  simp only [↓forEach_kept, ↓rateCommand_kept, eq_self, implies_true]
theorem deviceStateCmd_kept (c s) : (State.deviceStateCmd c s).1.kept = s.kept := by
  unfold State.deviceStateCmd
  dsimp only
  split
  · rfl
  split
  · rfl
  split
  · rfl
  split
  · split
    · exact powerEvent_kept ..
    · rfl
  split <;> rfl
theorem trkWidthCmd_kept (w s) : (State.trkWidthCmd w s).1.kept = s.kept := by
  unfold State.trkWidthCmd
  split <;> rfl
theorem beginChange_kept (was s) : (State.beginChange was s).kept = s.kept := by
  unfold State.beginChange
  simp only [↓enterDeep_kept, ↓dueChange_kept, ↓kept_ite, ↓kept_upd, ite_self, eq_self]
theorem deviceIndexCmd_kept (v s) : (State.deviceIndexCmd v s).1.kept = s.kept := by
  unfold State.deviceIndexCmd
  split
  · exact hostError_kept ..
  · dsimp only
    split
    · exact (attEvent_kept ..).trans rfl
    · rfl
theorem tieGroupCmd_kept (g v s) : (State.tieGroupCmd g v s).1.kept = s.kept := by
  unfold State.tieGroupCmd
  dsimp only
  split
  · rfl
  · exact (forEach_kept _ _ _ (fun p t => tieSync_kept ..)).trans (modTie_kept ..)
theorem tieCancelCmd_kept (g s) : (State.tieCancelCmd g s).kept = s.kept := by
  unfold State.tieCancelCmd
  simp only [↓modTie_kept, ↓forEach_kept, ↓attFall_kept, ↓tieReady_kept, ↓tieSync_kept, ↓endWait_kept, eq_self, implies_true]
theorem flushCmd_kept (p d s) : (State.flushCmd p d s).kept = s.kept := by
  unfold State.flushCmd
  simp only [↓kept_ite]
  repeat' (first | (with_reducible rfl) | split | (simp only [↓modQueue_kept, ↓crossFlush_kept, eq_self]))
theorem enterSome_kept (p s) : (State.enterSome p s).kept = s.kept := by
  unfold State.enterSome
  simp only []
  repeat' (first | (with_reducible rfl) | split | (simp only [↓forEach_kept, ↓txEnter_kept, ↓kept_upd, eq_self, implies_true]))
theorem emptyAt_kept (p d order s) : (State.emptyAt p d order s).kept = s.kept := by
  unfold State.emptyAt
  cases d
  · exact emptyQueue_kept ..
  · simp only [↓emptyQueue_kept, ↓lossSince_kept, ↓modPort_kept, ↓kept_upd, eq_self]
theorem resetCmd_kept (p d s) : (State.resetCmd p d s).kept = s.kept := by
  unfold State.resetCmd
  split
  · refine (emptyAt_kept ..).trans ((cancelFlush_kept ..).trans ?_)
    cases d
    · rfl
    · exact enterSome_kept ..
  · simp only [↓cancelFlush_kept, ↓kept_upd, eq_self]
theorem crossWaiting_kept (p s) : (State.crossWaiting p s).kept = s.kept := by
  unfold State.crossWaiting
  repeat' (first | (with_reducible rfl) | split | (simp only [↓crossFlush_kept, eq_self]))
theorem resetParted_kept (p d s) : (State.resetParted p d s).kept = s.kept := kept_of_apart (resetParted_apart p d s)
theorem fetchTx_kept (p s) : (State.fetchTx p s).kept = s.kept :=
    (tieSync_kept ..).trans ((putQueue_kept ..).trans (resetParted_kept ..))
theorem runSleepCmds_kept (s) : (State.runSleepCmds s).kept = s.kept := by
  unfold State.runSleepCmds
  refine (forEach_kept _ _ _ (fun p t => crossWaiting_kept p t)).trans
    ((forEach_kept _ _ _ (fun r t => (emptyAt_kept ..).trans ?_)).trans
      ((forEach_kept _ _ _ (fun p t => fetchTx_kept p t)).trans rfl))
  cases r.d
  · rfl
  · exact writeFresh_kept ..
theorem restartFresh_kept (s) : (State.restartFresh s).kept = s.kept := by
  unfold State.restartFresh
  split
  · exact freshRestart_kept ..
  · rfl
theorem queueCmd_kept (v s) : (State.queueCmd v s).kept = s.kept := by
  unfold State.queueCmd
  simp only [↓forEach_kept, ↓flushCmd_kept, ↓resetCmd_kept, ↓kept_ite, ite_self, eq_self, implies_true]
theorem attBits_kept (w v f s) : (State.attBits w v f s).kept = s.kept := by
  unfold State.attBits
  simp only [↓kept_upd, eq_self]
theorem attProcCmd_kept (v s) : (State.attProcCmd v s).kept = s.kept := by
  unfold State.attProcCmd
  simp only [↓kept_upd, eq_self]
theorem targetsCmd_kept (i v s) : (State.targetsCmd i v s).kept = s.kept := by
  unfold State.targetsCmd
  simp only [↓kept_ite, ↓kept_upd, ite_self, eq_self]
theorem cntSelCmd_kept (i v s) : (State.cntSelCmd i v s).kept = s.kept := by
  unfold State.cntSelCmd
  simp only [↓kept_upd, eq_self]
theorem cntClearCmd_kept (v s) : (State.cntClearCmd v s).kept = s.kept := by
  unfold State.cntClearCmd
  simp only [↓kept_upd, eq_self]
theorem claimSrc_kept (i proc s) : (State.claimSrc i proc s).1.kept = s.kept := by
  unfold State.claimSrc
  dsimp only
  split
  · exact (count_kept ..).trans rfl
  · exact count_kept ..
theorem completeSrc_kept (i proc s) : (State.completeSrc i proc s).kept = s.kept := by
  unfold State.completeSrc
  simp only [↓count_kept, ↓attUnitEvent_kept, ↓kept_ite, ↓kept_upd, ite_self, eq_self]
theorem closeSession_kept (s) : (State.closeSession s).kept = s.kept := by
  unfold State.closeSession
  simp only [↓kept_ite, ↓kept_upd, ite_self, eq_self]
theorem imgWinCmd_kept (v s) : (State.imgWinCmd v s).kept = s.kept := by
  unfold State.imgWinCmd
  simp only [↓closeSession_kept, ↓kept_ite, ↓kept_upd, ite_self, eq_self]
theorem pushItem_kept (p i u s) : (State.pushItem p i u s).kept = s.kept := by
  unfold State.pushItem
  simp only [↓modPort_kept, ↓txEnter_kept, ↓enterQwrites_kept, eq_self]
theorem pushCmd_kept (p v s) : (State.pushCmd p v s).kept = s.kept := by
  unfold State.pushCmd
  simp only []
  repeat' (first | (with_reducible rfl) | split | (simp only [↓modPort_kept, ↓pushItem_kept, eq_self]))
theorem tieReleaseCmd_kept (g s) : (State.tieReleaseCmd g s).1.kept = s.kept := by
  unfold State.tieReleaseCmd
  dsimp only
  split
  · exact tieReady_kept ..
  · split
    · exact (tieRelease_kept ..).trans (tieReady_kept ..)
    · exact (attEvent_kept ..).trans ((modTie_kept ..).trans (tieReady_kept ..))
theorem writeReg_kept (q : Req) (a : BitVec 16) (r : Reg) (v : Word) (mids : List Mid) (s : State) :
    (State.writeReg q a r v mids s).1.kept = s.kept := by
  unfold State.writeReg
  split
  · rfl
  · split
    · exact imgDone_kept _ _ _ (fun _ h => writePortImg_kept h)
    · exact imgDone_kept _ _ _ (fun _ h => writePortImg_kept h)
    · exact modPort_kept ..
    · exact modPort_kept ..
    · exact imgDone_kept _ _ _ (fun _ h => writeResv_kept h)
    · exact imgDone_kept _ _ _ (fun _ h => writeOtherImg_kept h)
    · exact imgDone_kept _ _ _ (fun _ h => writeOtherImg_kept h)
    · exact imgDone_kept _ _ _ (fun _ h => writeOtherImg_kept h)
    · exact imgDone_kept _ _ _ (fun _ h => writePsel_kept h)
    · exact imgWinCmd_kept ..
    · exact portStateCmd_kept ..
    · exact rateCmd_kept ..
    · exact deviceStateCmd_kept ..
    · exact trkWidthCmd_kept ..
    · exact deviceIndexCmd_kept ..
    · rfl
    · exact tieGroupCmd_kept ..
    · dsimp only
      split
      · exact tieReleaseCmd_kept ..
      · exact tieCancelCmd_kept ..
    · exact queueCmd_kept ..
    · exact attBits_kept ..
    · exact attBits_kept ..
    · exact attBits_kept ..
    · exact attBits_kept ..
    · exact attProcCmd_kept ..
    · exact targetsCmd_kept ..
    · exact cntSelCmd_kept ..
    · exact cntClearCmd_kept ..
    · exact completeSrc_kept ..
    · exact pushCmd_kept ..
    · exact clearEvents_kept ..
theorem hostCtl_kept (f : State → State) (hf : ∀ t, (f t).kept = t.kept) (s : State) :
    (State.hostCtl f s).kept = s.kept := by
  unfold State.hostCtl
  split
  · exact (hf _).trans (acceptBlk_kept ..)
  · rfl
theorem recordErr_kept (q addr s) : (State.recordErr q addr s).kept = s.kept := by
  unfold State.recordErr
  simp only [↓kept_upd, eq_self]
theorem accessError_kept (q addr n s) : (State.accessError q addr n s).kept = s.kept := by
  unfold State.accessError
  simp only [↓hostError_kept, ↓complete_kept, ↓recordErr_kept, eq_self]
theorem malformed_kept (q s) : (State.malformed q s).kept = s.kept := by
  unfold State.malformed
  simp only [↓complete_kept, eq_self]
theorem readBeat_kept (q size b s) : (State.readBeat q size b s).2.kept = s.kept := by
  unfold State.readBeat
  split
  · rfl
  · exact checkCfg_kept ..
theorem readBeats_kept (q : Req) (size : BitVec 2) (bs : List Nat) (s : State) :
    (State.readBeats q size bs s).2.kept = s.kept := by
  induction bs generalizing s with
  | nil => rfl
  | cons b bs ih => exact (ih _).trans (readBeat_kept ..)
theorem setLast_kept (p d v s) : (State.setLast p d v s).kept = s.kept := by
  unfold State.setLast
  simp only [↓modQueue_kept, eq_self]
theorem leftFlush_kept (p i s) : (State.leftFlush p i s).kept = s.kept := by
  unfold State.leftFlush
  simp only [↓modPort_kept, ↓kept_ite, ite_self, eq_self]
theorem popNow_kept {p d v} {s t : State} (h : s.popNow p d = some (v, t)) : t.kept = s.kept := by
  unfold State.popNow at h
  split at h
  · cases h
    exact (setLast_kept ..).trans (modQueue_kept ..)
  · split at h
    · exact absurd h (by simp)
    · rename_i hk
      cases d
      · cases h
        exact (afterDraw_kept ..).trans ((tellAll_kept ..).trans <| (setLast_kept ..).trans ((modQueue_kept ..).trans (takeItem_kept hk)))
      · cases h
        exact (tieSync_kept ..).trans ((leftFlush_kept ..).trans ((setLast_kept ..).trans ((modQueue_kept ..).trans (takeItem_kept hk))))
theorem peekNow_kept {p d v} {s t : State} (h : s.peekNow p d = some (v, t)) : t.kept = s.kept := by
  unfold State.peekNow at h
  dsimp only at h
  split at h
  · cases h
    exact setLast_kept ..
  · split at h
    · exact absurd h (by simp)
    · cases h
      exact setLast_kept ..
theorem windowNow_kept {p d k v} {s t : State} (h : s.windowNow p d k = some (v, t)) : t.kept = s.kept := by
  unfold State.windowNow at h
  split at h
  · exact absurd h (by simp)
  · split at h
    · exact peekNow_kept h
    · exact popNow_kept h
theorem windowRead_kept (q : Req) (p : PortId) (d : Dir) (peek : Bool) (s : State) :
    (State.windowRead q p d peek s).kept = s.kept := by
  unfold State.windowRead
  split
  · exact (complete_kept ..).trans (windowNow_kept ‹_›)
  · rfl
theorem doRead_kept (q : Req) (size : BitVec 2) (addr : BitVec 16) (n : Nat) (s : State) :
    (State.doRead q size addr n s).kept = s.kept := by
  unfold State.doRead
  split
  · split
    · rfl
    · exact complete_kept ..
  · exact (complete_kept ..).trans (claimSrc_kept ..)
  · exact windowRead_kept ..
  · exact windowRead_kept ..
  · exact (complete_kept ..).trans (readBeats_kept ..)
theorem readReq_kept (q size n addr s) : (State.readReq q size n addr s).kept = s.kept := by
  unfold State.readReq
  repeat' (first | (with_reducible rfl) | split | (simp only [↓accessError_kept, ↓doRead_kept, eq_self]))
theorem writeBeat_kept (q : Req) (size : BitVec 2) (mids : List Mid) (b : Nat) (v : Word) (x : State × BurstRes) :
    (State.writeBeat q size mids b v x).1.kept = x.1.kept := by
  unfold State.writeBeat
  split
  · rfl
  · dsimp only
    split
    · exact writeReg_kept ..
    · exact writeReg_kept ..
    · refine (hostError_kept ..).trans ?_
      split
      · exact writeReg_kept ..
      · exact (recordErr_kept ..).trans (writeReg_kept ..)
    · exact writeReg_kept ..
theorem doWrite_kept (q : Req) (size : BitVec 2) (addr : BitVec 16) (vs : List Word) (mids : List Mid) (s : State) :
    (State.doWrite q size addr vs mids s).kept = s.kept := by
  unfold State.doWrite
  refine (beginChange_kept ..).trans ((complete_kept ..).trans ?_)
  have h : ∀ (l : List (Word × Nat)) (x : State × BurstRes),
      (l.foldl (fun x y => State.writeBeat q size mids (beatAddr addr y.2) y.1 x) x).1.kept = x.1.kept := by
    intro l
    induction l with
    | nil => exact fun _ => rfl
    | cons y ys ih => intro x; rw [List.foldl_cons, ih, writeBeat_kept]
  exact h _ _
theorem writeReq_kept (q size n addr vs mids s) : (State.writeReq q size n addr vs mids s).kept = s.kept := by
  unfold State.writeReq
  simp only [↓malformed_kept, ↓kept_ite]
  repeat' (first | (with_reducible rfl) | split | (simp only [↓accessError_kept, ↓doWrite_kept, eq_self]))
theorem write1_kept (q : Req) (addr : BitVec 16) (v : Word) (mids : List Mid) (s : State) :
    (State.write1 q addr v mids s).kept = s.kept := hostCtl_kept _ (fun _ => writeReq_kept ..) s
theorem read1_kept (q : Req) (addr : BitVec 16) (s : State) : (State.read1 q addr s).kept = s.kept :=
  hostCtl_kept _ (fun _ => readReq_kept ..) s
theorem stateCmdReq_kept (q st ports mids s) : (State.stateCmdReq q st ports mids s).kept = s.kept := by
  unfold State.stateCmdReq
  simp only [↓write1_kept, eq_self]
theorem qwriteReq_kept (q urgent p odd ws s) : (State.qwriteReq q urgent p odd ws s).kept = s.kept := by
  unfold State.qwriteReq
  simp only [↓complete_kept, ↓carry_kept, ↓accessError_kept, ↓malformed_kept, ↓kept_ite, ↓kept_upd, ite_self, eq_self]
theorem takeLimit_kept (p n s) : (State.takeLimit p n s).kept = s.kept := by
  unfold State.takeLimit
  simp only [↓modPort_kept, ↓hostError_kept, ↓kept_ite, ite_self, eq_self]
theorem deviceReq_kept (q c s) : (State.deviceReq q c s).kept = s.kept := by
  unfold State.deviceReq
  simp only [↓write1_kept, eq_self]
theorem attReq_kept (q base w v s) : (State.attReq q base w v s).kept = s.kept := by
  unfold State.attReq
  simp only [↓write1_kept, eq_self]
theorem startDeferred_kept (x s) : (State.startDeferred x s).kept = s.kept := by
  unfold State.startDeferred
  simp only [↓modPort_kept, ↓startCmd_kept, ↓kept_ite, ite_self, eq_self]
theorem wakeRetrain_kept (t s) : (State.wakeRetrain t s).kept = s.kept := by
  unfold State.wakeRetrain
  simp only [↓rewind_kept, ↓beginRetrain_kept, ↓retrainLanes_kept, ↓kept_ite, ite_self, eq_self]
theorem latchPsel_kept (pins p s) : (State.latchPsel pins p s).kept = s.kept := by
  unfold State.latchPsel
  simp only [↓modPort_kept, ↓attEvent_kept, ↓kept_ite, ↓kept_upd, ite_self, eq_self]
theorem latchTim_kept (r s) : (State.latchTim r s).kept = s.kept := by
  unfold State.latchTim
  simp only [↓startEvent_kept, ↓kept_ite, ↓kept_upd, ite_self, eq_self]
theorem defaultProfile_kept (p s) : (State.defaultProfile p s).kept = s.kept := by
  unfold State.defaultProfile
  simp only [↓modPort_kept, eq_self]
theorem settleNotice_kept (s) : (State.settleNotice s).kept = s.kept := by
  unfold State.settleNotice
  simp only [↓kept_upd, eq_self]
theorem setVin_kept (vin s) : (State.setVin vin s).kept = s.kept := by
  unfold State.setVin
  simp only [↓kept_upd, eq_self]
theorem setTemp_kept (r s) : (State.setTemp r s).kept = s.kept := by
  unfold State.setTemp
  simp only [↓kept_upd, eq_self]
theorem enterWarn_kept (i s) : (State.enterWarn i s).kept = s.kept := by
  unfold State.enterWarn
  simp only [↓powerEvent_kept, ↓kept_ite, ↓kept_upd, ite_self, eq_self]
theorem followProt_kept (mid p s) : (State.followProt mid p s).kept = s.kept := by
  unfold State.followProt
  simp only [↓modPort_kept, ↓lineChange_kept, ↓leaveTie_kept, ↓kept_ite, ite_self, eq_self]
theorem releaseProt_kept (p s) : (State.releaseProt p s).kept = s.kept := by
  unfold State.releaseProt
  simp only [↓startSense_kept, ↓followProt_kept, ↓kept_ite, ite_self, eq_self]
theorem svcNak_kept (s) : (State.svcNak s).kept = s.kept := rfl
theorem svcIgnore_kept (stop s) : (State.svcIgnore stop s).kept = s.kept := rfl
theorem svcRefuse_kept (s) : (State.svcRefuse s).kept = s.kept := by
  unfold State.svcRefuse
  simp only [↓svcEvent_kept, ↓svcNak_kept, eq_self]
theorem svcSend_kept (code n data s) : (State.svcSend code n data s).kept = s.kept := rfl
theorem opEnd_kept (s) : (State.opEnd s).kept = s.kept := by
  unfold State.opEnd
  simp only [↓enterDeep_kept, ↓kept_ite, ite_self]
  rfl

end Sys2Proof.Machine
end

