-- ==== Sys2Proof/Laws/OffTrunk.lean ====
section
/-! SUPPORT. What building and accepting trunk blocks leaves alone: completions, acknowledgements and the placing of
blocks keep `State.offTrunk`. One lemma per operation. -/

namespace Sys2Proof.Machine

theorem attEvent_offTrunk (i s) : (State.attEvent i s).offTrunk = s.offTrunk := by
  unfold State.attEvent
  repeat' split
  all_goals rfl
theorem foldl_offTrunk {α : Type} (f : State → α → State) (h : ∀ t x, (f t x).offTrunk = t.offTrunk) (l : List α) (s : State) :
    (l.foldl f s).offTrunk = s.offTrunk := by
  induction l generalizing s with
  | nil => rfl
  | cons x xs ih => rw [List.foldl_cons, ih, h]
theorem forEach_offTrunk {α : Type} (xs : List α) (f : α → State → State) (h : ∀ x t, (f x t).offTrunk = t.offTrunk) (s : State) :
    (forEach xs f s).offTrunk = s.offTrunk := foldl_offTrunk _ (fun t x => h x t) xs s
theorem count_offTrunk (c s) : (State.count c s).offTrunk = s.offTrunk := by
  unfold State.count
  split
  · rfl
  · refine (foldl_offTrunk _ (fun t i => attEvent_offTrunk i t) _ _).trans ?_
    unfold State.offTrunk
    rfl
theorem countN_offTrunk (c n s) : (State.countN c n s).offTrunk = s.offTrunk := foldl_offTrunk _ (fun t c => count_offTrunk c t) _ _
theorem modTr_offTrunk (f) (s : State) : (s.modTr f).offTrunk = s.offTrunk := rfl
theorem modPort_offTrunk (s : State) (p f) : (s.modPort p f).offTrunk = s.offTrunk := rfl
theorem trkEvent_offTrunk (b s) : (State.trkEvent b s).offTrunk = s.offTrunk := by
  unfold State.trkEvent
  dsimp only
  split
  · exact (attEvent_offTrunk ..).trans (count_offTrunk ..)
  · exact count_offTrunk ..
theorem hostError_offTrunk (b s) : (State.hostError b s).offTrunk = s.offTrunk :=
  (attEvent_offTrunk ..).trans (count_offTrunk ..)
theorem trkLoss_offTrunk (p n s) : (State.trkLoss p n s).offTrunk = s.offTrunk := rfl
theorem stubOldest_offTrunk {s t : State} (h : s.stubOldest = some t) : t.offTrunk = s.offTrunk := by
  unfold State.stubOldest at h
  split at h
  · cases h
  · cases h
    exact (trkEvent_offTrunk ..).trans (forEach_offTrunk _ _ (fun c t => trkLoss_offTrunk ..) _)
theorem storeBlk_offTrunk (b s) : (State.storeBlk b s).offTrunk = s.offTrunk := by
  unfold State.storeBlk
  dsimp only
  split
  · exact (count_offTrunk ..)
  · rfl
theorem placeBlk_offTrunk (b n s) : (State.placeBlk b n s).offTrunk = s.offTrunk := by
  induction n generalizing s with
  | zero => rfl
  | succ n ih =>
    unfold State.placeBlk
    dsimp only
    repeat' split
    · exact storeBlk_offTrunk ..
    · exact (ih _).trans (stubOldest_offTrunk ‹_›)
    · rfl
    · rfl
    · exact (trkEvent_offTrunk ..)
theorem place_offTrunk (b s) : (State.place b s).offTrunk = s.offTrunk := placeBlk_offTrunk ..
theorem pumpN_offTrunk (n s) : (State.pumpN n s).offTrunk = s.offTrunk := by
  induction n generalizing s with
  | zero => rfl
  | succ n ih =>
    unfold State.pumpN
    dsimp only
    split
    · rfl
    · split
      · split
        · exact place_offTrunk ..
        · exact (ih _).trans (place_offTrunk ..)
      · split
        · rfl
        · split
          · rfl
          · exact (ih _).trans (place_offTrunk ..)
theorem beginRetrain_offTrunk (s) : (State.beginRetrain s).offTrunk = s.offTrunk := by
  simp [State.beginRetrain, State.modTr, State.offTrunk]
theorem dueChange_offTrunk (s) : (State.dueChange s).offTrunk = s.offTrunk := by
  unfold State.dueChange
  split
  · exact (beginRetrain_offTrunk _).trans rfl
  · rfl
theorem pump_offTrunk (s) : (State.pump s).offTrunk = s.offTrunk := (dueChange_offTrunk ..).trans (pumpN_offTrunk ..)
theorem sendCtl_offTrunk (b s) : (State.sendCtl b s).offTrunk = s.offTrunk := (pump_offTrunk _).trans rfl
theorem complete_offTrunk (q st n d w s) : (State.complete q st n d w s).offTrunk = s.offTrunk := sendCtl_offTrunk ..
theorem acceptBlk_offTrunk (s) : (State.acceptBlk s).offTrunk = s.offTrunk := by
  unfold State.acceptBlk
  dsimp only
  split
  · exact (count_offTrunk ..).trans (count_offTrunk ..)
  · exact count_offTrunk ..

end Sys2Proof.Machine
end

