-- ==== Sys2Proof/Laws/State.lean ====
section
/-! SUPPORT. The fields of a state after each named update, and a port, region or tie group after a change of one: true by
unfolding, once and for all, so that no proof unfolds a record update. -/

namespace Sys2Proof.Machine

/-! ### setPort -/

@[simp] theorem State.setPort_pending (s : State) (p x) : (s.setPort p x).pending = s.pending := rfl
@[simp] theorem State.setPort_boot (s : State) (p x) : (s.setPort p x).boot = s.boot := rfl
@[simp] theorem State.setPort_pw (s : State) (p x) : (s.setPort p x).pw = s.pw := rfl
@[simp] theorem State.setPort_dev (s : State) (p x) : (s.setPort p x).dev = s.dev := rfl
@[simp] theorem State.setPort_ports (s : State) (p x) : (s.setPort p x).ports = s.ports.set p x := rfl
@[simp] theorem State.setPort_regions (s : State) (p x) : (s.setPort p x).regions = s.regions := rfl
@[simp] theorem State.setPort_tr (s : State) (p x) : (s.setPort p x).tr = s.tr := rfl
@[simp] theorem State.setPort_host (s : State) (p x) : (s.setPort p x).host = s.host := rfl
@[simp] theorem State.setPort_ties (s : State) (p x) : (s.setPort p x).ties = s.ties := rfl
@[simp] theorem State.setPort_tieDisturbed (s : State) (p x) : (s.setPort p x).tieDisturbed = s.tieDisturbed := rfl
@[simp] theorem State.setPort_parityRecord (s : State) (p x) : (s.setPort p x).parityRecord = s.parityRecord := rfl
@[simp] theorem State.setPort_att (s : State) (p x) : (s.setPort p x).att = s.att := rfl
@[simp] theorem State.setPort_cnt (s : State) (p x) : (s.setPort p x).cnt = s.cnt := rfl
@[simp] theorem State.setPort_svc (s : State) (p x) : (s.setPort p x).svc = s.svc := rfl
@[simp] theorem State.setPort_flash (s : State) (p x) : (s.setPort p x).flash = s.flash := rfl
@[simp] theorem State.setPort_coreUs (s : State) (p x) : (s.setPort p x).coreUs = s.coreUs := rfl
@[simp] theorem State.setPort_freeCtr (s : State) (p x) : (s.setPort p x).freeCtr = s.freeCtr := rfl

/-! ### modPort -/

@[simp] theorem State.modPort_pending (s : State) (p f) : (s.modPort p f).pending = s.pending := rfl
@[simp] theorem State.modPort_boot (s : State) (p f) : (s.modPort p f).boot = s.boot := rfl
@[simp] theorem State.modPort_pw (s : State) (p f) : (s.modPort p f).pw = s.pw := rfl
@[simp] theorem State.modPort_dev (s : State) (p f) : (s.modPort p f).dev = s.dev := rfl
@[simp] theorem State.modPort_regions (s : State) (p f) : (s.modPort p f).regions = s.regions := rfl
@[simp] theorem State.modPort_tr (s : State) (p f) : (s.modPort p f).tr = s.tr := rfl
@[simp] theorem State.modPort_host (s : State) (p f) : (s.modPort p f).host = s.host := rfl
@[simp] theorem State.modPort_ties (s : State) (p f) : (s.modPort p f).ties = s.ties := rfl
@[simp] theorem State.modPort_tieDisturbed (s : State) (p f) : (s.modPort p f).tieDisturbed = s.tieDisturbed := rfl
@[simp] theorem State.modPort_parityRecord (s : State) (p f) : (s.modPort p f).parityRecord = s.parityRecord := rfl
@[simp] theorem State.modPort_att (s : State) (p f) : (s.modPort p f).att = s.att := rfl
@[simp] theorem State.modPort_cnt (s : State) (p f) : (s.modPort p f).cnt = s.cnt := rfl
@[simp] theorem State.modPort_svc (s : State) (p f) : (s.modPort p f).svc = s.svc := rfl
@[simp] theorem State.modPort_flash (s : State) (p f) : (s.modPort p f).flash = s.flash := rfl
@[simp] theorem State.modPort_coreUs (s : State) (p f) : (s.modPort p f).coreUs = s.coreUs := rfl
@[simp] theorem State.modPort_freeCtr (s : State) (p f) : (s.modPort p f).freeCtr = s.freeCtr := rfl

/-! ### modRegion -/

@[simp] theorem State.modRegion_pending (s : State) (r f) : (s.modRegion r f).pending = s.pending := rfl
@[simp] theorem State.modRegion_boot (s : State) (r f) : (s.modRegion r f).boot = s.boot := rfl
@[simp] theorem State.modRegion_pw (s : State) (r f) : (s.modRegion r f).pw = s.pw := rfl
@[simp] theorem State.modRegion_dev (s : State) (r f) : (s.modRegion r f).dev = s.dev := rfl
@[simp] theorem State.modRegion_ports (s : State) (r f) : (s.modRegion r f).ports = s.ports := rfl
@[simp] theorem State.modRegion_regions (s : State) (r f) : (s.modRegion r f).regions = s.regions.set r (f (s.region r)) := rfl
@[simp] theorem State.modRegion_tr (s : State) (r f) : (s.modRegion r f).tr = s.tr := rfl
@[simp] theorem State.modRegion_host (s : State) (r f) : (s.modRegion r f).host = s.host := rfl
@[simp] theorem State.modRegion_ties (s : State) (r f) : (s.modRegion r f).ties = s.ties := rfl
@[simp] theorem State.modRegion_tieDisturbed (s : State) (r f) : (s.modRegion r f).tieDisturbed = s.tieDisturbed := rfl
@[simp] theorem State.modRegion_parityRecord (s : State) (r f) : (s.modRegion r f).parityRecord = s.parityRecord := rfl
@[simp] theorem State.modRegion_att (s : State) (r f) : (s.modRegion r f).att = s.att := rfl
@[simp] theorem State.modRegion_cnt (s : State) (r f) : (s.modRegion r f).cnt = s.cnt := rfl
@[simp] theorem State.modRegion_svc (s : State) (r f) : (s.modRegion r f).svc = s.svc := rfl
@[simp] theorem State.modRegion_flash (s : State) (r f) : (s.modRegion r f).flash = s.flash := rfl
@[simp] theorem State.modRegion_coreUs (s : State) (r f) : (s.modRegion r f).coreUs = s.coreUs := rfl
@[simp] theorem State.modRegion_freeCtr (s : State) (r f) : (s.modRegion r f).freeCtr = s.freeCtr := rfl

/-! ### modTie -/

@[simp] theorem State.modTie_pending (s : State) (g f) : (s.modTie g f).pending = s.pending := rfl
@[simp] theorem State.modTie_boot (s : State) (g f) : (s.modTie g f).boot = s.boot := rfl
@[simp] theorem State.modTie_pw (s : State) (g f) : (s.modTie g f).pw = s.pw := rfl
@[simp] theorem State.modTie_dev (s : State) (g f) : (s.modTie g f).dev = s.dev := rfl
@[simp] theorem State.modTie_ports (s : State) (g f) : (s.modTie g f).ports = s.ports := rfl
@[simp] theorem State.modTie_regions (s : State) (g f) : (s.modTie g f).regions = s.regions := rfl
@[simp] theorem State.modTie_tr (s : State) (g f) : (s.modTie g f).tr = s.tr := rfl
@[simp] theorem State.modTie_host (s : State) (g f) : (s.modTie g f).host = s.host := rfl
@[simp] theorem State.modTie_ties (s : State) (g f) : (s.modTie g f).ties = s.ties.set g (f (s.tie g)) := rfl
@[simp] theorem State.modTie_tieDisturbed (s : State) (g f) : (s.modTie g f).tieDisturbed = s.tieDisturbed := rfl
@[simp] theorem State.modTie_parityRecord (s : State) (g f) : (s.modTie g f).parityRecord = s.parityRecord := rfl
@[simp] theorem State.modTie_att (s : State) (g f) : (s.modTie g f).att = s.att := rfl
@[simp] theorem State.modTie_cnt (s : State) (g f) : (s.modTie g f).cnt = s.cnt := rfl
@[simp] theorem State.modTie_svc (s : State) (g f) : (s.modTie g f).svc = s.svc := rfl
@[simp] theorem State.modTie_flash (s : State) (g f) : (s.modTie g f).flash = s.flash := rfl
@[simp] theorem State.modTie_coreUs (s : State) (g f) : (s.modTie g f).coreUs = s.coreUs := rfl
@[simp] theorem State.modTie_freeCtr (s : State) (g f) : (s.modTie g f).freeCtr = s.freeCtr := rfl

/-! ### modTr -/

@[simp] theorem State.modTr_pending (s : State) (f) : (s.modTr f).pending = s.pending := rfl
@[simp] theorem State.modTr_boot (s : State) (f) : (s.modTr f).boot = s.boot := rfl
@[simp] theorem State.modTr_pw (s : State) (f) : (s.modTr f).pw = s.pw := rfl
@[simp] theorem State.modTr_dev (s : State) (f) : (s.modTr f).dev = s.dev := rfl
@[simp] theorem State.modTr_ports (s : State) (f) : (s.modTr f).ports = s.ports := rfl
@[simp] theorem State.modTr_regions (s : State) (f) : (s.modTr f).regions = s.regions := rfl
@[simp] theorem State.modTr_tr (s : State) (f) : (s.modTr f).tr = f s.tr := rfl
@[simp] theorem State.modTr_host (s : State) (f) : (s.modTr f).host = s.host := rfl
@[simp] theorem State.modTr_ties (s : State) (f) : (s.modTr f).ties = s.ties := rfl
@[simp] theorem State.modTr_tieDisturbed (s : State) (f) : (s.modTr f).tieDisturbed = s.tieDisturbed := rfl
@[simp] theorem State.modTr_parityRecord (s : State) (f) : (s.modTr f).parityRecord = s.parityRecord := rfl
@[simp] theorem State.modTr_att (s : State) (f) : (s.modTr f).att = s.att := rfl
@[simp] theorem State.modTr_cnt (s : State) (f) : (s.modTr f).cnt = s.cnt := rfl
@[simp] theorem State.modTr_svc (s : State) (f) : (s.modTr f).svc = s.svc := rfl
@[simp] theorem State.modTr_flash (s : State) (f) : (s.modTr f).flash = s.flash := rfl
@[simp] theorem State.modTr_coreUs (s : State) (f) : (s.modTr f).coreUs = s.coreUs := rfl
@[simp] theorem State.modTr_freeCtr (s : State) (f) : (s.modTr f).freeCtr = s.freeCtr := rfl

/-! ### modSvc -/

@[simp] theorem State.modSvc_pending (s : State) (f) : (s.modSvc f).pending = s.pending := rfl
@[simp] theorem State.modSvc_boot (s : State) (f) : (s.modSvc f).boot = s.boot := rfl
@[simp] theorem State.modSvc_pw (s : State) (f) : (s.modSvc f).pw = s.pw := rfl
@[simp] theorem State.modSvc_dev (s : State) (f) : (s.modSvc f).dev = s.dev := rfl
@[simp] theorem State.modSvc_ports (s : State) (f) : (s.modSvc f).ports = s.ports := rfl
@[simp] theorem State.modSvc_regions (s : State) (f) : (s.modSvc f).regions = s.regions := rfl
@[simp] theorem State.modSvc_tr (s : State) (f) : (s.modSvc f).tr = s.tr := rfl
@[simp] theorem State.modSvc_host (s : State) (f) : (s.modSvc f).host = s.host := rfl
@[simp] theorem State.modSvc_ties (s : State) (f) : (s.modSvc f).ties = s.ties := rfl
@[simp] theorem State.modSvc_tieDisturbed (s : State) (f) : (s.modSvc f).tieDisturbed = s.tieDisturbed := rfl
@[simp] theorem State.modSvc_parityRecord (s : State) (f) : (s.modSvc f).parityRecord = s.parityRecord := rfl
@[simp] theorem State.modSvc_att (s : State) (f) : (s.modSvc f).att = s.att := rfl
@[simp] theorem State.modSvc_cnt (s : State) (f) : (s.modSvc f).cnt = s.cnt := rfl
@[simp] theorem State.modSvc_svc (s : State) (f) : (s.modSvc f).svc = f s.svc := rfl
@[simp] theorem State.modSvc_flash (s : State) (f) : (s.modSvc f).flash = s.flash := rfl
@[simp] theorem State.modSvc_coreUs (s : State) (f) : (s.modSvc f).coreUs = s.coreUs := rfl
@[simp] theorem State.modSvc_freeCtr (s : State) (f) : (s.modSvc f).freeCtr = s.freeCtr := rfl

/-! ### setQueue -/

@[simp] theorem State.setQueue_pending (s : State) (p d q) : (s.setQueue p d q).pending = s.pending := rfl
@[simp] theorem State.setQueue_boot (s : State) (p d q) : (s.setQueue p d q).boot = s.boot := rfl
@[simp] theorem State.setQueue_pw (s : State) (p d q) : (s.setQueue p d q).pw = s.pw := rfl
@[simp] theorem State.setQueue_dev (s : State) (p d q) : (s.setQueue p d q).dev = s.dev := rfl
@[simp] theorem State.setQueue_regions (s : State) (p d q) : (s.setQueue p d q).regions = s.regions := rfl
@[simp] theorem State.setQueue_tr (s : State) (p d q) : (s.setQueue p d q).tr = s.tr := rfl
@[simp] theorem State.setQueue_host (s : State) (p d q) : (s.setQueue p d q).host = s.host := rfl
@[simp] theorem State.setQueue_ties (s : State) (p d q) : (s.setQueue p d q).ties = s.ties := rfl
@[simp] theorem State.setQueue_tieDisturbed (s : State) (p d q) : (s.setQueue p d q).tieDisturbed = s.tieDisturbed := rfl
@[simp] theorem State.setQueue_parityRecord (s : State) (p d q) : (s.setQueue p d q).parityRecord = s.parityRecord := rfl
@[simp] theorem State.setQueue_att (s : State) (p d q) : (s.setQueue p d q).att = s.att := rfl
@[simp] theorem State.setQueue_cnt (s : State) (p d q) : (s.setQueue p d q).cnt = s.cnt := rfl
@[simp] theorem State.setQueue_svc (s : State) (p d q) : (s.setQueue p d q).svc = s.svc := rfl
@[simp] theorem State.setQueue_flash (s : State) (p d q) : (s.setQueue p d q).flash = s.flash := rfl
@[simp] theorem State.setQueue_coreUs (s : State) (p d q) : (s.setQueue p d q).coreUs = s.coreUs := rfl
@[simp] theorem State.setQueue_freeCtr (s : State) (p d q) : (s.setQueue p d q).freeCtr = s.freeCtr := rfl

/-! ### Ports, regions, tie groups, queues -/

@[simp] theorem State.port_setPort (s : State) (p x) : (s.setPort p x).port p = x := by
  simp [State.port, State.setPort]
theorem State.port_setPort_ne (s : State) {p q : PortId} (x) (h : q ≠ p) : (s.setPort p x).port q = s.port q := by
  simp [State.port, State.setPort, Fin.val_ne_of_ne h.symm]
@[simp] theorem State.port_modPort (s : State) (p f) : (s.modPort p f).port p = f (s.port p) := State.port_setPort ..
theorem State.port_modPort_ne (s : State) {p q : PortId} (f) (h : q ≠ p) : (s.modPort p f).port q = s.port q :=
  State.port_setPort_ne s _ h
@[simp] theorem State.region_modRegion (s : State) (r f) : (s.modRegion r f).region r = f (s.region r) := by
  simp [State.region, State.modRegion]
theorem State.region_modRegion_ne (s : State) {r g : RegionId} (f) (h : g ≠ r) :
    (s.modRegion r f).region g = s.region g := by
  simp [State.region, State.modRegion, Fin.val_ne_of_ne h.symm]
@[simp] theorem State.tie_modTie (s : State) (g f) : (s.modTie g f).tie g = f (s.tie g) := by
  simp [State.tie, State.modTie]
theorem State.tie_modTie_ne (s : State) {g h : Fin 4} (f) (hn : h ≠ g) : (s.modTie g f).tie h = s.tie h := by
  simp [State.tie, State.modTie, Fin.val_ne_of_ne hn.symm]
/-! ### A port's queue and what stands beside it -/

@[simp] theorem Port.queue_setCheck (x : Port) (d e c) : (x.setCheck d c).queue e = x.queue e := by cases d <;> rfl
@[simp] theorem Port.checkOf_setCheck (x : Port) (d c) : (x.setCheck d c).checkOf d = c := by cases d <;> rfl
@[simp] theorem Port.queue_setFirst (x : Port) (d q) : (x.setFirst d q).queue d = q := by cases d <;> rfl
@[simp] theorem Port.checkOf_setFirst (x : Port) (d e q) : (x.setFirst d q).checkOf e = x.checkOf e := by cases d <;> rfl
@[simp] theorem Port.queue_setQueue (x : Port) (d q) : (x.setQueue d q).queue d = q := by simp [Port.setQueue]
@[simp] theorem Port.queue_renewQueue (x : Port) (d q) : (x.renewQueue d q).queue d = q := by simp [Port.renewQueue]
@[simp] theorem Port.checkOf_renewQueue (x : Port) (d q) : (x.renewQueue d q).checkOf d = q.check := by
  simp [Port.renewQueue]
@[simp] theorem State.queue_setQueue (s : State) (p d q) : (s.setQueue p d q).queue p d = q := by
  simp [State.queue, State.setQueue]

/-- Where the copies agree, they still agree once the queue is replaced (R211, R212). -/
theorem Port.agrees_setQueue (x : Port) (d q) (h : x.checkOf d = (x.queue d).check) :
    ((x.setQueue d q).checkOf d) = ((x.setQueue d q).queue d).check := by simp [Port.setQueue, h]
/-- A queue written anew agrees with its copies. -/
theorem Port.agrees_renewQueue (x : Port) (d q) : (x.renewQueue d q).agrees d = true := by
  simp [Port.agrees, QCheck.pointerFails, QCheck.parityFails]

end Sys2Proof.Machine
end

