-- ==== Sys2Proof/Laws/Steady.lean ====
section
/-! SUPPORT. What the operations on a port leave alone in every port: each keeps `State.steady`, the ports' states and
transitions, profiles, lines and levels; `lineChange_steady` says what a change of a port's pairs makes of it. One lemma
per operation; a proof about a command cites them and unfolds nothing. -/

namespace Sys2Proof.Machine

theorem modPort_steady {s : State} {p : PortId} {f : Port → Port} (h : ∀ x, (f x).steady = x.steady) :
    (s.modPort p f).steady = s.steady := by
  apply Vector.ext
  intro i hi
  simp only [State.steady, State.modPort, State.setPort, State.port, Vector.getElem_map, Vector.getElem_set]
  split
  · next e => subst e; exact h _
  · rfl
theorem modRegion_steady (s : State) (r f) : (s.modRegion r f).steady = s.steady := rfl
theorem modTie_steady (s : State) (g f) : (s.modTie g f).steady = s.steady := rfl
theorem setQueue_steady (s : State) (p d q) : (s.setQueue p d q).steady = s.steady :=
    modPort_steady (fun x => by cases d <;> rfl)
theorem steady_ite (c : Prop) [Decidable c] (a b : State) :
    (if c then a else b).steady = if c then a.steady else b.steady := by split <;> rfl
theorem steady_upd (s : State) (a b c d rg tr h ti td pr at_ cn sv fl us fc) :
    State.steady (State.mk a b c d s.ports rg tr h ti td pr at_ cn sv fl us fc) = s.steady := rfl
theorem forEach_steady {α : Type} (xs : List α) (f : α → State → State) (s : State) (h : ∀ x t, (f x t).steady = t.steady) :
    (forEach xs f s).steady = s.steady := by
  unfold forEach
  induction xs generalizing s with
  | nil => rfl
  | cons x xs ih => rw [List.foldl_cons, ih, h]
theorem foldl_steady {α : Type} (f : State → α → State) (h : ∀ t x, (f t x).steady = t.steady) (l : List α) (s : State) :
    (l.foldl f s).steady = s.steady := by
  induction l generalizing s with
  | nil => rfl
  | cons x xs ih => rw [List.foldl_cons, ih, h]
theorem attEvent_steady (i s) : (State.attEvent i s).steady = s.steady := by
  unfold State.attEvent
  simp only [↓steady_ite, steady_ite]
  repeat' split
  all_goals rfl
theorem attFall_steady (i s) : (State.attFall i s).steady = s.steady := rfl
theorem attEvents_steady (is s) : (State.attEvents is s).steady = s.steady :=
    forEach_steady _ _ _ (fun i t => attEvent_steady i t)
theorem count_steady (code s) : (State.count code s).steady = s.steady := by
  unfold State.count
  split
  · rfl
  · dsimp only
    refine Eq.trans (foldl_steady _ ?_ _ _) ?_
    · exact fun t i => attEvent_steady i t
    · unfold State.steady; rfl
theorem portCount_steady (e p s) : (State.portCount e p s).steady = s.steady := count_steady ..
theorem hide_steady (k b) (x : Port) : (x.hide k b).steady = x.steady := by
  unfold Port.hide
  split <;> rfl
theorem markChar_steady (b p s) : (State.markChar b p s).steady = s.steady :=
    (portCount_steady ..).trans (modPort_steady (fun x => hide_steady 2 b.val x))
theorem tell_steady (p n s) : (State.tell p n s).steady = s.steady := (attEvent_steady ..).trans (modPort_steady (by exact fun _ => rfl))
theorem tellAll_steady (p ns s) : (State.tellAll p ns s).steady = s.steady :=
    forEach_steady _ _ _ (fun n t => tell_steady p n t)
theorem charEvent_steady (b p s) : (State.charEvent b p s).steady = s.steady := (tell_steady ..).trans (markChar_steady ..)
theorem markAf_steady (b p s) : (State.markAf b p s).steady = s.steady :=
    (portCount_steady ..).trans (modPort_steady (fun x => hide_steady 3 b.val x))
theorem afEvent_steady (b p s) : (State.afEvent b p s).steady = s.steady := (tell_steady ..).trans (markAf_steady ..)
theorem flowEvent_steady (b p s) : (State.flowEvent b p s).steady = s.steady := by
  unfold State.flowEvent
  try dsimp only
  repeat' (first
    | with_reducible rfl
    | with_reducible refine (attEvent_steady ..).trans ?_
    | with_reducible refine (portCount_steady ..).trans ?_
    | with_reducible refine (modPort_steady ?_).trans ?_
    | exact fun _ => rfl)
theorem markRxq_steady (b p s) : (State.markRxq b p s).steady = s.steady :=
    (portCount_steady ..).trans (modPort_steady (fun x => hide_steady 1 b.val x))
theorem rxqEvent_steady (b p s) : (State.rxqEvent b p s).steady = s.steady := by
  unfold State.rxqEvent
  simp only [↓tell_steady, ↓markRxq_steady, ↓steady_ite, ite_self]
theorem txqEvent_steady (b p s) : (State.txqEvent b p s).steady = s.steady := by
  unfold State.txqEvent
  try dsimp only
  repeat' (first
    | with_reducible rfl
    | with_reducible refine (attEvent_steady ..).trans ?_
    | with_reducible refine (portCount_steady ..).trans ?_
    | with_reducible refine (modPort_steady ?_).trans ?_
    | exact fun _ => rfl
    | split)
theorem qFaultEvent_steady (b p s) : (State.qFaultEvent b p s).steady = s.steady := by
  unfold State.qFaultEvent
  try dsimp only
  repeat' (first
    | with_reducible rfl
    | with_reducible refine (attEvent_steady ..).trans ?_
    | with_reducible refine (portCount_steady ..).trans ?_
    | with_reducible refine (modPort_steady ?_).trans ?_
    | exact fun _ => rfl)
theorem pstateEvent_steady (b p s) : (State.pstateEvent b p s).steady = s.steady := by
  unfold State.pstateEvent
  try dsimp only
  repeat' (first
    | with_reducible rfl
    | with_reducible refine (attEvent_steady ..).trans ?_
    | with_reducible refine (modPort_steady ?_).trans ?_
    | exact fun _ => rfl)
theorem markLine_steady (c p s) : (State.markLine c p s).steady = s.steady :=
    modPort_steady (fun x => hide_steady 0 (c - 1) x)
theorem hostError_steady (b s) : (State.hostError b s).steady = s.steady := by
  unfold State.hostError
  simp only [↓attEvent_steady, ↓count_steady]
  rfl
theorem powerEvent_steady (b s) : (State.powerEvent b s).steady = s.steady := by
  unfold State.powerEvent
  simp only [↓attEvent_steady, ↓count_steady]
  rfl
theorem attUnitEvent_steady (b s) : (State.attUnitEvent b s).steady = s.steady := rfl
theorem setPool_steady (p n s) : (State.setPool p n s).steady = s.steady := by
  unfold State.setPool
  simp only [↓modRegion_steady, ↓count_steady, ↓steady_ite, ite_self, steady_ite]
theorem steady_if {c : Prop} [Decidable c] {a b : State} {k : Vector Port 16} (h1 : a.steady = k) (h2 : b.steady = k) :
    (if c then a else b).steady = k := by split <;> assumption
theorem putQueue_steady (p d q n s) : (State.putQueue p d q n s).steady = s.steady :=
    (setPool_steady ..).trans (setQueue_steady ..)
theorem modQueue_steady (p d f s) : (State.modQueue p d f s).steady = s.steady := setQueue_steady ..
theorem deliver_steady (p s) : (State.deliver p s).steady = s.steady :=
    (tellAll_steady ..).trans (setQueue_steady ..)
theorem addLoss_steady (p d reason count notes s) : (State.addLoss p d reason count notes s).steady = s.steady := by
  unfold State.addLoss
  simp only [↓modQueue_steady]
theorem addHeldLoss_steady (p s) : (State.addHeldLoss p s).steady = s.steady := by
  unfold State.addHeldLoss
  simp only [↓modQueue_steady]
theorem lossSince_steady (p o s) : (State.lossSince p o s).steady = s.steady := modPort_steady (fun _ => rfl)
theorem enterItem_steady {p d i u ns o} {s t : State} (h : s.enterItem p d i u ns o = some t) : t.steady = s.steady := by
  unfold State.enterItem at h
  dsimp only at h
  split at h
  · exact absurd h (by simp)
  split at h
  · exact absurd h (by simp)
  · cases h
    simp only [↓putQueue_steady, ↓steady_ite]
    cases d <;> simp only [↓putQueue_steady, ↓txqEvent_steady, ↓markRxq_steady, ↓steady_ite, ite_self]
theorem noteTxGap_steady (p r s) : (State.noteTxGap p r s).steady = s.steady :=
  (txqEvent_steady ..).trans (modPort_steady (fun _ => by cases r.count <;> rfl))
theorem writeGap_steady (p d s) : (State.writeGap p d s).steady = s.steady := by
  unfold State.writeGap
  split
  · rfl
  · dsimp only
    split
    · rfl
    · have h2 := (enterItem_steady ‹_›).trans (modQueue_steady ..)
      cases d
      · exact steady_if ((addHeldLoss_steady ..).trans ((markRxq_steady ..).trans h2)) ((markRxq_steady ..).trans h2)
      · exact (noteTxGap_steady ..).trans h2
theorem payFlush_steady (p d n s) : (State.payFlush p d n s).steady = s.steady := by
  induction n generalizing s with
  | zero => rfl
  | succ n ih =>
    unfold State.payFlush
    split
    · rfl
    · exact (ih _).trans ((modQueue_steady ..).trans (enterItem_steady ‹_›))
theorem tryGap_steady (p d force s) : (State.tryGap p d force s).steady = s.steady := by
  unfold State.tryGap
  dsimp only
  refine steady_if rfl ?_
  cases d
  · exact (deliver_steady ..).trans ((payFlush_steady ..).trans (writeGap_steady ..))
  · exact (payFlush_steady ..).trans (writeGap_steady ..)
theorem takeItem_steady {p d e l} {s t : State} (h : s.takeItem p d = some (e, l, t)) : t.steady = s.steady := by
  unfold State.takeItem at h
  split at h
  · exact absurd h (by simp)
  split at h
  · exact absurd h (by simp)
  · cases h
    exact putQueue_steady ..
theorem tieReady_steady (g s) : (State.tieReady g s).steady = s.steady := by
  unfold State.tieReady
  simp only [↓modTie_steady, ↓attEvent_steady, ↓attFall_steady, ↓steady_ite, ite_self, steady_ite]
theorem tieLeave_steady (p' g s) : (State.tieLeave p' g s).steady = s.steady := rfl
theorem tieOpen_steady (g s) : (State.tieOpen g s).steady = s.steady := rfl
theorem tieSync_steady (p s) : (State.tieSync p s).steady = s.steady := by
  unfold State.tieSync
  dsimp only
  rw [forEach_steady _ _ _ (fun g t => (tieReady_steady g _).trans (tieOpen_steady g t))]
  refine steady_if rfl ?_
  split
  · exact (tieLeave_steady ..).trans (modPort_steady (by exact fun _ => rfl))
  · exact modPort_steady (by exact fun _ => rfl)
theorem passTie_steady (p s) : (State.passTie p s).steady = s.steady := by
  unfold State.passTie
  refine steady_if (steady_if (modQueue_steady ..) rfl) ?_
  split
  · exact takeItem_steady ‹_›
  · rfl
theorem endWait_steady (p s) : (State.endWait p s).steady = s.steady := (modPort_steady (by exact fun _ => rfl)).trans (passTie_steady ..)
theorem leaveTie_steady (p s) : (State.leaveTie p s).steady = s.steady := by
  unfold State.leaveTie
  dsimp only
  rw [tieSync_steady, forEach_steady _ _ _ (fun g t => modTie_steady t g _)]
  split
  · exact (tieLeave_steady ..).trans (endWait_steady ..)
  · rfl
theorem finishFlush_steady (p d s) : (State.finishFlush p d s).steady = s.steady := by
  unfold State.finishFlush
  split
  · refine (tieSync_steady ..).trans ((tryGap_steady ..).trans ((modQueue_steady ..).trans ?_))
    exact steady_if rfl (addLoss_steady ..)
  · rfl
theorem atBoundary_steady (p d s) : (State.atBoundary p d s).steady = s.steady := steady_if (finishFlush_steady ..) rfl
theorem boundaryBefore_steady (p d i s) : (State.boundaryBefore p d i s).steady = s.steady :=
    steady_if (finishFlush_steady ..) rfl
theorem takeFlush_steady (p reason s) : (State.takeFlush p reason s).steady = s.steady := by
  unfold State.takeFlush
  dsimp only
  split
  · rfl
  · exact modQueue_steady ..
  · exact (modQueue_steady ..).trans (steady_if rfl (addLoss_steady ..))
theorem flushDiscard_steady (p d i notes s) : (State.flushDiscard p d i notes s).steady = s.steady :=
    (atBoundary_steady ..).trans (modQueue_steady ..)
theorem rxEntered_steady (p h s) : (State.rxEntered p h s).steady = s.steady := by
  unfold State.rxEntered
  simp only [↓portCount_steady, ↓markChar_steady, ↓steady_ite, ite_self]
  cases h.af
  · rfl
  · exact markAf_steady ..
theorem clearHolding_steady (p s) : (State.clearHolding p s).steady = s.steady := modPort_steady (by exact fun _ => rfl)
theorem drain_steady (p s) : (State.drain p s).steady = s.steady := by
  unfold State.drain
  dsimp only
  have h1 := (tryGap_steady p .rx false _).trans (atBoundary_steady p .rx s)
  split
  · exact (tieSync_steady ..).trans h1
  · rename_i h _
    have h2 := (boundaryBefore_steady p .rx h.item _).trans h1
    have h3 := (clearHolding_steady p _).trans h2
    refine steady_if ?_ (steady_if ((tieSync_steady ..).trans h2) ?_)
    · exact (tieSync_steady ..).trans ((flushDiscard_steady ..).trans ((rxEntered_steady ..).trans h3))
    · split
      · exact (tieSync_steady ..).trans h2
      · exact (tieSync_steady ..).trans ((deliver_steady ..).trans ((rxEntered_steady ..).trans
          ((enterItem_steady ‹_›).trans h3)))
theorem loseItem_steady (p d reason i notes s) : (State.loseItem p d reason i notes s).steady = s.steady :=
    (modQueue_steady ..).trans (addLoss_steady ..)
theorem offer_steady (p h s) : (State.offer p h s).steady = s.steady := by
  unfold State.offer
  try dsimp only
  repeat' (first
    | with_reducible rfl
    | with_reducible refine (markChar_steady ..).trans ?_
    | with_reducible refine (loseItem_steady ..).trans ?_
    | with_reducible refine (drain_steady ..).trans ?_
    | with_reducible refine (modPort_steady ?_).trans ?_
    | exact fun _ => rfl
    | split)
theorem offerMark_steady (p i lane s) : (State.offerMark p i lane s).steady = s.steady := by
  unfold State.offerMark
  simp only [↓offer_steady]
theorem offerLine_steady (p scope c lane s) : (State.offerLine p scope c lane s).steady = s.steady := by
  unfold State.offerLine
  simp only [↓markLine_steady, ↓offer_steady]
theorem discardHolding_steady (p reason s) : (State.discardHolding p reason s).steady = s.steady := by
  unfold State.discardHolding
  dsimp only
  have h : ∀ c : Bool, (if c then s else s.drain p).steady = s.steady := fun c => steady_if rfl (drain_steady ..)
  split
  · exact h _
  · exact (loseItem_steady ..).trans ((clearHolding_steady ..).trans (h _))
theorem cancelFlush_steady (p d s) : (State.cancelFlush p d s).steady = s.steady := by
  unfold State.cancelFlush
  refine (modQueue_steady ..).trans ?_
  split
  · exact steady_if rfl (addLoss_steady ..)
  · rfl
theorem emptyQueue_steady (p d reason known extra s) :
    (State.emptyQueue p d reason known extra s).steady = s.steady := by
  unfold State.emptyQueue
  extract_lets q n r s1 s2 notes s3 rg s4 s5
  have h2 : s2.steady = s.steady := by
    have h1 : s1.steady = s.steady :=
      (setPool_steady ..).trans (modPort_steady (by intro x; cases d <;> rfl))
    dsimp only [s2]; split
    · exact h1
    · exact (lossSince_steady ..).trans h1
  have h3 : s3.steady = s2.steady := by
    dsimp only [s3]; repeat' split
    all_goals first | rfl | exact addLoss_steady ..
  have h4 : s4.steady = s3.steady := by
    dsimp only [s4]; split
    · rfl
    · exact (count_steady ..).trans (modRegion_steady ..)
  have h : s5.steady = s.steady := (tryGap_steady ..).trans (h4.trans (h3.trans h2))
  split
  · exact (drain_steady ..).trans h
  · exact (tieSync_steady ..).trans ((modPort_steady (by exact fun _ => rfl)).trans h)
theorem resetQueue_steady (p d reason known extra s) :
    (State.resetQueue p d reason known extra s).steady = s.steady := (emptyQueue_steady ..).trans (cancelFlush_steady ..)
/-- A flush that crosses over copies that agree; where they disagree the queue is reset, which adds outage. -/
theorem crossFlush_steady {p d} {s : State} (h : s.sound p d = true) : (State.crossFlush p d s).steady = s.steady := by
  unfold State.crossFlush
  extract_lets x q whole r s1 fl s2
  have h1 : s1.steady = s.steady := by
    dsimp only [s1]; split
    · rfl
    · exact lossSince_steady ..
  have h2 : s2.steady = s.steady := (putQueue_steady ..).trans h1
  rw [if_pos h]
  refine (tieSync_steady ..).trans (steady_if ?_ ?_)
  · exact (takeFlush_steady ..).trans h2
  · exact (atBoundary_steady ..).trans h2
/-- A discard over copies that agree; where they disagree the queue is reset, which adds outage. -/
theorem discardQueue_steady {p d reason} {s : State} (h : s.sound p d = true) :
    (State.discardQueue p d reason s).steady = s.steady := by
  unfold State.discardQueue
  extract_lets q whole r t1 t2
  have h1 : t1.steady = s.steady := putQueue_steady ..
  have h2 : t2.steady = s.steady := by
    dsimp only [t2]; repeat' split
    · exact h1
    · exact (addLoss_steady ..).trans h1
    · exact (addLoss_steady ..).trans ((lossSince_steady ..).trans h1)
  have hw : whole = true := by simp [whole, h]
  rw [if_pos hw]
  exact h2
theorem txLost_steady (p reason i o s) : (State.txLost p reason i o s).steady = s.steady :=
    (modPort_steady (by exact fun _ => rfl)).trans ((loseItem_steady ..).trans (lossSince_steady ..))
theorem txOver_steady (p i o s) : (State.txOver p i o s).steady = s.steady :=
    steady_if (txLost_steady ..) ((hostError_steady ..).trans (txLost_steady ..))
theorem txEnter_steady (p i urgent o s) : (State.txEnter p i urgent o s).steady = s.steady := by
  unfold State.txEnter
  dsimp only
  have h0 := modPort_steady (s := s) (p := p) (f := fun x => { x with placed := x.placed + BitVec.ofNat 24 i.cells }) (by exact fun _ => rfl)
  have h1 := (boundaryBefore_steady p .tx i _).trans h0
  have h2 := (tryGap_steady p .tx false _).trans h1
  refine steady_if ((txLost_steady ..).trans h0) (steady_if ((txLost_steady ..).trans h0) (steady_if ?_ (steady_if ?_ ?_)))
  · exact (modPort_steady (by exact fun _ => rfl)).trans ((flushDiscard_steady ..).trans ((lossSince_steady ..).trans h1))
  · exact (txOver_steady ..).trans h2
  · split
    · exact (txOver_steady ..).trans h2
    · exact (tieSync_steady ..).trans ((modPort_steady (by exact fun _ => rfl)).trans ((enterItem_steady ‹_›).trans h2))
theorem actFlowCode_steady (p ch s) : (State.actFlowCode p ch s).steady = s.steady := by
  unfold State.actFlowCode
  dsimp only
  split
  · split
    · rfl
    · exact (tieSync_steady ..).trans ((portCount_steady ..).trans (modPort_steady (fun _ => by simp only [Port.steady])))
  · split
    · split
      · exact (tieSync_steady ..).trans (modPort_steady (fun _ => by simp only [Port.steady]))
      · rfl
    · split
      · exact (tieSync_steady ..).trans (modPort_steady (fun _ => by simp only [Port.steady]))
      · rfl
theorem useGrant_steady (p s) : (State.useGrant p s).steady = s.steady :=
    steady_if rfl (steady_if (flowEvent_steady ..) ((tieSync_steady ..).trans (modPort_steady (by exact fun _ => rfl))))
theorem modAf_steady (p f s) : (State.modAf p f s).steady = s.steady := modPort_steady (fun _ => rfl)
theorem muteDiscard_steady (p s) : (State.muteDiscard p s).steady = s.steady := by
  unfold State.muteDiscard
  simp only [↓tieSync_steady, ↓portCount_steady, ↓modAf_steady]
theorem addrChar_steady (p cond ch s) : (State.addrChar p cond ch s).steady = s.steady := by
  unfold State.addrChar
  simp only [↓offer_steady, ↓modAf_steady, ↓muteDiscard_steady, ↓steady_ite, ite_self]
  repeat' (first | (with_reducible rfl) | split | (simp only [↓offer_steady, ↓modAf_steady, ↓muteDiscard_steady]))
theorem frameErr_steady (p code s) : (State.frameErr p code s).steady = s.steady := by
  unfold State.frameErr
  simp only [↓offer_steady, ↓modAf_steady]
theorem frameErrIfOpen_steady (p code s) : (State.frameErrIfOpen p code s).steady = s.steady := by
  unfold State.frameErrIfOpen
  simp only [↓frameErr_steady, ↓steady_ite, ite_self, steady_ite]
theorem frameEnd_steady (p s) : (State.frameEnd p s).steady = s.steady := by
  unfold State.frameEnd
  simp only [↓portCount_steady, ↓offerMark_steady, ↓modAf_steady]
theorem frameStart_steady (p s) : (State.frameStart p s).steady = s.steady := by
  unfold State.frameStart
  simp only [↓offerMark_steady, ↓modAf_steady, ↓frameEnd_steady, ↓steady_ite, ite_self, steady_ite]
theorem frameChar_steady (p cond ch s) : (State.frameChar p cond ch s).steady = s.steady := by
  unfold State.frameChar
  try dsimp only
  repeat' (first
    | with_reducible rfl
    | with_reducible refine (offer_steady ..).trans ?_
    | with_reducible refine (modAf_steady ..).trans ?_
    | with_reducible refine (frameErr_steady ..).trans ?_
    | with_reducible refine (frameEnd_steady ..).trans ?_
    | with_reducible refine (frameStart_steady ..).trans ?_
    | split)
theorem enterChar_steady (p cond ch s) : (State.enterChar p cond ch s).steady = s.steady := by
  unfold State.enterChar
  simp only [↓offer_steady, ↓actFlowCode_steady, ↓useGrant_steady, ↓addrChar_steady, ↓frameChar_steady, ↓steady_ite, ite_self, steady_ite]
theorem modLine_steady {p f} {s : State} (h : ∀ x : Port, ({ x with line := f x.line } : Port).steady = x.steady) :
    (State.modLine p f s).steady = s.steady := modPort_steady h
theorem writeLineMarks_steady (p s) : (State.writeLineMarks p s).steady = s.steady := by
  unfold State.writeLineMarks
  split
  · rfl
  · dsimp only
    refine Eq.trans (foldl_steady _ ?_ _ _) (modLine_steady (fun _ => rfl))
    exact fun t m => offerLine_steady p m.1 m.2 _ t
theorem enterLineFault_steady (p s) : (State.enterLineFault p s).steady = s.steady := by
  unfold State.enterLineFault
  dsimp only
  refine (leaveTie_steady ..).trans ((modPort_steady (by exact fun _ => rfl)).trans (steady_if ?_ rfl))
  exact (drain_steady ..).trans ((addLoss_steady ..).trans (modPort_steady (by exact fun _ => rfl)))
theorem leaveLineFault_steady (p s) : (State.leaveLineFault p s).steady = s.steady :=
    (tieSync_steady ..).trans ((tryGap_steady ..).trans (modPort_steady (by exact fun _ => rfl)))
theorem modPort_steady_congr {a b : State} {p : PortId} {f g : Port → Port} (h : a.steady = b.steady)
    (hf : (f (a.port p)).steady = (g (b.port p)).steady) : (a.modPort p f).steady = (b.modPort p g).steady := by
  apply Vector.ext
  intro i hi
  have h' := congrArg (fun v => v[i]) h
  simp only [State.steady, State.modPort, State.setPort, Vector.getElem_map, Vector.getElem_set] at h' ⊢
  split
  · exact hf
  · exact h'
theorem step_steady {c : Prop} [Decidable c] {a b : State} {k : Vector Port 16} (h : a.steady = b.steady) (hb : b.steady = k) :
    (if c then a else b).steady = k := by split <;> simp_all
theorem chargeOutage_steady (now) (x : Port) : (x.chargeOutage now).steady = x.steady := by
  simp only [Port.chargeOutage]
  split <;> split <;> rfl
theorem lineChange_steady (p mid f s) : (State.lineChange p mid f s).steady =
    (s.modPort p (fun x => x.withLine (f x.line))).steady := by
  unfold State.lineChange
  extract_lets x l shorts wasFault isFault listen lost moved cut n s1 s2 s3 s4 s5 s6 s7 s8 s9
  have h1 : s1.steady = s.steady :=
    step_steady ((offerMark_steady ..).trans (modPort_steady (by exact fun _ => rfl))) rfl
  clear_value s1
  have h2 : s2.steady = s.steady := step_steady (discardHolding_steady ..) h1
  clear_value s2
  have h3 : s3.steady = (s.modPort p (fun x => x.withLine (f x.line))).steady := by
    refine modPort_steady_congr h2 ((chargeOutage_steady ..).trans ?_)
    have h' := congrArg (fun v => v[p]) h2
    simp only [State.steady, Vector.getElem_map, Fin.getElem_fin] at h'
    have e : ∀ a b : Port, a.steady = b.steady → ∀ k e t, ({ a with line := { k with lineEvents := e }, tx := t } : Port).steady =
        ({ b with line := k } : Port).steady := by
      intro a b hab k e t
      simp only [Port.steady, Port.mk.injEq] at hab ⊢
      simp_all
    exact e _ _ h' _ _ _
  clear_value s3
  have h4 : s4.steady = _ := (writeLineMarks_steady ..).trans h3
  clear_value s4
  have h5 : s5.steady = (s.modPort p (fun x => x.withLine (f x.line))).steady := by
    show (match mid with | .char b n => if cut then s4.enterChar p 4 (cutChar x.dataBits b n) else s4 | _ => s4).steady = _
    split
    · exact step_steady (enterChar_steady ..) h4
    · exact h4
  clear_value s5
  have h6 : s6.steady = _ := step_steady (frameErrIfOpen_steady ..) h5
  clear_value s6
  have h7 : s7.steady = _ := step_steady (modPort_steady (by exact fun _ => rfl)) h6
  clear_value s7
  have h8 : s8.steady = (s.modPort p (fun x => x.withLine (f x.line))).steady := by
    show (if _ then _ else if _ then _ else _ : State).steady = _
    split
    · exact (enterLineFault_steady ..).trans h7
    · exact step_steady (leaveLineFault_steady ..) h7
  clear_value s8
  have h9 : s9.steady = _ := step_steady (powerEvent_steady ..) h8
  exact (tieSync_steady ..).trans h9
theorem startSense_steady (p prs s) : (State.startSense p prs s).steady = s.steady := by
  unfold State.startSense
  split
  · exact modLine_steady (fun _ => rfl)
  · rfl
theorem modRx_steady (p f s) : (State.modRx p f s).steady = s.steady := modPort_steady (fun _ => rfl)
theorem glitch_steady (p s) : (State.glitch p s).steady = s.steady := by
  unfold State.glitch
  simp only [↓charEvent_steady, ↓modRx_steady]
theorem modTx_steady (p f s) : (State.modTx p f s).steady = s.steady := modPort_steady (fun _ => rfl)
theorem modFlow_steady (p f s) : (State.modFlow p f s).steady = s.steady := modPort_steady (fun _ => rfl)
theorem modRate_steady (p f s) : (State.modRate p f s).steady = s.steady := modPort_steady (fun _ => rfl)
theorem startLine_steady (p n s) : (State.startLine p n s).steady = s.steady := by
  unfold State.startLine
  simp only [↓modTx_steady, ↓modFlow_steady, ↓steady_ite, ite_self, steady_ite]
theorem refuseItem_steady (p s) : (State.refuseItem p s).steady = s.steady := by
  unfold State.refuseItem
  try dsimp only
  repeat' (first
    | with_reducible rfl
    | with_reducible refine (txqEvent_steady ..).trans ?_
    | with_reducible refine (modPort_steady ?_).trans ?_
    | exact fun _ => rfl)
theorem closeTxFrame_steady (p s) : (State.closeTxFrame p s).steady = s.steady := by
  unfold State.closeTxFrame
  simp only [↓afEvent_steady, ↓modAf_steady, ↓steady_ite, ite_self, steady_ite]
theorem startFrame_steady (p arg len counted s) : (State.startFrame p arg len counted s).steady = s.steady := by
  unfold State.startFrame
  simp only [↓modAf_steady, ↓modTx_steady, ↓startLine_steady, ↓closeTxFrame_steady]
theorem sendHeader_steady (p : PortId) (c : BitVec 9) (rest : List (BitVec 9)) (s : State) :
    (State.sendHeader p c rest s).steady = s.steady := by
  unfold State.sendHeader
  simp only [↓portCount_steady, ↓modAf_steady, ↓modTx_steady, ↓startLine_steady, ↓steady_ite, ite_self, steady_ite]
theorem sendItem_steady (p i s) : (State.sendItem p i s).steady = s.steady := by
  unfold State.sendItem
  try dsimp only
  repeat' (first
    | with_reducible rfl
    | with_reducible refine (modTie_steady ..).trans ?_
    | with_reducible refine (attEvent_steady ..).trans ?_
    | with_reducible refine (portCount_steady ..).trans ?_
    | with_reducible refine (flowEvent_steady ..).trans ?_
    | with_reducible refine (modAf_steady ..).trans ?_
    | with_reducible refine (startLine_steady ..).trans ?_
    | with_reducible refine (refuseItem_steady ..).trans ?_
    | with_reducible refine (closeTxFrame_steady ..).trans ?_
    | with_reducible refine (modPort_steady ?_).trans ?_
    | exact fun _ => rfl
    | split)
theorem sendFrameStart_steady (p i s) : (State.sendFrameStart p i s).steady = s.steady := by
  unfold State.sendFrameStart
  dsimp only
  split
  · rfl
  · rename_i t h
    have ht := takeItem_steady h
    have hr : ((((t.closeTxFrame p).refuseItem p).afEvent 2 p)).steady = s.steady :=
      (afEvent_steady ..).trans ((refuseItem_steady ..).trans ((closeTxFrame_steady ..).trans ht))
    refine steady_if ((startFrame_steady ..).trans ht) (steady_if ?_ hr)
    split
    · rfl
    · exact hr
    · split
      · rfl
      · exact (startFrame_steady ..).trans ((takeItem_steady ‹_›).trans ht)
theorem txStart_steady (p mid s) : (State.txStart p mid s).steady = s.steady := by
  unfold State.txStart
  dsimp only
  refine steady_if rfl ?_
  split
  · exact (tieSync_steady ..).trans (sendHeader_steady ..)
  · split
    · rfl
    · refine steady_if rfl (steady_if ((tieSync_steady ..).trans (sendFrameStart_steady ..)) ?_)
      split
      · rfl
      · exact (tieSync_steady ..).trans ((sendItem_steady ..).trans (takeItem_steady ‹_›))
theorem holdPaid_steady (p s) : (State.holdPaid p s).steady = s.steady := modRegion_steady ..
theorem startCode_steady (p v s) : (State.startCode p v s).steady = s.steady := by
  unfold State.startCode
  simp only [↓modTx_steady]
theorem rateDone_steady (p s) : (State.rateDone p s).steady = s.steady :=
    steady_if rfl ((tieSync_steady ..).trans ((charEvent_steady ..).trans (modPort_steady (by exact fun _ => rfl))))
end Sys2Proof.Machine
end

