-- ==== Sys2Proof/Laws/Store.lean ====
section
/-! SUPPORT. What one write into the store does to a queue's free cells (07_queues_and_store.md R186 to R188; 06 R162). -/

namespace Sys2Proof.Machine

/-- The cells set aside after reserved cells were taken: none. -/
theorem spare_takeOwn (q : Queue) : q.takeOwn.spare = if 0 < q.spare then 0 else q.spare := by
  have h : ∀ l : List Seg,
      (l.map ((fun g => g.spare) ∘ fun g => if 0 < g.spare then { g with spare := 0, last := false } else g)).sum = 0 := by
    intro l
    induction l with
    | nil => rfl
    | cons g l ih =>
      simp only [List.map_cons, List.sum_cons, ih, Function.comp]
      split <;> simp_all
  unfold Queue.takeOwn
  split
  · simp [Queue.spare, h]
  · simp [Queue.spare]

/-- Free cells of a queue whose open tail is full. -/
theorem freeCells_full {q : Queue} (pool : Nat) (h : q.tailFree = 0) : q.freeCells pool = 64 * q.freeOwn + 64 * pool + q.spare := by
  simp [Queue.freeCells, h]

/-- The reserved cells taken lie in the new tail: none is lost. -/
theorem freeCells_takeOwn {q : Queue} (pool : Nat) (h : q.tailFree = 0) (ho : 0 < q.freeOwn + q.spare) :
    q.takeOwn.freeCells pool = q.freeCells pool := by
  have hs := spare_takeOwn q
  rw [freeCells_full pool h]
  unfold Queue.freeCells
  rw [hs]
  by_cases hp : 0 < q.spare
  · simp [Queue.takeOwn, Queue.tailFree, hp]
  · simp [Queue.takeOwn, Queue.tailFree, hp, Config.segCells]; omega

/-- A segment is taken whenever a cell is free, and takes none away. -/
theorem freeCells_takeSeg {q : Queue} (guard pool : Nat) (h : q.tailFree = 0) :
    (q.takeSeg guard pool).1.freeCells (q.takeSeg guard pool).2 = q.freeCells pool ∧
      (0 < q.freeCells pool → 0 < (q.takeSeg guard pool).1.tailFree) := by
  unfold Queue.takeSeg
  split
  · refine ⟨freeCells_takeOwn pool h (by omega), fun _ => ?_⟩
    unfold Queue.takeOwn
    split
    · simp [Queue.tailFree]; omega
    · simp [Queue.tailFree, Config.segCells]
  · split
    · rw [freeCells_full pool h]
      simp [Queue.freeCells, Queue.tailFree, Queue.spare, Config.segCells]; omega
    · rw [freeCells_full pool h]; omega

/-- A tail that has been set aside takes no cell. -/
theorem tailFree_setAside (q : Queue) : q.setAside.tailFree = 0 := by
  unfold Queue.setAside
  split
  · simp [Queue.tailFree]
  · cases h : q.segs.getLast? <;> simp_all [Queue.tailFree]

/-- A write takes one free cell, or leaves 63 and more where it sets its tail aside (R162, R188). -/
theorem freeCells_writeCell {q : Queue} (guard pool : Nat) (h : 0 < q.freeCells pool) :
    min (q.freeCells pool - 1) 63 ≤ (q.writeCell guard pool).1.freeCells (q.writeCell guard pool).2 := by
  have one (x : Queue) (n : Nat) (ht : 0 < x.tailFree) :
      ({ x with tailUsed := x.tailUsed + 1 } : Queue).freeCells n = x.freeCells n - 1 := by
    simp only [Queue.freeCells, Queue.tailFree, Queue.spare] at ht ⊢; omega
  unfold Queue.writeCell
  by_cases hg : q.tailGuarded guard pool = true
  · simp only [hg, ↓reduceIte]
    have ha := freeCells_takeSeg guard pool (tailFree_setAside q)
    have hp : 64 ≤ q.setAside.freeCells pool := by
      simp only [Queue.tailGuarded, Bool.and_eq_true, decide_eq_true_eq] at hg
      simp only [Queue.freeCells]; omega
    rw [one _ _ (ha.2 (by omega)), ha.1]; omega
  · simp only [hg, Bool.false_eq_true, ↓reduceIte]
    by_cases ht : q.tailFree = 0
    · have ha := freeCells_takeSeg guard pool ht
      simp only [ht, ↓reduceIte]
      rw [one _ _ (ha.2 h), ha.1]; omega
    · simp only [ht, ↓reduceIte]
      rw [one _ _ (by omega)]; omega

end Sys2Proof.Machine
end

