-- ==== Sys2Proof/WellFormed.lean ====
section
/-! DEFINITION. Which commands the environment can send: the ranges the spec gives their operands (log 5). A command outside
them is no event of this device; the machine's meanings are total all the same. -/

namespace Sys2Proof

/-- At most nine data bits are sampled before a character is cut short, and bits not yet sampled are zero (R87, R98). -/
def Mid.wf : Mid → Bool
  | .char v n => decide (n ≤ 9) && decide (v.toNat < 2 ^ n)
  | _ => true

/-- Sixteen conversions in steps of 1/1,000 (R361). -/
def PinReading.wf (r : PinReading) : Bool := decide (r.sum ≤ 16000) && decide (r.spread ≤ 1000)

/-- At least one pair trained, the lane map sends logical lanes to different trained pairs (R222, R223), and a probe takes
no less than its turnaround (R227). -/
def Trained.wf (t : Trained) : Bool :=
  let lanes := (List.finRange 4).map (fun k => (t.laneMap.extractLsb' (2 * k.val) 2).toNat)
  let used := lanes.take (Machine.popcount t.pairUp)
  t.pairUp != 0 && used.all (fun k => t.pairUp.getLsbD k) && decide used.Nodup &&
    decide (8 * t.turnaround.toNat ≤ t.roundTrip.toNat)

/-- The header fields of a data block within their widths, and a payload of at most 512 bytes (Tables 8.6 and 8.7). -/
def DataBlk.wf (b : DataBlk) : Bool :=
  decide (b.items < 1024) && decide (b.len ≤ 512) && decide (b.stride < 256) && decide (b.rounds < 256) &&
    decide (b.escs.length ≤ 32) && decide (b.payload.length ≤ 512)

/-- A command within the ranges of its operands. -/
def Instr.wf : Instr → Bool
  | .strapResistorSampling pins => pins.svcTim.wf && pins.psel.all PinReading.wf
  | .portLaneFailure _ m | .shortDetected _ _ m | .shortToGround _ _ m | .foreignVoltage _ _ m | .contention _ m
  | .openWire _ _ m | .undriven _ m => m.wf
  | .fallbackExit a | .transmitStart a | .flowCodeSend a => a.mid.wf
  | .thermalCritical _ ms | .tieLineStart ⟨_, ms⟩ | .portOff _ _ ms | .portRetain _ _ ms | .portReady _ _ ms =>
    decide (ms.length ≤ 16) && ms.all Mid.wf
  | .write _ _ _ _ ws ms => decide (ws.length ≤ 128) && ms.all Mid.wf
  | .linkUp t _ _ _ | .retrainEnd t | .sleepExitEnd t _ => t.wf
  | .hostDataBlock b => b.wf
  | .characterReceived _ c => decide (c.samples.length ≤ 12)
  | .breakEnd _ len => decide (0 < len)
  | .qwrite _ _ _ _ ws => decide (ws.length ≤ 64)
  | .rxCredit mask limits => decide (limits.length = Machine.popcount mask)
  | .reclaimEnd r bad => bad.all (fun x => x.1.val / 4 == r.val)
  | .imgPageWriteEnd bs => decide (bs.length ≤ 64)
  | _ => true

end Sys2Proof
end

