-- ==== Sys2Proof/Tests/Slice0.lean ====
section
/-! SUPPORT. Tests of the model: operands that WellFormed refuses, values taken from the spec's own worked examples and
tables, and for every obligation with hypotheses the states and operands that meet them. -/

namespace Sys2Proof.Tests

open Sys2Proof Sys2Proof.Machine

set_option Elab.async false

/-! ### Small states -/

/-- A port in Run: eight data bits, full duplex, 1 Mbaud at entry 0, 128 segments of its own each way. -/
def port0 : Port :=
  { st := .run, commanded := .run, cfg := ((Vector.replicate 24 0).set 0 4).set 2 3200, resvRx := 128, resvTx := 128,
    rxq := { freeOwn := 128 }, txq := { freeOwn := 128 }, rxLimit := 5000, rxLimitGiven := true }

/-- A port whose queues' second copies agree with them (R211, R212). -/
def synced (x : Port) : Port := (x.renewQueue .rx x.rxq).renewQueue .tx x.txq

/-- A released device with every port present and in Run, the link up, the service logic running, in bench mode. -/
def live : State :=
  { State.reset with
    boot := { State.reset.boot with
      stage := .released, regulated := true, fuseShadow := State.reset.boot.fuseArray
      straps := { bench := true, install := true, devidx := 2 } }
    pw := { inputOn := true, inRange := true }
    dev := { cmdWidth := 4, idxWritten := true, idx := 2 }
    tr := { link := .up, width := 4, alive := 15, trained := 15, freshDue := false }
    svc := { running := true }
    ports := Vector.replicate 16 (synced port0)
    regions := Vector.replicate 4 { pool := 1000, poolMin := 1000 } }

/-- `live` with every port changed. -/
def liveWith (f : Port → Port) : State := { live with ports := Vector.replicate 16 (synced (f port0)) }
/-- `live` with every line changed. -/
def liveLine (l : LineSt) : State := liveWith (fun x => { x with line := l })
/-- `live` with another trunk. -/
def liveTr (f : Trunk → Trunk) : State := { live with tr := f live.tr }
/-- `live` with another service port. -/
def liveSvc (v : Svc) : State := { live with svc := v }
/-- The unpowered device at a stage of start-up, powered. -/
def booting (g : Stage) : State :=
  { State.reset with boot := { State.reset.boot with stage := g, regulated := true }, pw := { inputOn := true } }

/-- A request of processor 1, secure. -/
def rq : Req := { tag := 7, sec := true, proc := 1 }
/-- The same request from a non-secure origin. -/
def rqN : Req := { tag := 7, sec := false, proc := 1 }
/-- A character as an item. -/
def ch : Item := { cell := 0x41, ext := none }
/-- A queue that holds one character, settled. -/
def oneItem : Queue :=
  { freeOwn := 127, segs := [{ reserved := true }], tailUsed := 1, headRead := 1, bulkIn := 1,
    chain := [{ item := ch, start := true }] }
/-- Every port's queues hold one character. -/
def loaded : State := liveWith (fun x => { x with rxq := oneItem, txq := oneItem })

/-- The next state, or the state itself. -/
def after (i : Instr) (s : State) : State :=
  match exec i s with
  | .next t => t
  | _ => s

/-! ### WellFormed refuses what the environment cannot send -/

/-- A pin's conversions as ratio 8,000/16,000. -/
def pin : PinReading := { sum := 8000, spread := 1 }
/-- All pins alike. -/
def pins (r v : PinReading) : StrapPins :=
  { install := 0xFF, bench := 0x1FF, devidx0 := 0, devidx1 := 0xFFFF, trkHalf := 0, svcAdr := { adr0 := 0xFFFF, adr1 := 0, adr2 := 1 },
    psel := Vector.replicate 16 r, svcTim := v }
/-- Four pairs that trained in order. -/
def tn : Trained := { pairUp := 15, pairInv := 0, laneMap := 0xE4, lanes := Vector.replicate 4 0, roundTrip := 216, turnaround := 2 }
/-- A data block of two characters for port 5. -/
def db : DataBlk :=
  { ilv := false, pack := 1, urgent := false, port := 5, items := 2, len := 2, mask := 0, stride := 0, rounds := 0, escs := [],
    payload := [65, 66] }

theorem test_wf_good :
    Instr.wf (.strapResistorSampling (pins pin pin)) = true ∧ Instr.wf (.linkUp tn false 1 80) = true ∧
    Instr.wf (.hostDataBlock db) = true ∧ Instr.wf (.contention 3 (.char 511 9)) = true ∧
    Instr.wf (.rxCredit 0x8001 [1, 2]) = true ∧ Instr.wf (.qwrite rq false 0 true [1]) = true ∧
    Instr.wf (.breakEnd 0 1) = true ∧ Instr.wf (.reclaimEnd 1 [(7, .rx)]) = true ∧ Instr.wf .tick = true := by decide +kernel

theorem test_wf_mid :
    Instr.wf (.transmitStart ⟨0, .char 0 10⟩) = false ∧ Instr.wf (.flowCodeSend ⟨0, .char 8 3⟩) = false ∧
    Instr.wf (.fallbackExit ⟨0, .char 0 10⟩) = false ∧ Instr.wf (.tieLineStart ⟨0, [.char 0 10]⟩) = false ∧
    Instr.wf (.contention 3 (.char 0 10)) = false ∧ Instr.wf (.openWire 3 .a (.char 8 3)) = false ∧
    Instr.wf (.portOff rq 1 [.char 0 10]) = false ∧ Instr.wf (.thermalCritical ⟨0, 135⟩ (List.replicate 17 .idle)) = false ∧
    Instr.wf (.write rq 2 0 0 (List.replicate 129 0) []) = false ∧ Instr.wf (.write rq 2 0 0 [0] [.char 4 2]) = false := by
  decide +kernel

theorem test_wf_pins :
    Instr.wf (.strapResistorSampling (pins { sum := 16001, spread := 0 } pin)) = false ∧
    Instr.wf (.strapResistorSampling (pins pin { sum := 0, spread := 1001 })) = false := by decide +kernel

theorem test_wf_trained :
    Instr.wf (.linkUp { tn with pairUp := 0 } false 3 0) = false ∧
    Instr.wf (.retrainEnd { tn with pairUp := 7 }) = true ∧
    Instr.wf (.retrainEnd { tn with pairUp := 14 }) = false ∧
    Instr.wf (.sleepExitEnd { tn with laneMap := 0 } { sources := [], proc := false }) = false := by decide +kernel

theorem test_wf_block :
    Instr.wf (.hostDataBlock { db with items := 1024 }) = false ∧ Instr.wf (.hostDataBlock { db with len := 513 }) = false ∧
    Instr.wf (.hostDataBlock { db with stride := 256 }) = false ∧ Instr.wf (.hostDataBlock { db with rounds := 256 }) = false ∧
    Instr.wf (.hostDataBlock { db with escs := List.replicate 33 { two := false, slot := 0 } }) = false ∧
    Instr.wf (.hostDataBlock { db with payload := List.replicate 513 0 }) = false := by decide +kernel

theorem test_wf_lengths :
    Instr.wf (.breakEnd 0 0) = false ∧
    Instr.wf (.characterReceived 0 { samples := List.replicate 13 0 }) = false ∧ Instr.wf (.qwrite rq false 0 false (List.replicate 65 0)) = false ∧
    Instr.wf (.rxCredit 3 [1]) = false ∧ Instr.wf (.reclaimEnd 0 [(7, .rx)]) = false ∧
    Instr.wf (.imgPageWriteEnd (List.replicate 65 0)) = false := by decide +kernel

/-! ### Values from the spec -/

/-- No row of the table gives bits. -/
theorem test_decode_none : decodeTableWord 0 0 = none ∧ decodeTableWord 32 0xFFFFFFFF = none := by decide

/-- The check value of the CRC-32 of IEEE 802.3 over "123456789" (R379 names that polynomial, order and inversion). -/
theorem test_crc32_check : crc32 [0x31, 0x32, 0x33, 0x34, 0x35, 0x36, 0x37, 0x38, 0x39] = 0xCBF43926#32 := by decide +kernel

/-- The check value of the CRC-16 of R233, and the check byte of PEC (R404), over the same nine bytes. -/
theorem test_crc16_crc8_check :
    crc16 [0x31, 0x32, 0x33, 0x34, 0x35, 0x36, 0x37, 0x38, 0x39] = 0x29B1#16 ∧
    pec [0x31, 0x32, 0x33, 0x34, 0x35, 0x36, 0x37, 0x38, 0x39] = 0xF4#8 := by decide +kernel

/-- The fuse word of 17's worked example: OPG-LU8, 0xD400_3333 has good parity and a matching mask; one bit off has not. -/
theorem test_fuse_word : fuseWordOk 0 0xD4003333#32 = true ∧ fuseWordOk 0 0xD4003332#32 = false := by decide +kernel

/-- A device of variant 10 (OPG-LU8) with both dies at issue 1, as in 17's worked example. -/
def lu8 : State :=
  { live with boot := { live.boot with straps := { devidx := 2 }, lineIssue := 1,
                                       fuseShadow := live.boot.fuseShadow.set 0 0xD4003333#32 } }
/-- A READ of the worked example. -/
def lu8Read (size : BitVec 2) (m : BitVec 6) (a : BitVec 16) : List Stored :=
  (after (.read { tag := 1, sec := false, proc := 0 } size m a) lu8).tr.stored
/-- The words of the completion built last. -/
def lastCpl (bs : List Stored) : List Word :=
  match bs with
  | [b] => (match b.body with
    | .ctl _ _ ws => ws
    | _ => [])
  | _ => []

/-- Steps 1, 2, 3, 4 and 9 of Table 17.18. -/
theorem test_worked_reads :
    lastCpl (lu8Read 2 2 0) = [0, 0x11024C16, 0x000A3333, 1] ∧ lastCpl (lu8Read 2 3 0) = [0x10040000] ∧
    lastCpl (lu8Read 1 0 4) = [0, 0x3333] ∧ lastCpl (lu8Read 2 0 0x1200) = [0, 0] ∧ lastCpl (lu8Read 2 0 0x100) = [0, 0] := by
  decide +kernel

/-- Steps 7 and 8 of Table 17.18: PACER_CFG is not status class, and a production device ignores its write. -/
theorem test_worked_writes :
    lastCpl (after (.write { tag := 1, sec := false, proc := 0 } 1 0 0x1570 [0] []) lu8).tr.stored = [0x10010000] ∧
    lastCpl (after (.registerWrite { tag := 1, sec := false, proc := 0 } 2 0x1570 0x01900064) lu8).tr.stored = [0x40010000] ∧
    (after (.registerWrite { tag := 1, sec := false, proc := 0 } 2 0x1570 0x01900064) lu8).host.errRecord = 0x1570 := by
  decide +kernel

/-- R413's example: 32 bytes at 0x0738 are refused, 8 bytes there are not. -/
theorem test_img_data_example :
    (let s := liveSvc { running := true, session := true }
     (after (.imgData { bytes := [0x38, 0x07, 32] ++ List.replicate 33 0, stop := true }) s).svc.events = oneBit 11 4 ∧
     (after (.imgData { bytes := [0x38, 0x07, 8] ++ List.replicate 8 0 ++
       [pec ([s.svcAddr, 0x80, 0x38, 0x07, 8] ++ List.replicate 8 0)], stop := true }) s).svc.busy =
       .page 0x0738 (List.replicate 8 0)) := by decide +kernel

/-- Table 13.4: the edges of level 1's window (0.0467 to 0.0867) and the gap below it. -/
theorem test_resistor_edges :
    windowLevel { sum := 748, spread := 10 } = some 1 ∧ windowLevel { sum := 1386, spread := 0 } = some 1 ∧
    windowLevel { sum := 400, spread := 0 } = none ∧ windowLevel { sum := 320, spread := 0 } = some 0 ∧
    windowLevel { sum := 748, spread := 11 } = none := by decide +kernel

/-- The samples of the character 0x41 with eight data bits, sent least significant bit first between a start and a stop
bit, and of a character whose bits are all 0. -/
def char41 : RxChar := { samples := [0, 0xFFFF, 0, 0, 0, 0, 0, 0xFFFF, 0, 0xFFFF] }
/-- Ten bits at space. -/
def char00 : RxChar := { samples := List.replicate 10 0 }

/-- A character received in an 8N1 port enters its queue as decided; a framing error carries its condition (R103, R107). -/
theorem test_character_enters :
    ((after (.characterReceived 0 char41) live).port 0).rxq.bulkItems = [{ cell := 0x41, ext := none }] ∧
    ((after (.characterReceived 0 char00) live).port 0).rx.phase = .inBreak ∧
    conditionOf 0 65 { data := 65, parity := false, stop := false, noise := true } = 2 := by decide +kernel

/-- Samples 7 to 9 decide a bit (R100): two of three at mark read 1 with noise, and an offset of 2 moves them to 9 to 11. -/
theorem test_majority :
    majority 0 0x0180 = true ∧ unequal 0 0x0180 = true ∧ majority 0 0x0200 = false ∧ majority 2 0x0600 = true ∧
    majority 2 0x0380 = false ∧ unequal 0 0x0380 = false := by decide +kernel

/-- 0x41 with eight data bits, odd parity and two stop bits on the line: start, 1000 0010, parity 1, two bits of mark
(R104). -/
theorem test_on_line :
    ({ port0 with cfg := port0.cfg.set 0 0xA4, tx := { now := .char 0x41 } } : Port).onLine =
      [false, true, false, false, false, false, false, true, false, true, true, true] := by decide +kernel

/-- Table 8.3: TS2 of lane 3 from a halted device that offers no rate, and PROBE 5; a two-byte block on two lanes (R231). -/
theorem test_symbols :
    (OrderedSet.ts2 3 { fullRate := false, fresh := false, halfAttempt := false, halted := true } 9 4).symbols.take 7 =
      [.k 0xBC, .k 0x3C, .d 3, .d 8, .d 9, .d 4, .d 0x4A] ∧
    (OrderedSet.probe 5).symbols = [.k 0xBC, .k 0x9C, .d 5, .d 0] ∧
    laneSyms 2 0 (frameSyms 2 [0x11, 0x22]) = [.k 0xFB, .d 0x22] ∧
    laneSyms 2 1 (frameSyms 2 [0x11, 0x22]) = [.d 0x11, .k 0xFD] ∧
    laneSyms 4 3 (frameSyms 4 [0x11]) = [.k 0xF7] := by decide +kernel

/-- A NAK of 0x123 is WORD0 0x81000123 (Table 8.8), and reads back as it. -/
theorem test_link_block :
    (LinkBlk.nak 0x123).word0 = some 0x81000123#32 ∧ (LinkBlk.nak 0x123).bytes.take 4 = [0x23, 0x01, 0x00, 0x81] ∧
    linkBlkOf 0x81000123#32 = .nak 0x123 ∧ linkBlkOf 0x82000123#32 = .none := by decide +kernel

/-- A lane failure outranks a short in one pair (Table 3.6), and a loop of 14 ohms on the transmit pair estimates 0 m
(R71). -/
theorem test_line_rank :
    ({ lane := true, short := true } : PairSt).cond = 8 ∧
    lengthOf false { foreign := false, ground := false, drive := .undriven, loopHalfOhm := 28, biasNeg := false,
                     biasWeak := false } = 0 := by decide +kernel

/-- A strap whose sixteen readings are split evenly reads as not asserted, nine of sixteen read asserted (R360). -/
theorem test_strap_majority :
    (let b := (after (.strapResistorSampling (pins pin pin)) (booting .sampling)).boot.straps
     b.install = false ∧ b.bench = true ∧ b.devidx = 2 ∧ b.svcAdr = 1) := by decide +kernel

/-- A break of fifteen bit times is written as a mark of its length, and a stuck line sets LINE_EVENTS 0x10 (R110, R112). -/
theorem test_break :
    (let s := liveWith (fun x => { x with rx := { x.rx with phase := .inBreak } })
     (((after (.breakEnd 0 15) s).port 0).rxq.chain.map (fun e => e.item.ext)) = [some 15] ∧
     ((after (.stuckLow 0) s).port 0).rx.phase = .stuck) := by decide +kernel

/-- A refused code without its STOP: the bus is ignored until STOP, and both lines high do not end it; no passive state
follows without a timeout (R401, R424, R425). -/
theorem test_refused_until_stop :
    (let a := after (.imgClose { bytes := [], stop := false }) live
     a.svc.events = 0x10 ∧ a.svcOpen = false ∧ (after .svcPassiveEnd a).svcOpen = false ∧
       (after .svcPassive a).svc.passive = false ∧ (after (.svcStartStop true false) a).svcOpen = true) := by decide +kernel

/-- R446: at release CODE_ERRS is 0, whatever the training counted. -/
theorem test_release_clears_code_errs :
    (let s : State := { booting .training with tr := { link := .training } }
     let t := after (.linkUp { tn with lanes := Vector.replicate 4 0x00010007 } false 1 80) s
     t.boot.stage = .released ∧ t.tr.lanes[(0 : Fin 4)] = 0x00010000) := by decide +kernel

/-- Halted, every trained pair is in use at LINK_UP, and carries K28.5, D21.5 (R356). -/
theorem test_halted_link :
    (let s : State := { booting .halted with tr := { link := .training } }
     (after (.linkUp tn false 0 0) s).tr.width = 4) := by decide +kernel

/-- A transfer whose address was acknowledged counts when the bus is held low in it, and once (R424, Table 15.8). -/
theorem test_bus_timeout_counts :
    (let a := after .svcBusTimeout (after .svcAddressMatch live)
     a.svc.transactions = 1 ∧ a.svc.ignoring = true ∧ (after (.svcStartStop true false) a).svc.transactions = 1) := by
  decide +kernel

/-- The transmitter takes the queue's character and drives it (R104). -/
theorem test_transmit : ((after (.transmitStart ⟨0, .idle⟩) loaded).port 0).tx.now = .char 0x41 := by decide +kernel

/-- `n` cells written with a guard of 16. -/
def written (n : Nat) (x : Queue × Nat) : Queue × Nat := (List.range n).foldl (fun y _ => y.1.writeCell 16 y.2) x

/-- One reserved segment: its 48 cells outside the guard, then the pool's segment, then the guard's 16 (R162, R15, R187);
a tail that has been read up to its guard goes back whole and is written again. -/
theorem test_guard_is_last :
    let q : Queue := { freeOwn := 1 }
    ((written 48 (q, 1)).1.room 16 1 = 64 ∧ (written 48 (q, 1)).2 = 1 ∧ (written 49 (q, 1)).2 = 0 ∧
      (written 49 (q, 1)).1.spare = 16) ∧
    ((written 112 (q, 1)).1.room 16 0 = 0 ∧ (written 112 (q, 1)).1.freeCells 0 = 16) ∧
    ((written 128 (q, 1)).1.freeCells 0 = 0 ∧ (written 128 (q, 1)).1.held = 2) ∧
    (let r := (List.range 48).foldl (fun y _ => y.1.readCell y.2) (written 48 (q, 1))
     ((r.1.writeCell 16 r.2).2 = 1 ∧ (r.1.writeCell 16 r.2).1.tailUsed = 1)) := by decide +kernel

/-- POP takes the character with VALID, and the packet's start (Table 7.5). -/
theorem test_pop :
    lastCpl (after (.pop rq 0 .rx) loaded).tr.stored = [0x0A000000#32, 0xA0000041#32] ∧
    ((after (.pop rq 0 .rx) loaded).queue 0 .rx).items = 0 := by decide +kernel

/-- A claim of a pending source answers COUNT and the number, and of an idle one 1023 (R314). -/
theorem test_claim :
    (let s := { live with att := { live.att with srcs := live.att.srcs.set 40 { pend := true, targets := 2, count := 5 } } }
     lastCpl (after (.claim rq 40) s).tr.stored = [0x0A000000#32, 0x00500028#32] ∧
     lastCpl (after (.claim rq 41) s).tr.stored = [0x0A000000#32, 0x3FF#32]) := by decide +kernel

/-- Start-up from reset to Kiln and Slip on a blank flash: no image, built-in defaults (Tables 13.1 and 13.5). -/
theorem test_start_up :
    (let a := after .convertersInRegulation (after (.powerUp 200 true) State.reset)
     let b := after .slip (after (.strapResistorSampling (pins pin pin)) (after (.kilnAttempt [] ⟨3, { adr0 := 0, adr1 := 0, adr2 := 0 }⟩) a))
     a.boot.stage = .kiln ∧ b.boot.stage = .training ∧ b.boot.slipResult = 1 ∧ b.boot.defaults = true ∧
       b.svc.running = true) := by decide +kernel

/-! ### Witnesses: states and operands that meet the hypotheses of the obligations -/

/-- Every command answers a next state (the hypotheses `exec i s = .next t` and `step s = .next t`). -/
theorem witness_next : (∃ t, exec .tick live = .next t) ∧ (∃ t, step live = .next t) ∧
    (∃ t, exec (.phantomUndervoltage 131) live = .next t) ∧ (∃ t, exec (.lockBlowEnd 3) live = .next t) :=
  ⟨⟨_, rfl⟩, ⟨_, rfl⟩, ⟨_, rfl⟩, ⟨_, rfl⟩⟩

theorem witness_StepRunsFrontCommand :
    ({ live with pending := [.tick, .slip] } : State).pending = .tick :: [.slip] ∧ live.pending = [] := by decide

theorem witness_StepKeepsInvariant : live.Inv ∧ (liveSvc { noteWait := true, noteRetries := 2 }).Inv :=
  ⟨⟨by decide, by decide, by decide, by decide⟩, ⟨by decide, by decide, by decide, by decide⟩⟩

theorem witness_frames :
    writesFlash .tick = false ∧ blowsFuse .tick = false ∧ loadsImage .tick = false ∧ latchesStraps .slip = false ∧
    lineCmdPort (.txRateStep 15) = some 15 := by decide

theorem witness_ServiceCommandsAnswer : live.svcOpen = true ∧ live.serving = true ∧ live.dev.st = .awake ∧
    (liveSvc { running := true, regAddr := 0x3010 }).regDataReg.isSome = true := by decide +kernel

/-- `live` with PEC_REQUIRED. -/
def livePec : State := { live with boot := { live.boot with imgDevice := 0x200 } }

theorem witness_ServiceWriteRules :
    (live.svcOpen = true ∧ live.serving = true ∧ live.pecRequired = false) ∧
    (livePec.svcOpen = true ∧ livePec.serving = true ∧ livePec.pecRequired = true) ∧
    ([1, 2, pec ([live.svcAddr, 0x10] ++ [1, 2])] : List Byte).length = 3 ∧ 3 < ([1, 2, 3, 4] : List Byte).length ∧
    ([1] : List Byte).length < 2 ∧ ([1, 2, 3] : List Byte).getD 2 0 ≠ pec ([live.svcAddr, 0x10] ++ [1, 2]) := by decide +kernel

/-- A service port in a session. -/
def session : State := liveSvc { running := true, session := true }

theorem witness_ServiceCommandsAnswer_window :
    (live.svcOpen = true ∧ live.svc.busy = .none ∧ live.windowAllowed = true) ∧
    (liveSvc { running := true, addressed := true }).svcOpen = true ∧
    (session.svcOpen = true ∧ session.svc.busy = .none ∧ session.svc.session = true) ∧
    (0 < (List.replicate 64 (1 : Byte)).length ∧ (List.replicate 64 (1 : Byte)).length ≤ 64 ∧
      (BitVec.ofNat 16 (leNat [0, 0]) : BitVec 16).toNat % 64 + (List.replicate 64 (1 : Byte)).length ≤ 64) ∧
    (BitVec.ofNat 16 (leNat [63, 0]) : BitVec 16).toNat % 64 + ([9] : List Byte).length ≤ 64 := by decide +kernel

theorem witness_ServiceRefusals :
    (let s := liveSvc { running := true, busy := .lock }
     s.svcOpen = true ∧ s.svc.busy ≠ .none ∧ s.windowAllowed = true ∧ s.svc.session = false) ∧
    (live.svcOpen = true ∧ live.windowAllowed = true ∧ live.svc.session = false) ∧
    (let s := { live with boot := { live.boot with straps := {} } }
     s.svcOpen = true ∧ s.windowAllowed = false ∧ s.svc.session = false) ∧
    (64 < (65#8).toNat ∧ (65#8 : Byte) ≠ 0) ∧ 64 < leNat [63, 0] % 64 + (2#8).toNat ∧ live.codeClass 0x07 = false ∧
    session.svc.session = true := by decide +kernel

theorem witness_FlashOperationsEnd :
    (let s : State := { liveSvc { running := true, busy := .page 0xFFFE [1, 2] } with flash := [(3, 7)] }
     Memory.wf s.flash = true ∧ s.svc.busy = .page 0xFFFE [1, 2] ∧ ([1, 2] : List Byte).length = ([1, 2] : List Byte).length ∧
       (0xFFFE#16).toNat + ([1, 2] : List Byte).length ≤ 65536 ∧ s.dev.deepWait = false ∧
       ({ s with dev := { s.dev with deepWait := true } } : State).dev.deepWait = true) ∧
    (let s : State := { liveSvc { running := true, busy := .erase 0xFFFF } with flash := [(3, 7)] }
     Memory.wf s.flash = true ∧ s.svc.busy = .erase 0xFFFF ∧ s.dev.deepWait = false) := by decide +kernel

theorem witness_LockBlowEnds :
    (let s := liveSvc { running := true, session := true, busy := .lock }
     s.svc.busy = .lock ∧ s.dev.deepWait = false ∧ lockBlown (s.boot.fuseArray[3] ||| (3#3).setWidth 32) = true ∧
       lockBlown (s.boot.fuseArray[3] ||| (4#3).setWidth 32) = false) := by decide +kernel

theorem witness_ServiceBusRuns :
    (let s := liveSvc {}
     s.pw.inputOn = true ∧ s.boot.regulated = true ∧ s.svc.running = false ∧ s.svc.passive = false ∧ s.svc.starting = .none) ∧
    (let s := liveSvc { starting := .nak }
     s.svc.starting ≠ .none ∧ s.boot.stage ≠ .kiln ∧ s.boot.stage ≠ .sampling) ∧
    (let s : State := { live with dev := { live.dev with st := .deep } }
     s.dev.st = .deep ∧ s.svc.running = true) ∧
    (live.pw.inputOn = true ∧ live.boot.regulated = true ∧ live.svc.running = true ∧ live.svc.passive = false) ∧
    (let s := liveSvc { running := true, ignoring := true }
     s.svc.ignoring = true ∧ s.svc.passive = false) ∧
    (liveSvc { running := true, passive := true }).svc.passive = true := by decide +kernel

theorem witness_NoticesAreSent :
    (let s := liveSvc { running := true, noteDue := true }
     s.mayStartNotice = true ∧ s.svc.noteDue = true ∧ s.svc.noteWait = false) ∧
    (let s := liveSvc { running := true, noteSending := true, noteRetries := 2 }
     s.svc.noteSending = true ∧ s.svc.noteRetries < 3) ∧
    (let s := liveSvc { running := true, noteWait := true }
     s.mayStartNotice = true ∧ s.svc.noteWait = true) ∧
    (let s := liveSvc { running := true, noteSending := true, noteRetries := 3 }
     s.svc.noteSending = true ∧ 3 ≤ s.svc.noteRetries) := by decide +kernel

theorem witness_PowerUpStarts :
    (State.reset.pw.inputOn = false ∧ State.reset.pw.overOff = false ∧ 36 * 4 < (145#8).toNat) ∧
    (let s : State := { State.reset with pw := { overOff := true } }
     s.pw.inputOn = false ∧ s.pw.overOff = true ∧ 37 * 4 ≤ (148#8).toNat ∧ (228#8).toNat ≤ 57 * 4) ∧
    (booting .powerUp).pw.inputOn = true ∧ (booting .powerUp).boot.stage = .powerUp := by decide

/-- A device in Kiln with so many failed attempts. -/
def kiln (n : Nat) : State :=
  { booting .kiln with boot := { (booting .kiln).boot with attempts := n } }

theorem witness_KilnAttempts :
    ((kiln 0).pw.inputOn = true ∧ (kiln 0).boot.stage = .kiln ∧ ∀ w : Fin 32, fuseWordOk w ((kiln 0).kilnReads [])[w] = true) ∧
    (fuseWordOk 5 ((kiln 2).kilnReads [(5, 1)])[(5 : Fin 32)] = false ∧
      (∀ u : Fin 32, u < 5 → fuseWordOk u ((kiln 2).kilnReads [(5, 1)])[u] = true) ∧ (kiln 2).boot.attempts < 3) ∧
    ((kiln 3).boot.regulated = true ∧ (kiln 3).svc.busy = .none ∧ 3 ≤ (kiln 3).boot.attempts ∧
      fuseWordOk 5 ((kiln 3).kilnReads [(5, 1)])[(5 : Fin 32)] = false) := by decide +kernel

theorem witness_SamplingLatches :
    (booting .sampling).pw.inputOn = true ∧ (booting .sampling).boot.stage = .sampling ∧
    windowLevel (pins pin { sum := 320, spread := 10 }).svcTim = some 0 ∧
    windowLevel (pins { sum := 15680, spread := 10 } pin).psel[(3 : PortId)] = some 15 := by decide +kernel

/-- A flash whose header names an image of 1,596 bytes, four too few. -/
def shortImage : List Host.Cell := [(0, 0x4C), (1, 0x55), (2, 0x4C), (3, 0x4F), (6, 0x3C), (7, 0x06)]

theorem witness_SlipLoadsShadow :
    ((booting .slip).pw.inputOn = true ∧ (booting .slip).boot.stage = .slip ∧
      slipOutcome (booting .slip).presentMask (booting .slip).flash = 1#2) ∧
    slipOutcome 0xFFFF shortImage = 2#2 := by decide +kernel

/-- A device in training at start-up. -/
def training : State := { booting .training with tr := { link := .training } }
/-- A released device whose ports wait for the end of the release. -/
def releasing : State :=
  liveWith (fun x => { x with st := .off, trans := some { target := .ready, source := .off, byCmd := false, supply := false,
                                                           checked := true } })

theorem witness_LinkUpReleases :
    (training.pw.inputOn = true ∧ training.boot.stage = .training ∧ training.tr.link = .training ∧ training.dev.st = .awake ∧
      training.dev.toSleep = false ∧ training.dev.exiting = false ∧ tn.pairUp ≠ 0) ∧
    (releasing.serving = true ∧ releasing.present 0 = true ∧ (releasing.port 0).releasing = true ∧
      ∀ p : PortId, (releasing.port p).trans.map (fun t => (t.checked, t.target)) = some (true, .ready)) ∧
    ((releasing.port 3).st = .off ∧ (releasing.port 3).lightTrain = false ∧ (releasing.port 3).line.a.prot = false ∧
      (releasing.port 3).frozen = false ∧ (releasing.port 3).line.b.prot = false ∧ (releasing.port 3).line.txRole (releasing.port 3).multidrop = .a ∧
      ((releasing.port 3).line.pair .a).cond = 0#4) := by decide +kernel

/-- Table 3.13, steps 9 and 10: with every check done the transmit-role pair drives, and LOADED reads 1 after it. -/
theorem test_release_calibration :
    releasing.driverOn 3 .a = true ∧ releasing.driverOn 3 .b = false ∧
    ((after .releaseLoadCalibration releasing).port 3).line.loaded = true ∧
    (after .releaseLoadCalibration releasing).driverOn 3 .a = false := by decide +kernel

/-- R80, R81: a short found in the release's calibration ends the drive and counts a trip; one that clears under a retry
leaves the transmit-role driver on at mark (Table 3.15). -/
theorem test_shorts :
    (let t := after (.shortDetected 3 .a .idle) releasing
     (t.port 3).line.a.cond = 3 ∧ (t.port 3).line.trips = 1 ∧ t.driverOn 3 .a = false) ∧
    (after (.shortCleared 0 .a) (liveLine { a := { short := true, retry := true } })).driverOn 0 .a = true ∧
    (after (.shortCleared 0 .b) (liveLine { b := { short := true, retry := true } })).driverOn 0 .b = false := by decide +kernel

/-- R412 to R414: Page Program at 0x000738 and its commands; Read Data at 0x000100 on IMG_MOSI at the rising edges. -/
theorem test_flash_commands :
    (SvcBusy.page 0x0738 [0xA5]).flashCmds.map FlashCmd.sent = [[6], [2, 0, 7, 0x38, 0xA5], [5], [3, 0, 7, 0x38]] ∧
    ((FlashCmd.readData 0x100 1).levels.filter (fun x => x.1)).map (fun x => x.2) =
      ([false, false, false, false, false, false, true, true] ++ List.replicate 15 false ++ [true] ++ List.replicate 8 false).map
        some ++ List.replicate 8 none ∧
    (FlashCmd.readData 0x100 1).sampled [(0x100, 0xA5)] 0 = [true, false, true, false, false, true, false, true] ∧
    FlashCmd.readStatus.sampled [] 0x03 = [false, false, false, false, false, false, true, true] := by decide

/-- R367: with a flash that holds no image, Slip's one Read Data at address 0 takes the header alone. -/
theorem test_slip_read : live.slipReadCmd = .readData 0 16 := by decide +kernel

theorem witness_PowerLossLosesAll :
    live.pw.inputOn = true ∧ live.svc.busy = .none ∧ (131#8).toNat < 33 * 4 ∧ 60 * 4 < (241#8).toNat := by decide

theorem witness_PowerEventsSet : live.pw.inputOn = true ∧ live.boot.regulated = true := by decide

theorem witness_ThermalSensorsAct :
    (115 ≤ (115#8).toNat ∧ (114#8).toNat < 115 ∧ (104#8).toNat < 105 ∧ 105 ≤ (105#8).toNat ∧ 135 ≤ (135#8).toNat ∧
      (124#8).toNat < 125) ∧
    (live.boot.regulated = true ∧ live.serving = true ∧ live.pw.warn.getLsbD (6 : Fin 7).val = false ∧
      live.pw.crit.getLsbD (6 : Fin 7).val = false) ∧
    (let s : State := { live with pw := { live.pw with crit := 0x40, warn := 0x40 } }
     s.serving = true ∧ s.pw.crit.getLsbD (6 : Fin 7).val = true) := by decide +kernel

theorem witness_ParityScanActs_words :
    ∀ x ∈ ([(0x2118, .resv 5 .rx), (0x0484, .frameTable 1), (0x3010, .trkCfg), (0x040C, .imgDevice), (0x0214, .benchPsel 5)] :
      List (BitVec 16 × Reg)), regAt x.1.toNat = some x.2 ∧ live.isCfg x.2 = true ∧ live.boot.cfgBad.contains x.1 = false ∧
      popcount (1#32 &&& heldMask x.2) % 2 = 1 ∧ live.parityRecord.getLsbD 31 = false := by decide +kernel

theorem witness_ParityScanActs :
    (live.serving = true ∧ live.boot.cfgBad = []) ∧
    (regAt (0x1000#16).toNat = some (.port 0 (.cfg 0)) ∨ regAt (0x1578#16).toNat = some (.port 5 (.cfg 1)) ∨
      ∃ k : Fin 24, regAt (0x1570#16).toNat = some (.port 5 (.cfg k))) ∧
    (live.present 5 = true ∧ live.boot.cfgBad.contains 0x1570 = false ∧ popcount (1#32) % 2 = 1 ∧
      live.parityRecord.getLsbD 31 = false ∧ live.att.saved = false) ∧
    evenParity (live.boot.fuseShadow[(5 : Fin 32)] ^^^ 1#32) = false ∧
    (([0, 1, 2, 3].map (fun k => live.boot.fuseArray[(5 : Fin 32)] ^^^ ([1, 1, 1] : List Word).getD k 0)).find? (fuseWordOk 5)).isSome
      = true ∧
    ([0, 1, 2, 3].map (fun k => live.boot.fuseArray[(5 : Fin 32)] ^^^ ([1, 1, 1, 1] : List Word).getD k 0)).all
      (fun x => !fuseWordOk 5 x) = true := by decide +kernel

/-- A pair with one cause or mark. -/
def bad : PairSt := { short := true, ground := true, retry := true, foreign := true, opn := true, lane := true }

theorem witness_PairCausesAct :
    (live.lineLive 0 = true ∧ (live.port 0).multidrop = false) ∧
    (let s := liveLine { a := { ground := true } }
     s.lineLive 0 = true ∧ ((s.port 0).line.pair .a).ground = true ∧ (s.port 0).tx.driver = false ∧
       ((s.port 0).line.pair (otherPair .a)).retrying = false ∧ (s.port 0).inRun = true ∧ (s.port 0).frozen = false ∧
       ((s.port 0).line.pair .a).notUsed = false ∧ ((s.port 0).line.pair .a).cond = 5#4) ∧
    (let s := liveLine { a := { ground := true, foreign := true } }
     s.lineLive 0 = true ∧ ((s.port 0).line.pair .a).ground = true ∧ ((s.port 0).line.pair .a).cond = 4#4) ∧
    (let s := liveLine { b := { ground := true, notUsed := true } }
     s.lineLive 0 = true ∧ ((s.port 0).line.pair .b).ground = true ∧ ((s.port 0).line.pair .b).notUsed = true) ∧
    (let s := liveLine { a := bad }
     let q := (s.port 0).line.pair .a
     s.lineLive 0 = true ∧ (s.port 0).line.a.lane = true ∧ (q.short = true ∨ q.ground = true) ∧ q.retry = true ∧
       q.foreign = true ∧ q.opn = true ∧ (s.port 0).inRun = true) ∧
    ((liveLine { a := { short := true, retry := true } }).lineUnitsOn 0 = true ∧
      (match exec (.shortCleared 0 .a) (liveLine { a := { short := true, retry := true } }) with
       | .next t => decide ((t.port 0).line.txRole false = .a ∧ (t.port 0).line.mode = .full ∧ (t.port 0).line.a.cond = 0#4)
       | _ => false) = true) ∧
    (let s := liveWith (fun x => { x with st := .off, trans := some { target := .ready, source := .off, byCmd := true, supply := true,
                                                                      checked := false } })
     s.lineLive 0 = true ∧ (s.port 0).st = .off ∧ (s.port 0).unchecked = true ∧ (live.port 0).unchecked = false) := by decide +kernel

/-- A port in fall-back on pair A. -/
def fallBack : Port := { port0 with line := { mode := .fallback .a } }

theorem witness_LineModeDecision :
    ({ port0 with cfg := port0.cfg.set 0 0x40000004 } : Port).multidrop = true ∧ (fallBack.line.mode = .fallback .a ∧
      fallBack.multidrop = false ∧ (fallBack.line.pair .a).cond = 0) ∧
    port0.multidrop = false ∧ (∀ pr, port0.line.mode ≠ .fallback pr) ∧ live.lineUnitsOn 15 = true ∧
      PairId.a ≠ (live.port 15).line.rxRole ∧ PairId.b = (live.port 15).line.rxRole :=
  ⟨by decide, by decide, by decide, fun pr => by cases pr <;> decide, by decide +kernel, by decide, by decide⟩

/-- A reading of a pair. -/
def sense (d : Drive) : PairSense :=
  { foreign := false, ground := false, drive := d, loopHalfOhm := 240, biasNeg := false, biasWeak := false }

theorem witness_SensesAssign :
    (({} : LineSt).a.carries = true ∧ ({ a := { opn := true }, b := { waits := true } } : LineSt).a.carries = false ∧
      ({ a := { opn := true }, b := { waits := true } } : LineSt).b.carries = false ∧
      ({ a := { prot := true } } : LineSt).a.prot = true) ∧
    ((sense .pos).drive ≠ .undriven ∧ (sense .neg).drive ≠ .undriven ∧ (sense .undriven).drive = .undriven) ∧
    ((liveLine { sensing := true }).lineLive 15 = true ∧ ((liveLine { sensing := true }).port 15).line.sensing = true) ∧
    ((liveLine { checking := true }).serving = true ∧ (liveLine { checking := true }).present 15 = true ∧
      ((liveLine { checking := true }).port 15).line.checking = true) := by decide +kernel

/-- R80: a short found before the line check ends stands beside the roles that it finds; R296: a line check under Protection
drives neither its test current nor PRBS-7. -/
theorem test_found_short :
    (let s := liveWith (fun x => { x with
       st := .off, line := { checking := true }
       trans := some { target := .ready, source := .off, byCmd := true, supply := true, checked := false } })
     let t := after (.lineCheckEnd 0 (sense .undriven) (sense .pos)) (after (.shortDetected 0 .a .idle) s)
     (t.port 0).line.a.cond = 3 ∧ (t.port 0).line.b.cond = 0 ∧ (t.port 0).line.swapped = false ∧
       (t.port 0).line.a.found = {}) ∧
    (let s (prot : Bool) : State := liveLine { checking := true, a := { prot := prot } }
     ((s false).checkPins 0 (sense .undriven) (sense .pos) .a 100).testCurrent = true ∧
       ((s false).checkPins 0 (sense .undriven) (sense .pos) .a 200).prbs = true ∧
       ((s true).checkPins 0 (sense .undriven) (sense .pos) .a 100).testCurrent = false ∧
       ((s true).checkPins 0 (sense .undriven) (sense .pos) .a 200).prbs = false) := by decide +kernel

/-- A live state whose lines are in fall-back on pair A. -/
def fallen : State := liveLine { mode := .fallback .a }

theorem witness_LineCommandsAct :
    (let s := liveLine { b := { opn := true } }
     s.lineLive 0 = true ∧ (s.port 0).inRun = true ∧ (s.port 0).line.b.opn = true) ∧
    (let s := liveLine { mode := .lineFault }
     s.lineLive 0 = true ∧ (s.port 0).inRun = true ∧ (s.port 0).lineFault = true ∧ (s.port 0).frozen = false ∧
       (s.port 0).line.lfDiscard = false) ∧
    (fallen.lineLive 0 = true ∧ (fallen.port 0).inRun = true ∧ (fallen.port 0).line.mode = .fallback .a ∧
      ((fallen.port 0).line.pair (otherPair .a)).carries = true ∧ (fallen.port 0).tableMode (fallen.port 0).line = .full ∧
      (fallen.port 0).tx.now = .idle ∧ (fallen.port 0).rx.phase = .hunting) ∧
    (let s := liveWith (fun x => { x with line := { mode := .fallback .a }, tx := { now := .char 5 } })
     s.lineLive 0 = true ∧ (s.port 0).frozen = false ∧ (s.port 0).tx.now ≠ .idle) ∧
    ((live.port 0).receives = true ∧ 1280 ≤ (live.port 0).div live.fastDisable (live.port 0).rate.rxEntry) ∧
    (let s := liveWith (fun x => { x with st := .ready })
     s.lineLive 0 = true ∧ (s.port 0).st = .ready) ∧
    (let s := liveWith (fun x => { x with trans := some { target := .ready, source := .run, byCmd := true, supply := false,
                                                          checked := true } })
     s.lineLive 0 = true ∧ (s.port 0).st = .run ∧ (s.port 0).trans.isSome = true) := by decide +kernel

/-- Every port in fast mode: DIV 100. -/
def fastPorts : State := liveWith (fun x => { x with cfg := x.cfg.set 2 100 })

theorem witness_CharactersReceived :
    (0 < (live.port 0).dataBits ∧ (7 : Nat) < (live.port 0).dataBits ∧
      ({ port0 with cfg := port0.cfg.set 0 0x14 } : Port).parity ≠ 0) ∧
    ((3#3) ≠ 4#3 ∧ ([1, 1] : List Int) ≠ [] ∧ (([1, 1] : List Int).length : Int) ≤ ([1, 1] : List Int).sum ∧
      ([-1, -1] : List Int).sum ≤ -(([-1, -1] : List Int).length : Int) ∧
      (-(([1, 0] : List Int).length : Int) < ([1, 0] : List Int).sum ∧ ([1, 0] : List Int).sum < (([1, 0] : List Int).length : Int))) ∧
    (let b := (live.port 0).decideBits ((live.port 0).centreNow live.fastDisable) char00
     b.data = 0 ∧ b.parity = false ∧ b.stop = false) ∧
    (let b := (live.port 0).decideBits ((live.port 0).centreNow live.fastDisable) char41
     b.stop = true ∧ b.data ≠ 0) ∧
    startValid char41 = true ∧ startValid char00 = true ∧
    (fastPorts.hears 0 = true ∧ (fastPorts.port 0).fastEntry fastPorts.fastDisable (fastPorts.port 0).rate.rxEntry = true) ∧
    live.hears 0 = true ∧ (live.port 0).rx.phase = .hunting ∧ (live.port 0).af.rxFrame = .wait ∧ (live.port 0).fcMode = 0 ∧
    (live.port 0).addrMode = false ∧ (live.port 0).frameEn = false ∧
    (live.port 0).fastEntry live.fastDisable (live.port 0).rate.rxEntry = false := by decide +kernel

/-- R101: the rise and the fall of a fast character that lie two sixteenths late move the centre by one. -/
theorem test_centre_tracks :
    (fastPorts.port 0).dataEdges 0 { samples := [0, 0xFFFC, 3, 0, 0, 0, 0, 0, 0, 0xFFFF] } = [2, 2, 0] ∧
    ((after (.characterReceived 0 { samples := [0, 0xFFFC, 3, 0, 0, 0, 0, 0, 0xFFFC, 0xFFFF] }) fastPorts).port 0).rx.centre = 1 ∧
    ((after (.characterReceived 0 char41) fastPorts).port 0).rx.centre = 0 := by decide +kernel

theorem witness_OfferedItemEnters :
    (live.port 0).rx.holding = none ∧ (live.port 0).rxq.pend = none ∧ (live.port 0).rxq.flushOwed = 0 ∧
    (live.port 0).rxq.flushing = false ∧ ch.cells ≤ (live.port 0).rxq.freeCells (live.pool 0) ∧
    live.sound 0 .rx = true ∧ (ch.barrier = false ∧ (live.port 0).rxq.mustDemote ((live.port 0).fmt .rx) ch = false) ∧
    (loaded.port 0).rxq.mustDemote .each { ch with ext := none } = false ∧ flushMark.barrier = true ∧
    (oneItem.sieveNext 9).isSome = true ∧
    (let u : Entry := { item := ch, start := true }
     let q : Queue := { urg := [u], chain := [{ item := flushMark, start := true }] }
     q.servingNow = .none ∧ q.pinValid = false ∧ u.tag = q.rEpoch ∧ u.pinned = false ∧ q.headClosed = true ∧
       ({ q with rEpoch := 255 } : Queue).rEpoch ≠ u.tag ∧ ({ q with isOpen := true, openLane := .urgent } : Queue).headClosed = false ∧
       ({ q with serving := .urgent } : Queue).servingNow = .urgent ∧
       ({ q with serving := .bulk, chain := [{ item := ch, start := false }] } : Queue).servingNow = .bulk) ∧
    ((live.port 0).rxq.enter ((live.port 0).fmt .rx) ((live.port 0).guard .rx) (live.pool 0) ch false
      (rxItemNotes { item := ch, lane := .bulk }) none).isSome = true := by decide +kernel

/-- A port with XON/XOFF codes 0x13 and 0x11. -/
def xon (x : Port) : Port := { x with cfg := x.cfg.set 17 0x40121311 }

/-- Ports whose receive queues have no room. -/
def fullRx : State := { liveWith (fun x => { xon x with rxq := {} }) with regions := Vector.replicate 4 {} }

/-- A port in frame mode. -/
def frames (x : Port) : Port := { x with cfg := x.cfg.set 16 1 }

theorem witness_BreaksEnd :
    (let s := liveWith (fun x => { x with rx := { phase := .inBreak } })
     s.hears 0 = true ∧ (s.port 0).rx.phase = .inBreak ∧ (s.port 0).frameEn = false) ∧
    (let s := liveWith (fun x => { frames x with rx := { phase := .inBreak } })
     s.hears 0 = true ∧ (s.port 0).rx.phase = .inBreak ∧ (s.port 0).frameEn = true) := by decide +kernel

theorem witness_ReceiverWaitsEnd :
    (live.hears 0 = true ∧ (live.port 0).rx.phase = .hunting ∧ (live.queue 0 .rx).flushing = false) ∧
    (liveWith (fun x => { x with rx := { phase := .inBreak } })).hears 0 = true ∧
    (let s := liveWith (fun x => { x with rx := { phase := .stuck } })
     s.serving = true ∧ s.present 0 = true ∧ (s.port 0).rx.phase = .stuck) ∧
    (let s := liveWith (fun x => { frames x with af := { rxFrame := .payload } })
     s.serving = true ∧ s.present 0 = true ∧ (s.port 0).samples = true ∧ (s.port 0).rx.phase = .hunting ∧
       (s.port 0).af.rxFrame ≠ .wait ∧ startValid { char41 with samples := [0x100] } = false) ∧
    (let s := liveLine { mode := .lineFault, a := { prot := true }, b := { prot := true } }
     s.serving = true ∧ (s.port 0).inRun = true ∧ (s.port 0).frozen = false ∧ (s.port 0).lineFault = true ∧
       ((s.port 0).line.pair (s.port 0).line.rxRole).cond ∈ [0#4, 6#4, 7#4] ∧ startValid char41 = true ∧ (s.port 0).rxq.pend = none ∧ s.sound 0 .rx = true ∧
       2 ≤ (s.port 0).rxq.freeCells (s.pool 0)) ∧
    (ch.cells ≤ (live.port 0).rxq.freeCells (live.pool 0) ∧ live.sound 0 .rx = true ∧ (fullRx.port 0).rxq.freeCells (fullRx.pool 0) < ch.cells ∧
      (fullRx.port 0).rx.holding = none ∧ (fullRx.port 0).rxq.pend = none ∧ (fullRx.port 0).rxq.flushing = false) ∧
    (let s := liveWith (fun x => { x with rx := { holding := some { item := ch, lane := .bulk } } })
     s.storeOn = true ∧ s.present 0 = true ∧ (s.port 0).rx.holding.isSome = true ∧ (s.port 0).rxq.pend = none ∧
       (s.port 0).rxq.flushOwed = 0 ∧ (s.port 0).rxq.flushing = false ∧ ch.cells ≤ (s.port 0).rxq.freeCells (s.pool 0) ∧
       s.sound 0 .rx = true) ∧
    (let r : Loss := { reason := 1, count := some 3 }
     let s := liveWith (fun x => { x with txq := { x.txq with pend := some r } })
     (s.queue 0 .tx).pend = some r ∧ r.held = false ∧ (s.queue 0 .tx).flushOwed = 0 ∧ (s.queue 0 .tx).flushing = false ∧
       (s.port 0).txSinks = false ∧ 2 ≤ (s.queue 0 .tx).freeCells (s.pool 0) ∧ s.sound 0 .tx = true) := by decide +kernel

/-- R59: a character that arrives in line-fault by Protection is a State loss; one of a failed port lane does not arrive. -/
theorem test_protected_character :
    ((after (.characterReceived 0 char41) (liveLine { mode := .lineFault, a := { prot := true }, b := { prot := true } })).port
      0).rxq.bulkItems = [gapMark 3 none] ∧
    ((after (.characterReceived 0 char41) (liveLine { mode := .lineFault, a := { lane := true }, b := { lane := true } })).port
      0).rxq.items = 0 := by decide +kernel

/-- R101: the centre offset goes to 0 as the receive role moves from an undriven pair to a good one. R137: a pair fault in
the middle of the port's own blanked character enters nothing. -/
theorem test_roles_and_blanking :
    (let s := liveWith (fun x => { x with rx := { centre := 3 }, line := { b := { undriven := true } } })
     ((s.lineChange 0 .idle (fun l => { l with swapped := true })).port 0).rx.centre = 0 ∧
       ((s.lineChange 0 .idle id).port 0).rx.centre = 3) ∧
    (let s := liveWith (fun x => { x with cfg := x.cfg.set 0 0x40000004, tx := { now := .char 5, driver := true },
                                          line := { mode := .multidrop, b := { notUsed := true } } })
     (s.port 0).blanked = true ∧ ((after (.shortDetected 0 .a (.char 5 3)) s).port 0).rxq.chain.map (fun e => e.item.isMark) =
       [true, true]) := by decide +kernel

/-- Ports with XON/XOFF that receive the hold code 0x13, and a credit port. -/
def xonState : State := liveWith xon
/-- A port of nine data bits in fast mode with credits. -/
def credit (x : Port) : Port :=
  { x with cfg := (((x.cfg.set 0 8).set 2 100).set 17 0x80121311).set 19 64, rate := { fcFast := true } }
/-- The samples of the nine-bit code 0x1F2. -/
def char1F2 : RxChar := { samples := [0, 0, 0xFFFF, 0, 0, 0xFFFF, 0xFFFF, 0xFFFF, 0xFFFF, 0xFFFF, 0xFFFF] }

theorem witness_HoldAndResume :
    startValid char1F2 = true ∧
    (xonState.hears 0 = true ∧ (xonState.port 0).rx.phase = .hunting ∧ (xonState.port 0).fcMode ≠ 0 ∧
      (xonState.port 0).dataBits ≠ 9 ∧ (xonState.port 0).addrMode = false ∧ (xonState.port 0).frameEn = false ∧
      ((xonState.port 0).decideBits ((xonState.port 0).centreNow xonState.fastDisable) char41).stop = true ∧
      ((xonState.port 0).decideBits ((xonState.port 0).centreNow xonState.fastDisable) char41).data ≠ (xonState.port 0).holdCode.setWidth 9) ∧
    (let s := liveWith credit
     let b := (s.port 0).decideBits ((s.port 0).centreNow s.fastDisable) char1F2
     s.hears 0 = true ∧ (s.port 0).dataBits = 9 ∧ (s.port 0).credits = true ∧ b.data = 0x1F2 ∧
       conditionOf (s.port 0).parity b.data b = 0 ∧ (s.port 0).isHold b.data = false ∧ (s.port 0).isResume b.data = false ∧
       (s.port 0).flow.rxOutstanding = 0) ∧
    ((liveWith (fun x => { credit x with flow := { rxOutstanding := 5 } })).port 0).flow.rxOutstanding ≠ 0 ∧
    (port0 |> xon).isResume 0x11 = true ∧ (port0 |> xon).flow.held = false ∧
    (port0 |> xon).isHold 0x13 = true ∧ (port0 |> xon).isHold 0x11 = false ∧ (port0 |> xon).isResume 0x11 = true ∧
    ({ xon port0 with flow := { held := true } } : Port).isHold 0x13 = true := by decide +kernel

/-- Ports in 9-bit address mode with MUTE 1: pair 0 takes addresses 0x10 to 0x1F, urgent, and pair 3 is 0x42; broadcast is
0xFF; matched packets with the urgent flag are urgent. -/
def addressed (x : Port) : Port :=
  { x with cfg := (((x.cfg.set 0 8).set 7 0x309FF).set 8 0x3F010).set 11 0x2FF42 }
/-- Such ports, muted or not. -/
def addrState (muted : Bool) : State := liveWith (fun x => { addressed x with af := { muted := muted } })
/-- The samples of a character of nine data bits between a start and a stop bit. -/
def char9 (v : BitVec 9) (stop : Bool) : RxChar :=
  { samples := 0 :: ((List.range 9).map (fun k => if v.getLsbD k then 0xFFFF else 0)) ++ [if stop then 0xFFFF else 0] }
/-- What a character of an address port is decided as. -/
def decided (s : State) (c : RxChar) : RxBits := (s.port 0).decideBits ((s.port 0).centreNow s.fastDisable) c
/-- Ports in frame mode at a phase; every frame-table entry enabled, counted and not urgent. -/
def frameState (a : AfSt) : State :=
  { liveWith (fun x => { x with cfg := x.cfg.set 16 0x550001, af := a }) with
    boot := { live.boot with frames := Vector.replicate 64 0xA000 } }
/-- The samples of 0x55. -/
def char55 : RxChar := { samples := [0, 0xFFFF, 0, 0xFFFF, 0, 0xFFFF, 0, 0xFFFF, 0, 0xFFFF] }

theorem witness_DetectorsAct :
    ((addrState true).hears 0 = true ∧ ((addrState true).port 0).rx.phase = .hunting ∧ ((addrState true).port 0).addrMode = true ∧
      ((addrState true).port 0).mute = true ∧ ((addrState true).port 0).fcMode = 0 ∧ startValid (char9 0x142 true) = true) ∧
    (decided (addrState true) (char9 0x41 true) = { data := 0x41, parity := false, stop := true, noise := false } ∧
      decided (addrState true) (char9 0x142 true) = { data := 0x142, parity := false, stop := true, noise := false } ∧
      conditionOf 0 0x142 (decided (addrState true) (char9 0x142 false)) = 2) ∧
    (pairMatches (((addrState true).port 0).cfg[11]) 0x42 = true ∧ pairMatches (((addrState true).port 0).cfg[8]) 0x42 = false ∧
      pairMatches (((addrState true).port 0).cfg[8]) 0x17 = true ∧ ((addrState true).port 0).addrMatch 0xFF = some (8, false) ∧
      ((addrState true).port 0).addrMatch 0x99 = none) ∧
    ((frameState {}).hears 0 = true ∧ ((frameState {}).port 0).addrMode = false ∧ ((frameState {}).port 0).frameEn = true ∧
      ((frameState {}).port 0).sync = 0x55 ∧ (decided (frameState {}) char55).data = 0x55 ∧
      (decided (frameState {}) char41).data = 0x41 ∧ pidByte 0x15 ≠ 0x55 ∧
      ((frameState {}).frameEntry 0x55).getLsbD 15 = true ∧ ((frameState {}).frameEntry 0x55).getLsbD 13 = true) ∧
    ((frameState { rxFrame := .payload, rxRemain := 1 }).port 0).af.rxFrame ≠ .wait ∧
    (decided (frameState {}) char00).stop = false := by decide +kernel

/-- Table 5.2 and R128 to R134: pair 3 is matched and unmutes, in the bulk lane; pair 0 is urgent; data to a muted
detector and an address of nobody are not entered; a damaged address is. -/
theorem test_address_mode :
    (let y := (after (.characterReceived 0 (char9 0x142 true)) (addrState true)).port 0
     y.rxq.bulkItems = [mark1 3 3, charItem 0 0x142] ∧ y.af.muted = false ∧ y.af.lastIndex = 3) ∧
    ((after (.characterReceived 0 (char9 0x117 true)) (addrState true)).port 0).rxq.urgItems =
      [mark1 3 0x10, (charItem 0 0x117).withUrgent true] ∧
    (let y := (after (.characterReceived 0 (char9 0x41 true)) (addrState true)).port 0
     y.rxq.items = 0 ∧ y.af.muteDiscards = 1) ∧
    (let y := (after (.characterReceived 0 (char9 0x199 true)) (addrState false)).port 0
     y.rxq.items = 0 ∧ y.af.muted = true ∧ y.af.lastIndex = 15) ∧
    (let y := (after (.characterReceived 0 (char9 0x142 false)) (addrState false)).port 0
     y.rxq.bulkItems = [charItem 2 0x142] ∧ y.af.damagedAddr = 1 ∧ y.af.events = 1) := by decide +kernel

/-- Table 5.7: SYNC is taken, another byte is FRAME_ERR 1; 0x55 is identifier 0x15 with parity bits 01, which should be
11: FRAME_ERR 2; the last payload character closes its frame (R143). -/
theorem test_frame_mode :
    ((after (.characterReceived 0 char55) (frameState { rxFrame := .sync })).port 0).af.rxFrame = .pid ∧
    ((after (.characterReceived 0 char41) (frameState { rxFrame := .sync })).port 0).rxq.bulkItems = [mark1 6 1] ∧
    ((after (.characterReceived 0 char55) (frameState { rxFrame := .pid })).port 0).rxq.bulkItems = [mark1 6 2] ∧
    ((after (.characterReceived 0 char41) (frameState { rxFrame := .payload, rxLen := 4, rxRemain := 1 })).port 0).rxq.bulkItems =
      [charItem 0 0x41, mark1 5 4] := by decide +kernel

/-- Ports whose transmit queue holds one item. -/
def sending (i : Item) (x : Port) : Port := { x with txq := { oneItem with chain := [{ item := i, start := true }] } }

theorem witness_TransmitterRests :
    (let s := liveWith (fun x => { x with tx := { now := .char 5 } })
     s.serving = true ∧ s.present 0 = true ∧ (s.port 0).tx.now ≠ .idle) ∧
    (let s := liveWith (fun x => { x with line := { mode := .fallback .a }, tx := { driver := true } })
     (s.port 0).halfDuplex = true ∧ (s.port 0).tx.driver = true ∧ (s.port 0).tx.now = .idle) ∧
    (live.port 0).inRun = true ∧
    (let s := liveWith (fun x => { x with flow := { held := true }, cfg := x.cfg.set 19 0x10000 })
     (s.port 0).flow.held = true ∧ (s.port 0).flow.holdWarned = false ∧ 0 < (s.port 0).holdWarn) := by decide +kernel

theorem witness_FlowCodesSent :
    (fullRx.mayDrive 0 .idle = true ∧ fullRx.holdDue 0 = true ∧ (fullRx.port 0).flow.entryResume = false) ∧
    (let s := liveWith (fun x => { xon x with flow := { holdSent := true } })
     s.mayDrive 0 .idle = true ∧ s.holdDue 0 = false ∧ s.resumeDue 0 = true) ∧
    (let s := liveWith (fun x => { xon x with flow := { entryResume := true } })
     s.mayDrive 0 .idle = true ∧ (s.port 0).fcMode ≠ 0 ∧ (s.port 0).flow.entryResume = true) ∧
    (let s := liveWith (fun x => { x with cfg := (x.cfg.set 17 0x80121311).set 19 64, rate := { fcFast := true } })
     s.mayDrive 0 .idle = true ∧ s.holdDue 0 = false ∧ s.resumeDue 0 = false ∧ s.creditDue 0 = some 6) := by decide +kernel

theorem witness_RateStepsTaken :
    (let s := liveWith (fun x => { x with rate := { pend := true, pendEntry := 1 } })
     s.serving = true ∧ s.present 0 = true ∧ (s.port 0).inRun = true ∧ (s.port 0).rate.pend = true ∧
       (s.port 0).rate.rxTaken = false ∧ (s.port 0).rx.phase ≠ .inBreak ∧ (s.port 0).rate.txTaken = false ∧
       (s.port 0).tx.now = .idle) ∧
    (let s := liveWith (fun x => { x with rate := { pend := true, pendEntry := 1, txTaken := true } })
     (s.port 0).inRun = true ∧ (s.port 0).rate.rxTaken = false ∧ (s.port 0).rate.txTaken = true) := by decide +kernel

/-- Group 2 with an open round of ports 4 and 5, both waiting at their mark. -/
def tied : State :=
  { liveWith (fun x => { x with txq := { oneItem with chain := [{ item := mark1 7 2, start := true }] } }) with
    ties := live.ties.set 2 { members := 0x30, opened := true } }

/-- Ports whose transmit queue holds two items. -/
def sendingTwo (i j : Item) (x : Port) : Port :=
  { x with txq := { oneItem with segs := [{ reserved := true }], tailUsed := 2, headRead := 2, bulkIn := 2,
                                 chain := [{ item := i, start := true }, { item := j, start := false }] } }
/-- `frameState` with something to send. -/
def sendingFrame (f : Port → Port) : State :=
  { frameState {} with ports := (frameState {}).ports.map (fun x => synced (f x)) }
/-- The conditions under which the transmitter of port 0 takes its next item, whose lane and entry are as given. -/
def mayTake (s : State) (e : Entry) : Bool :=
  let u := s.tieSync 0
  !s.lineStartDue 0 && s.mayDrive 0 .idle && u.mayDrive 0 .idle && !(u.port 0).flowStops && !u.codeDue 0 &&
    (u.port 0).tx.header.isEmpty && (u.port 0).flow.tieWait.isNone && (u.port 0).txq.peekNext == some (e, .bulk) &&
    (u.takeItem 0 .tx).any (fun t => t.1 == e)

theorem witness_TransmittedCharacterStarts :
    (let s := liveWith (fun x => { credit (sending ch x) with flow := { txCredit := 1, rxOutstanding := 40 } })
     mayTake s { item := ch, start := true } = true ∧ (s.port 0).credits = true ∧ (s.port 0).dataBits = 9 ∧
       (s.port 0).paceFull = false ∧ ch.isMark = false ∧
       mayTake (liveWith (fun x => { credit (sending (charItem 0 0x1F0) x) with flow := { txCredit := 1, rxOutstanding := 40 } }))
         { item := charItem 0 0x1F0, start := true } = true) ∧
    (mayTake (liveWith (sending (breakMark false 3))) { item := breakMark false 3, start := true } = true ∧
      (breakMark false 3).isType 1 = true ∧ (breakMark false 3).ext = some 3) ∧
    (mayTake (liveWith (sending flushMark)) { item := flushMark, start := true } = true ∧ flushMark.isType 8 = true) ∧
    (mayTake (liveWith (sending (mark1 7 2))) { item := mark1 7 2, start := true } = true ∧ (mark1 7 2).isType 7 = true) ∧
    ((mark1 4 0x015).isType 4 = true ∧ ((mark1 4 0x015).arg.extractLsb' 8 2).toNat = 0 ∧
      ((mark1 4 0x115).arg.extractLsb' 8 2).toNat = 1 ∧ 2 ≤ ((mark1 4 0x215).arg.extractLsb' 8 2).toNat ∧
      mayTake (sendingFrame (sending (mark1 4 0x015))) { item := mark1 4 0x015, start := true } = true ∧
      mayTake (sendingFrame (sendingTwo (mark1 4 0x115) ch)) { item := mark1 4 0x115, start := true } = true) ∧
    (match (sendingFrame (sendingTwo (mark1 4 0x115) ch)).takeItem 0 .tx with
     | some (_, _, t) => (t.takeItem 0 .tx).any (fun c => c.1.item == ch)
     | none => false) = true ∧
    (match (liveWith (sending (mark1 4 0x115))).takeItem 0 .tx with
     | some (_, _, t) => (t.port 0).txq.peekNext.isNone && decide ((t.port 0).fmt .tx ≠ .frame)
     | none => false) = true ∧
    (match (liveWith (sendingTwo (mark1 4 0x115) flushMark)).takeItem 0 .tx with
     | some (_, _, t) => (t.port 0).txq.peekNext.any (fun c => c.1.item.isMark)
     | none => false) = true ∧
    (let s := liveWith (fun x => { x with tx := { header := [5, 6] } })
     s.lineStartDue 0 = false ∧ s.mayDrive 0 .idle = true ∧ ((s.tieSync 0).port 0).flowStops = false ∧
       (s.tieSync 0).codeDue 0 = false) ∧
    (let s := liveWith (fun x => { sending ch x with cfg := x.cfg.set 6 0x10064, tx := { paceCount := 1 } })
     s.lineStartDue 0 = false ∧ s.mayDrive 0 .idle = true ∧ ((s.tieSync 0).port 0).paceFull = true ∧
       ((s.tieSync 0).port 0).flowStops = false ∧ (s.tieSync 0).codeDue 0 = false) ∧
    ((tied.tieSync 4).mayDrive 4 .idle = true ∧ ((tied.tieSync 4).port 4).flow.tieWait ≠ none ∧ tied.lineStartDue 4 = false) ∧
    ({ port0 with tx := { now := .char 5 } } : Port).tx.now = .char 5 ∧
    ¬ (live.driverOn 0 .a = true ∧ live.driverOn 0 .b = true) := by decide +kernel

/-- R149 and R150: the FRAME_START of identifier 0x15 with a length character of 0x41 starts the break and leaves SYNC,
the protected identifier 0xD5 and the length to follow; one followed by a mark is refused; a TIE of no member is stray
(R171); an address character stands behind its two bits of idle (R135). -/
theorem test_frame_sent :
    (let x := (after (.transmitStart ⟨0, .idle⟩) (sendingFrame (sendingTwo (mark1 4 0x115) ch))).port 0
     x.tx.now = .brk 13 ∧ x.tx.header.take 3 = [0x55, 0xD5, 0x41] ∧ x.tx.header.length = 4 ∧ x.txq.items = 0) ∧
    (let x := (after (.transmitStart ⟨0, .idle⟩) (liveWith (sendingTwo (mark1 4 0x115) flushMark))).port 0
     x.tx.now = .idle ∧ x.txRefused = 1 ∧ x.af.events = 4 ∧ x.txq.items = 1) ∧
    ((after (.transmitStart ⟨0, .idle⟩) (liveWith (sending (mark1 7 2)))).tie 2).stray = true ∧
    (let x : Port := { port0 with cfg := (port0.cfg.set 0 8).set 7 0x22000, tx := { now := .char 0x101 } }
     x.onLine = [true, true, false, true, false, false, false, false, false, false, false, true, true]) := by decide +kernel

/-- R120 and R195: a full window holds a mark that would leave without an effect on the line. -/
theorem test_full_window :
    (let x := (after (.transmitStart ⟨0, .idle⟩) (liveWith (fun x =>
       { sending flushMark x with cfg := x.cfg.set 6 0x10064, tx := { paceCount := 1 } }))).port 0
     x.txq.items = 1 ∧ x.flushTag = none) ∧
    ((after (.transmitStart ⟨0, .idle⟩) (liveWith (sending flushMark))).port 0).txq.items = 0 := by decide +kernel

theorem witness_TieRoundsRelease :
    ((tied.tieSync 4).tieWaiting 2 = [4] ∧ (tied.port 4).usable = true ∧ (tied.tie 2).left.getLsbD 4 = false) ∧
    tied.serving = true ∧ (tied.tie 2).opened = true ∧ (tied.tie 2).hostRel = false ∧ tied.allReached 2 = true := by
  decide +kernel

/-! ### Witnesses: requests, trunk, attention -/

/-- The host may send requests to `live`. -/
theorem witness_hostReady : live.hostReady := ⟨by decide, by decide, by decide⟩

theorem witness_PortCommandsAct :
    live.runHeld = false ∧
    ({ live with dev := { live.dev with idxWritten := false } } : State).runHeld = true ∧ live.portsOf 0x8001 ≠ [] ∧
    ({ live with dev := { live.dev with idxWritten := false } } : State).blocksFlow = true := by decide +kernel

theorem witness_PortStatesMove :
    (let s : State := { live with dev := { live.dev with st := .sleep } }
     s.dev.st = .sleep) ∧
    (live.dev.st ≠ .sleep ∧ (live.port 0).trans = none ∧ (live.port 0).st = .run ∧
      ¬ (raisesSupply (live.port 0).st .off = true ∧ 2 ≤ live.powerCount (regionOf 0))) ∧
    (let s := liveWith (fun x => { x with st := .off,
                                          trans := some { target := .ready, source := .off, byCmd := true, supply := true,
                                                          checked := false } })
     2 ≤ s.powerCount (regionOf 0) ∧ raisesSupply .off .run = true ∧ s.dev.st ≠ .sleep ∧
     2 ≤ (s.modPort 0 (fun x => { x with trans := none })).powerCount (regionOf 0)) ∧
    (let s := liveWith (fun x => { x with st := .off, queued := some { target := .ready, order := 1 } })
     s.serving = true ∧ s.powerCount 0 < 2 ∧ s.nextQueued 0 = some (0, .ready)) ∧
    (let s := liveWith (fun x => { x with st := .ready, trans := some { target := .run, source := .ready, byCmd := true,
                                                                        supply := false, checked := true } })
     s.serving = true ∧ s.present 15 = true ∧ (s.port 15).trans.isSome = true ∧ (s.port 15).queued = none ∧
       (s.port 15).frozen = false) := by decide +kernel

/-- Every port in Off: what Sleep and Deep ask for. -/
def quietAll : State := liveWith (fun x => { x with st := .off, commanded := .off })
/-- The device in Sleep, every port in Off. -/
def asleep : State :=
  { quietAll with dev := { quietAll.dev with st := .sleep }, tr := { quietAll.tr with width := 1 }, att := { saved := true } }

theorem witness_DeviceCommandsAct :
    (live.dev.changing = false ∧ live.dev.exiting = false ∧ live.dev.deepWait = false ∧ live.portsQuiet = false ∧
      live.deepAllowed = false ∧ (4#3) ≠ 0 ∧ (4#3).toNat ≤ popcount live.tr.trained ∧ popcount live.tr.trained < (5#3).toNat) ∧
    (live.dev.changeDue = false ∧ live.tr.ctlQ = [] ∧ live.tr.waitBlk = none) ∧
    (quietAll.dev.changing = false ∧ quietAll.portsQuiet = true ∧ quietAll.deepAllowed = true ∧ quietAll.svc.busy = .none) ∧
    (let s : State := { quietAll with svc := { running := true, busy := .lock } }
     s.portsQuiet = true ∧ s.deepAllowed = true ∧ s.svc.busy ≠ .none) ∧
    (let s : State := { live with dev := { live.dev with changing := true } }
     s.blocksFlow = true ∧ s.dev.changing = true) ∧
    (let s : State := { live with dev := { live.dev with idxWritten := false } }
     s.dev.idxWritten = false ∧ bits (2#32) 0 2 = s.boot.straps.devidx ∧ bits (1#32) 0 2 ≠ s.boot.straps.devidx) := by
  decide +kernel

theorem witness_TieAndQueueCommandsAct :
    ((live.tie 3).opened = false ∧ (live.tie 3).hostRel = false ∧
      ¬ ∃ h : Fin 4, h ≠ 3 ∧ (live.tie h).members &&& (bits (0x1FFFF#32) 0 16 &&& live.presentMask) ≠ 0) ∧
    ((tied.tie 2).opened = true ∧
      ∃ h : Fin 4, h ≠ 1 ∧ (tied.tie h).members &&& (bits (0x10#32) 0 16 &&& tied.presentMask) ≠ 0) ∧
    (let s : State := { tied with ties := live.ties.set 2 { members := 0x30, opened := true, hostRel := true } }
     (s.tie 2).hostRel = true ∧ (s.tie 2).members ≠ 0 ∧ s.acceptBlk.allReached 2 = true) ∧
    (let s : State := { live with ties := live.ties.set 0 { members := 1, hostRel := true } }
     (s.tie 0).hostRel = true ∧ (s.tie 0).members ≠ 0 ∧ s.acceptBlk.allReached 0 = false) ∧
    ((live.queue 0 .tx).flush = .none ∧ (loaded.queue 0 .rx).flush = .none ∧ (loaded.queue 0 .rx).pend = none ∧
      (loaded.queue 0 .rx).flushOwed = 0 ∧ (loaded.queue 0 .rx).isOpen = false ∧
      (let e := (loaded.queue 0 .rx).clear false (loaded.pool 0); 3 ≤ e.1.freeCells e.2) ∧
      (loaded.port 0).rx.holding = none ∧ loaded.sound 0 .rx = true ∧ (let e := (loaded.queue 0 .rx).clear true (loaded.pool 0); 2 ≤ e.1.freeCells e.2)) ∧
    (∀ p : PortId, ((forEach (tied.tieWaiting 3) State.endWait tied).port p).tieHead ≠ some 3) := by decide +kernel

/-- What the tie cancel and the receive flush leave (R176, R205, R206). -/
theorem test_cancel_and_flush :
    (let s := forEach [4, 5] State.tieSync tied
     ((after (.tieCancel rq 2) s).tie 2).opened = false ∧ (s.tie 2).opened = true) ∧
    ((after (.queueFlush rq true false 1) loaded).port 0).rxq.bulkItems = [gapMark 5 (some 1), flushMark] := by decide +kernel

/-- A state in which the second copy of a link of a pool has parted from the first. -/
def parted : State := { loaded with regions := live.regions.set 0 { pool := 1000, poolUpsets := [{ seg := 3, link := true }] } }

theorem witness_QueueEndsAct :
    (let s := liveWith (fun x => { x with txq := { x.txq with flush := .waiting 4 } })
     s.storeOn = true ∧ s.present 0 = true ∧ (s.queue 0 .tx).flush = .waiting 4) ∧
    ((((live.port 0).checkOf .rx).upset { writePos := 1 } {}).pointerFails (live.queue 0 .rx).check = true ∧
      (((live.port 0).checkOf .tx).upset {} { chain := true }).parityFails (live.queue 0 .tx).check = true ∧
      ((((synced port0).setQueue .tx oneItem).checkOf .tx).upset {} {}).pointerFails (((synced port0).setQueue .tx oneItem).queue .tx).check = false ∧
      ((((synced port0).setQueue .tx oneItem).checkOf .tx).upset { link := some 5 } {}).pointerFails
        (((synced port0).setQueue .tx oneItem).queue .tx).check = true) ∧
    (let s := liveWith (fun x => { x with txq := { x.txq with flush := .crossed 2 [] } })
     (s.queue 0 .tx).flushing = true ∧ (s.queue 0 .tx).isOpen = false ∧ 3 ≤ (s.queue 0 .tx).freeCells (s.pool 0) ∧
       (s.queue 0 .tx).pend = none ∧ (s.queue 0 .tx).flushOwed = 0 ∧ (s.port 0).txSinks = false ∧ s.sound 0 .tx = true) ∧
    parted.sound 0 .tx = false ∧
    (let s : State := { live with regions := live.regions.set 0 { reclaim := true } }
     (s.region 0).reclaim = true ∧ s.present 0 = true ∧ regionOf 0 = 0) := by decide +kernel

/-- R211, R213: an upset of the pool's second links resets the queue whose access finds it, and no queue of that region is
accessed until then; the reset makes the copies agree. -/
theorem test_integrity :
    (let t := after (.queueIntegrityFault 0 .tx { pool := [{ seg := 3, tag := true }] } {}) loaded
     (t.port 0).resetsTx = 1 ∧ (t.port 0).qFaults = 4 ∧ t.sound 0 .tx = true ∧ t.sound 1 .rx = true ∧
       (t.port 1).rxq.items = 1) ∧
    (parted.takeItem 1 .rx).isNone = true := by decide +kernel

/-- Table 10.3: a flush whose freed segments' copies disagree is cancelled, and its count joins the reset's loss; so
does the count of the discard of a transition to Off (R284). -/
theorem test_flush_and_reset :
    (let x := (after (.queueFlush rq true false 1) parted).port 0
     x.rxq.flush = .none ∧ x.resetsRx = 1 ∧ x.qFaults = 1 ∧ x.rxq.bulkItems = [gapMark 5 (some 1)]) ∧
    (let x := (after (.portOff rq 1 []) parted).port 0
     x.resetsTx = 1 ∧ x.qFaults = 4 ∧ x.txq.bulkItems = [gapMark 3 (some 1)]) := by decide +kernel

theorem witness_DataWindowsAct :
    (¬ (live.benchMode = false ∨ ((live.port 0).st ≠ .ready ∧ (live.port 0).st ≠ .run)) ∧ live.present 0 = true ∧
      (live.queue 0 .rx).popExt = none ∧ (live.acceptBlk.takeItem 0 .rx).isNone = true ∧
      (live.queue 0 .rx).peekNext = none) ∧
    ((loaded.acceptBlk.takeItem 0 .rx).isSome = true ∧ (loaded.queue 0 .rx).peekNext.isSome = true ∧
      (loaded.queue 0 .rx).popExt = none) ∧
    ((quietAll.port 0).st ≠ .ready ∧ (quietAll.port 0).st ≠ .run) ∧
    (let s := liveWith (sending flushMark)
     (s.acceptBlk.takeItem 0 .tx).isSome = true ∧ flushMark.isType 8 = true) ∧
    ((liveWith (fun x => { x with rxq := { x.rxq with popExt := some 7 } })).queue 0 .rx).popExt = some 7 ∧
    (let s : State := { loaded with host := { stalls := [{ q := rq, p := 0, d := .rx, peek := false }] } }
     s.host.stalls.find? (fun y => sameReq y.q rq) = some { q := rq, p := 0, d := .rx, peek := false } ∧
       (({ s with host := { s.host with stalls := [] } } : State).windowNow 0 .rx false).isSome = true) ∧
    (live.windowNow 0 .rx false).isNone = true := by decide +kernel

/-- `live` with source 40 so. -/
def withSrc (x : Src) : State := { live with att := { live.att with srcs := live.att.srcs.set 40 x } }

theorem witness_ClaimsAnswer :
    (let s := withSrc { pend := true, targets := 2 }
     s.srcPresent 40 = true ∧ s.att.srcs[(40 : SrcId)].pend = true ∧ s.att.srcs[(40 : SrcId)].targets.getLsbD rq.proc.toNat = true) ∧
    (let s := withSrc { claimed := true, claimer := 1 }
     s.srcPresent 40 = true ∧ s.att.srcs[(40 : SrcId)].claimed = true ∧ s.att.srcs[(40 : SrcId)].claimer = rq.proc ∧
       s.att.srcs[(40 : SrcId)].pend = false) ∧
    (live.srcPresent 40 = true ∧ live.att.srcs[(40 : SrcId)].claimed = false) ∧
    (let s := withSrc { claimed := true, claimer := 3 }
     s.att.srcs[(40 : SrcId)].claimer ≠ rq.proc) ∧
    lu8.srcPresent 16 = false := by decide +kernel

theorem witness_SourceEvents :
    (live.srcPresent 40 = true ∧ (40 : SrcId) ≠ 153 ∧ live.released = true ∧ live.att.saved = false) ∧
    ({ live with att := { live.att with saved := true } } : State).att.saved = true ∧
    (training.srcPresent 159 = true ∧ training.released = false ∧ training.boot.stage ≠ .halted) := by decide +kernel

theorem witness_AttentionWordsAct :
    ((0x80000000#32).getLsbD ((159 : SrcId).val % 32) = true ∧ (withSrc { claimed := true }).acceptBlk.att.srcs[(40 : SrcId)].claimed = true ∧
      (withSrc { pend := true }).acceptBlk.att.srcs[(40 : SrcId)].claimed = false) ∧
    live.srcPresent 159 = true ∧ (159 : SrcId) ≠ 153 ∧ (159 : SrcId).val / 32 = (4 : Fin 5).val := by decide +kernel

/-- R435: 605 codes are defined, and an absent port's are not counted. -/
theorem test_codes :
    ((List.range 1024).filter (fun c => live.selects c)).length = 605 ∧
    ({ live with boot := { live.boot with fuseShadow := Vector.replicate 32 0 } } : State).selects 0x315 = false := by
  decide +kernel

theorem witness_CountersCount :
    (live.selects 0 = false ∧ live.selects 0x04F = false ∧ live.linkUp = true ∧ State.reset.linkUp = false) ∧
    live.att.saved = false ∧ live.serving = true ∧ State.reset.serving = false ∧
    ({ live with att := { live.att with saved := true } } : State).att.saved = true := by decide

theorem witness_BenchWritesAct :
    (live.secure rqN = false ∧ live.secure rq = true) ∧
    (quietAll.benchMode = true ∧ quietAll.present 15 = true ∧ (quietAll.port 15).benchOpen = true ∧
      ∀ o : PortId, quietAll.present o = true → (quietAll.port o).benchOpen = true) ∧
    (live.port 15).benchOpen = false ∧ lu8.benchMode = false := by decide +kernel

/-- The device of the bench writes: every port in Off with the built-in profile. -/
def bench : State := liveWith (fun x => { x with st := .off, commanded := .off, cfg := Config.builtinProfile })

theorem witness_BenchWritesAct_port :
    (bench.hostReady ∧ bench.benchMode = true ∧ (bench.port 5).benchOpen = true ∧ bench.present 5 = true) ∧
    ((0x1578#16).toNat % 4 = 0 ∧ regAt (0x1578#16).toNat = some (.port 5 (.cfg 0)) ∧
      regAt (0x1550#16).toNat = some (.port 5 .format) ∧ regAt (0x1580#16).toNat = some (.port 5 (.cfg 7))) ∧
    (let w : Vector Word 24 := (bench.port 5).benchCfg 0 false ((bench.port 5).cfg[0])
     profileFormOk w = true ∧ profileFlowOk bench.minRxNow w = true) ∧
    (let w : Vector Word 24 := (bench.port 5).benchCfg 7 false 0x20000
     w[7].getLsbD 17 = true ∧ bits w[0] 2 2 ≠ 2#2 ∧ profileFormOk w = false) ∧
    profileFormOk ((bench.port 5).benchCfg 0 true 0xC) = false := by
  refine ⟨?_, ?_, ?_, ?_, ?_⟩
  · unfold State.hostReady; decide +kernel
  all_goals decide +kernel

theorem witness_BenchWritesAct_resv :
    (regAt (0x2114#16).toNat = some (.resv 4 .tx) ∧ regAt (0x2118#16).toNat = some (.resv 5 .rx)) ∧
    (let n : BitVec 12 := bits (8#32) 0 12
     8 ≤ n.toNat ∧ n.toNat ≤ 2048 ∧
     (bench.boot.shadow.profiles.all (fun w => bits w[17] 30 2 == 0#2 || decide ((bits w[18] 0 16).toNat < 64 * n.toNat))) = true ∧
     bits (bench.port 5).cfg[17] 30 2 = 0#2) ∧
    (quietAll.port 0).resv .rx = 128 ∧ ((bits (7#32) 0 12 : BitVec 12).toNat < 8) ∧ (bits (2049#32) 0 12 : BitVec 12).toNat > 2048 := by
  decide +kernel

/-- A bench write takes effect, one that would set ADDR_MODE without nine data bits is ignored and flagged (R125), and so is
a reservation below eight segments (R392, Table 14.6). -/
theorem test_bench_writes :
    (((after (.imgWrite rq 0x1594 0x7) bench).port 5).cfg[12] = 0x7 &&& profileMask 12 ∧
      (after (.imgWrite rq 0x1580 0x20000) bench).host.errors = 2 ∧
      ((after (.imgWrite rq 0x1580 0x20000) bench).port 5).cfg[7] = Config.builtinProfile[7]) ∧
    ((after (.imgWrite rq 0x2114 9) bench).port 4).resvTx = 9 ∧ ((after (.imgWrite rq 0x2114 7) bench).port 4).resvTx = 128 ∧
    (after (.registerWrite rq 2 0x6020 0xFFFFFFFF) live).host.rxIlv = 0x80FFFFFF := by decide +kernel

theorem witness_RequestsComplete :
    ((3#2) ≠ 2#2 ∨ (0#6) ≠ 0) ∧ ((2#2) ≠ 2#2 ∨ (1#6) ≠ 0) ∧
    (([0, 0] : List Word).length = (if (3#2) = 3#2 then 2 * ((0#6).toNat + 1) else (0#6).toNat + 1)) ∧
    (([] : List Word).length ≠ (if (2#2) = 3#2 then 2 * ((0#6).toNat + 1) else (0#6).toNat + 1)) ∧
    (live.acceptBlk.refusal rq false 2 0x000C 1 []).isSome = true ∧
    (match regAt (0x0004#16).toNat with
     | some r => decide (live.acceptBlk.refusal rq false 2 0x0004 1 [] = none) && !r.single && !live.acceptBlk.isCfg r
     | none => false) = true ∧
    (live.acceptBlk.refusal rq true 2 0x0004 1 [0]).isSome = true ∧
    (match regAt (0x1554#16).toNat with
     | some r => decide (live.acceptBlk.refusal rq true 2 0x1554 1 [1] = none) && decide (r.acc = .w1c) &&
         !live.acceptBlk.hidden rq r
     | none => false) = true ∧
    (match regAt (0x0100#16).toNat with
     | some r => decide (live.acceptBlk.refusal rqN true 2 0x0100 1 [1] = none) && live.acceptBlk.hidden rqN r
     | none => false) = true := by decide +kernel

theorem witness_RequestsComplete_parity :
    let one (a : BitVec 16) (r : Reg) : Bool :=
      let s : State := { live with boot := { live.boot with cfgBad := [a] } }
      decide (regAt a.toNat = some r) && decide (s.acceptBlk.refusal rq false 2 a 1 [] = none) && !r.single &&
        s.acceptBlk.isCfg r && s.boot.cfgBad.contains a
    one 0x1578 (.port 5 (.cfg 0)) = true ∧ one 0x2114 (.resv 4 .tx) = true ∧ one 0x3010 .trkCfg = true ∧
      one 0x040C .imgDevice = true ∧ one 0x0480 (.frameTable 0) = true ∧ one 0x0214 (.benchPsel 5) = true := by decide +kernel

/-- A READ of two beats of 64 bits from a good CNT_LO is refused as a whole, and records ADDR (Tables 9.3 and 9.13). -/
theorem test_refusal_of_burst : live.acceptBlk.refusal rq false 3 0x5100 2 [] = some 0x5100 := by decide +kernel

/-- A QWRITE in progress and a TX_COMMIT that waits. -/
def writing (f : Option Nat) : State :=
  { live with host := { live.host with
      qwrites := [{ q := rq, p := 5, order := 3, beats := 4, left := [], failedAt := f }]
      commits := [{ q := rq, p := 5, order := 5 }], accepted := 6 } }

theorem witness_HostItemsAct :
    ((List.replicate 65 (0 : Word)).length > 64 ∧ 0 < (List.replicate 64 (0 : Word)).length ∧ live.present 5 = true ∧
      lu8.present 2 = false) ∧
    ((writing none).host.qwrites.find? (fun y => sameReq y.q rq)).map (fun w => w.failedAt) = some none ∧
    ((writing (some 2)).host.qwrites.find? (fun y => sameReq y.q rq)).map (fun w => w.failedAt) = some (some 2) ∧
    ((writing none).host.commits.find? (fun y => sameReq y.q rq)).isSome = true ∧
    ((((writing none).enterQwrites 5 5).tryGap 5 .tx false).port 5).lossesShown 5 = true ∧
    (let s : State := { writing none with ports := live.ports.map (fun x => synced { x with
       txq := { x.txq with pend := some { reason := 2, count := some 1, held := true } }, lossFrom := some 3 }) }
     (((s.enterQwrites 5 5).tryGap 5 .tx false).port 5).lossesShown 5 = false) ∧
    ((0x7FFFFF#24 - (live.port 5).rxCarried).toNat < 2 ^ 23 ∧ 2 ^ 23 ≤ (0x800000#24 - (live.port 5).rxCarried).toNat) := by
  decide +kernel

theorem witness_LanesAct :
    (training.pw.inputOn = true ∧ (booting .training).tr.link = .down ∧ (booting .training).boot.stage = .training) ∧
    (live.laneLive 3 = true ∧ live.tr.markMissed.getLsbD 3 = false) ∧
    (let s := liveTr (fun t => { t with alive := 8, markMissed := 8 })
     s.laneLive 3 = true ∧ s.tr.markMissed.getLsbD 3 = true ∧ s.tr.alive &&& ~~~(oneBit 4 3) = 0) ∧
    (let s := liveTr (fun t => { t with link := .retrain, delayValid := true, delay := 83 })
     s.trunkOn = true ∧ s.tr.link = .retrain ∧ s.tr.restoring = false ∧ s.tr.alive &&& tn.pairUp ≠ 0 ∧ s.dev.st = .awake ∧
       s.dev.toSleep = false ∧ s.dev.exiting = false ∧ s.dev.changeDue = false ∧ s.tr.delay.toNat + 16 < tn.delay.toNat) ∧
    asleep.dev.st = .sleep ∧
    (let s := liveTr (fun t => { t with alive := 7, laneLocked := 8 })
     s.trunkOn = true ∧ s.tr.link = .up ∧ s.tr.alive.getLsbD 3 = false ∧ s.tr.laneLocked.getLsbD 3 = true) ∧
    (let s := liveTr (fun t => { t with link := .down })
     s.serving = true ∧ s.tr.link = .down ∧ s.tr.holdover = false) := by decide +kernel

theorem witness_HostBlocksAct :
    (live.blocksFlow = true ∧ (blkDecode db).isSome = true ∧ blkDecode { db with payload := [65] } = none) ∧
    ((live.tr.rxExpect - 2049#12).toNat ≤ 2047 ∧ 2047 < (live.tr.rxExpect - 2048#12).toNat ∧
      live.tr.nakFor ≠ some live.tr.rxExpect) ∧
    ((liveTr (fun t => { t with nakFor := some 0 })).tr.nakFor = some live.tr.rxExpect ∧ blockClass 0 = none ∧
      blockClass 0x80000000#32 ≠ none) := by decide +kernel

/-- A control block. -/
def ctl : BlkBody := .ctl 0x81 0 [0]
/-- Two blocks sent and not acknowledged, one that waits, at the stall limit. -/
def stalled : State :=
  { liveTr (fun t => { t with stored := [{ seq := 0, body := ctl }, { seq := 1, body := ctl }], txNext := 2, sinceAck := 7,
                              stalled := true, waitBlk := some ctl }) with
    boot := { live.boot with trkCfg := 0x10000 } }

theorem witness_AcknowledgementsAct :
    ((LinkBlk.ack 0xFFF).word0.isSome = true ∧ LinkBlk.none.word0 = none) ∧
    (stalled.blocksFlow = true ∧ stalled.tr.stored.findIdx? (fun b => b.seq == 1#12 && b.sent) = some 1 ∧ stalled.tr.stored ≠ [] ∧
      7 ≤ stalled.tr.sinceAck) ∧
    (stalled.tr.stored.findIdx? (fun b => b.seq == 0xFFF#12 && b.sent) = none ∧ 0xFFF#12 = stalled.tr.rewindSeq - 1 ∧
      77#12 ≠ stalled.tr.rewindSeq - 1) ∧
    (stalled.serving = true ∧ stalled.tr.stalled = true ∧ stalled.tr.passing = false ∧ bits stalled.boot.trkCfg 16 16 ≠ 0 ∧
      stalled.tr.waitBlk = some ctl ∧ stalled.tr.stored.length < 2047) ∧
    2047 ≤ (List.replicate 2047 (0 : Word)).length := by decide +kernel

/-- Interleaving of port 0 alone, one character a round. -/
def interleaving : State := { loaded with host := { loaded.host with rxIlv := 0x80010001 } }

theorem witness_DeviceBlocksBuild :
    (let s : State := { loaded with tr := { loaded.tr with heldBlks := [.data 0 1 false [ch]] } }
     s.tr.heldFor 0 = some (.data 0 1 false [ch], true) ∧ s.mayBuild = true ∧ s.masked 0 = false ∧ s.noticeWaits 3 = true ∧
       s.noticeWaits 4 = false) ∧
    stalled.tr.waitBlk.isSome = true ∧
    (loaded.mayBuild = true ∧ loaded.present 0 = true ∧ loaded.tr.heldFor 0 = none ∧ (loaded.planBlk 0).isSome = true ∧
      loaded.masked 0 = false) ∧
    (let s := liveWith (fun x => { x with rxq := { x.rxq with urg := [{ item := ch.withUrgent true, start := true }] } })
     (s.planBlk 0).map (fun pl => pl.urgent) = some true) ∧
    (interleaving.mayBuild = true ∧ interleaving.planIlv.isSome = true) ∧
    (live.presentPorts.filter (fun o => (live.port o).limitRisen) ≠ [] ∧ live.ctlReady 100 = true) ∧
    (asleep.dev.st = .sleep ∧
      (let s := liveWith (fun x => { x with limitGiven := true, limitSent := x.txLimit })
       s.presentPorts.filter (fun o => (s.port o).limitRisen) = [])) ∧
    (let s : State := { withSrc { pend := true, targets := 2 } with att := { (withSrc { pend := true, targets := 2 }).att with due := [(40, 1)] } }
     (s.att.due.find? (fun x => x.2 == (1#2))).isSome = true ∧ s.ctlReady 12 = true ∧ s.noticeWaits 40 = false) := by decide +kernel

/-- The exit from Sleep in progress, with a block held for port 5, a reset, and a command to port 5 that waits. -/
def waking : State :=
  { asleep with
    dev := { asleep.dev with exiting := true, changing := true }
    host := { asleep.host with sleepHeld := [⟨db, asleep.blkCells db, 3, []⟩], accepted := 4
                               sleepResets := [{ p := 5, d := .rx, order := 2 }] }
    ports := asleep.ports.set 5 (synced { port0 with st := .retain, deferred := some { target := .ready, order := 4 } }) }

theorem witness_SleepActs :
    (let s : State := { quietAll with tr := { quietAll.tr with link := .retrain }, dev := { quietAll.dev with toSleep := true } }
     s.trunkOn = true ∧ s.tr.link = .retrain ∧ s.tr.restoring = false ∧ s.tr.alive &&& tn.pairUp ≠ 0 ∧ s.dev.st = .awake ∧
       s.dev.toSleep = true ∧ s.dev.changeDue = false) ∧
    (asleep.blocksFlow = true ∧ asleep.boot.stage = .released ∧ asleep.dev.st = .sleep ∧ asleep.dev.changing = false ∧
      asleep.dev.exiting = false ∧ asleep.portsQuiet = true ∧ asleep.deepAllowed = true ∧ asleep.svc.busy = .none ∧
      asleep.runHeld = false ∧ asleep.present 5 = true ∧ (asleep.queue 5 .rx).flush = .none) ∧
    ((blkDecode db).isSome = true ∧ asleep.overfills db (asleep.blkCells db) = false ∧
      (let s : State := { asleep with host := { asleep.host with sleepHeld := [⟨db, [(5, 200000)], 1, []⟩] } }
       s.overfills db (s.blkCells db) = true)) ∧
    (waking.serving = true ∧ waking.dev.exiting = true ∧ waking.tr.link = .up ∧ waking.tr.restoring = false ∧
      waking.tr.alive &&& tn.pairUp ≠ 0 ∧ waking.dev.toSleep = false ∧ waking.host.sleepFresh = [] ∧
      waking.tr.ctlQ = [] ∧ waking.tr.waitBlk = none ∧ ({ waking.tr with ctlQ := [.ctl 4 0 []] } : Trunk).ctlQ ≠ []) ∧
    (live.host.writes = [] ∧ live.present 5 = true ∧ (5 : PortId) ∉ ([3] : List PortId) ∧ (live.port 5).txSinks = false ∧
      (live.port 5).txq.flushing = false ∧ (live.port 5).txq.blocked = false ∧ live.sound 5 .tx = true ∧
      ch.cells ≤ (live.port 5).txq.freeCells (live.pool 5)) ∧
    ((waking.port 5).trans = none ∧ (waking.port 5).st ≠ .ready ∧ waking.deferredList = [(5, { target := .ready, order := 4 })] ∧
      waking.mustWait (regionOf 5) 4 = false ∧ (live.port 5).st = .run) ∧
    (let s := liveWith (fun x => { x with st := .off, trans := some { target := .ready, source := .off, byCmd := true,
                                                                      supply := true, checked := false } })
     (s.port 5).trans.isSome = true ∧ raisesSupply .off .ready = true ∧
       (s.modPort 5 (fun x => { x with trans := none })).mustWait (regionOf 5) 9 = true) := by decide +kernel

/-- What the exit from Sleep leaves (R343, R344): four lanes in use, the held items in their queue, the waiting command
started, and STATE_DONE and WOKE set; a command to Run in Sleep begins the exit without a retrain. -/
theorem test_sleep :
    (let t := after (.sleepExitEnd tn { sources := [], proc := false }) waking
     t.tr.width = 4 ∧ t.dev.st = .awake ∧ (t.port 5).entered = 2 ∧ (t.port 5).txq.items = 2 ∧
       (t.port 5).trans.map (fun x => x.target) = some .ready ∧ t.pw.events = 0x60) ∧
    (let t := after (.deviceStateRun rq) asleep
     t.dev.exiting = true ∧ t.dev.cmdWidth = 4 ∧ t.tr.link = .up ∧ t.dev.st = .sleep) := by decide +kernel

/-- The device in Deep, its exit begun or not. -/
def deep (exiting : Bool) : State :=
  { quietAll with dev := { quietAll.dev with st := .deep, exiting := exiting }, tr := { link := .down }, svc := {} }
/-- A released device whose full training ends. -/
def retraining : State :=
  { liveTr (fun t => { t with link := .training, stored := [{ seq := 7, body := .ctl 0x81 0 [0] }], txNext := 8, rxExpect := 9 }) with
    host := { live.host with commits := [{ q := rq, p := 5, order := 5 }], accepted := 6 } }

theorem witness_DeepAndFreshEnd :
    ((deep false).boot.stage = .released ∧ (deep false).pw.inputOn = true ∧ (deep false).dev.st = .deep ∧
      (deep false).dev.exiting = false ∧ (deep false).tr.link = .down) ∧
    ((deep true).dev.exiting = true ∧ (deep true).boot.rerunKiln = false ∧ (deep true).boot.rerunSlip = false) ∧
    (let s : State := { deep true with tr := { link := .training } }
     s.pw.inputOn = true ∧ s.boot.stage = .released ∧ s.tr.link = .training ∧ tn.pairUp ≠ 0 ∧ s.dev.toSleep = false ∧
       s.dev.changeDue = false) ∧
    (retraining.pw.inputOn = true ∧ retraining.tr.link = .training ∧ retraining.dev.st = .awake ∧
      (3#8 : Byte).getLsbD 1 = true ∧ (1#8 : Byte).getLsbD 1 = false ∧ retraining.tr.freshDue = false ∧
      retraining.present 5 = true ∧ retraining.tr.waitBlk = none) ∧
    (let s : State := { asleep with tr := { asleep.tr with link := .training } }
     s.dev.st = .sleep ∧ s.tr.link = .training) ∧
    (let s (kiln slip : Bool) : State := { deep true with boot := { (deep true).boot with rerunKiln := kiln, rerunSlip := slip } }
     (s true false).boot.rerunKiln = true ∧ firstBadFuse ((s true false).kilnReads []) = none ∧
       (s false true).boot.rerunSlip = true ∧ (s false true).dev.st = .deep ∧ (s false true).dev.exiting = true) := by decide +kernel

/-- Table 12.8: an even flip in an image word is no parity error, an odd one is; LINK_UP ends Deep. R239: a FRESH
training of the host empties the replay buffer, any other sends it again. -/
theorem test_deep_and_fresh :
    (let none_ : RetentionFault := { sources := [], proc := false }
     (after (.wakeTone [(4, 3)] [⟨.profile 2 3, 1⟩] none_) (deep false)).boot.rerunSlip = true ∧
     (after (.wakeTone [(4, 3)] [⟨.profile 2 3, 1⟩] none_) (deep false)).boot.rerunKiln = false ∧
     (after (.wakeTone [(4, 1)] [⟨.profile 2 3, 5⟩] none_) (deep false)).boot.rerunSlip = false ∧
     (after (.wakeTone [(4, 1)] [] none_) (deep false)).boot.rerunKiln = true) ∧
    (let t := after (.linkUp tn false 1 0) (after .trainingStart (deep true))
     t.dev.st = .awake ∧ t.tr.width = 4 ∧ t.pw.events = 0x40) ∧
    ((after (.linkUp tn false 3 0) retraining).tr.stored = [] ∧ (after (.linkUp tn false 3 0) retraining).host.commits = [] ∧
      (after (.linkUp tn false 1 0) retraining).tr.stored.length = 1 ∧
      (after (.linkUp tn false 1 0) retraining).host.commits.length = 1) := by decide +kernel

end Sys2Proof.Tests
end

section
/-! SUPPORT. How a request of one 32-bit word runs on a device that serves the host (09 R258, R261; 17 R440 to R442): it is
accepted, no check of Table 9.3 refuses it, and what is left is its register's own read or write. Then claims and completions
at the attention unit's claim windows (11 R314 to R316). -/

namespace Sys2Proof.Machine

/-! ### A block accepted on a device that serves -/

theorem hostCtl_of_blocksFlow {s : State} (f : State → State) (h : s.blocksFlow = true) : s.hostCtl f = f s.acceptBlk := by
  simp [State.hostCtl, h]

theorem srcPresent_of_offTrunk {s t : State} (h : t.offTrunk = s.offTrunk) (i : SrcId) : t.srcPresent i = s.srcPresent i :=
  have := congrArg (fun x : State => x.srcPresent i) h
  this

theorem stage_of_offTrunk {s t : State} (h : t.offTrunk = s.offTrunk) : t.boot.stage = s.boot.stage :=
  have := congrArg (fun x : State => x.boot.stage) h
  this

theorem devSt_of_offTrunk {s t : State} (h : t.offTrunk = s.offTrunk) : t.dev.st = s.dev.st :=
  have := congrArg (fun x : State => x.dev.st) h
  this

theorem devChanging_of_offTrunk {s t : State} (h : t.offTrunk = s.offTrunk) : t.dev.changing = s.dev.changing :=
  have := congrArg (fun x : State => x.dev.changing) h
  this

theorem blockRefused_acceptBlk {s : State} (h : s.hostReady) (write : Bool) (b : Nat) :
    s.acceptBlk.blockRefused write b = false := by
  obtain ⟨-, hstage, hst⟩ := h
  have hstage' := (stage_of_offTrunk (acceptBlk_offTrunk s)).trans hstage
  have hst' := (devSt_of_offTrunk (acceptBlk_offTrunk s)).trans hst
  simp [State.blockRefused, hstage', hst']

/-! ### One word read or written -/

theorem refusal_word_eq_none {s : State} {q : Req} {write : Bool} {addr : BitVec 16} {vs : List Word} {r : Reg}
    (hblk : s.blockRefused write addr.toNat = false) (halign : addr.toNat % 4 = 0) (hreg : regAt addr.toNat = some r)
    (hok : s.regRefuses q write true 2 (vs.getD 0 0) r = false) : s.refusal q write 2 addr 1 vs = none := by
  have hbeat : s.beatRefused q write true 2 (beatAddr addr 0) (vs.getD 0 0) = false := by
    simp only [State.beatRefused, beatAddr, Nat.mul_zero, Nat.add_zero, hblk, hreg, hok, Bool.true_and, Bool.or_false,
      Bool.or_eq_false_iff]
    exact ⟨decide_eq_false (Nat.not_le.mpr addr.isLt), decide_eq_false (not_not_intro halign)⟩
  simp only [State.refusal, List.range_one, List.find?_cons, beq_self_eq_true, hbeat, List.find?_nil]
  simp [burstRefused]

theorem read1_word {s : State} {q : Req} {addr : BitVec 16} {r : Reg} (h : s.hostReady) (halign : addr.toNat % 4 = 0)
    (hreg : regAt addr.toNat = some r) (hok : s.acceptBlk.regRefuses q false true 2 0 r = false) :
    s.read1 q addr = s.acceptBlk.doRead q 2 addr 1 := by
  have hnone : s.acceptBlk.refusal q false 2 addr 1 [] = none :=
    refusal_word_eq_none (blockRefused_acceptBlk h _ _) halign hreg hok
  rw [State.read1, hostCtl_of_blocksFlow _ h.1, State.readReq, hnone]

theorem write1_word {s : State} {q : Req} {addr : BitVec 16} {v : Word} {mids : List Mid} {r : Reg} (h : s.hostReady)
    (halign : addr.toNat % 4 = 0) (hreg : regAt addr.toNat = some r)
    (hok : s.acceptBlk.regRefuses q true true 2 v r = false) :
    s.write1 q addr v mids = s.acceptBlk.doWrite q 2 addr [v] mids := by
  have hnone : s.acceptBlk.refusal q true 2 addr 1 [v] = none :=
    refusal_word_eq_none (blockRefused_acceptBlk h _ _) halign hreg hok
  rw [State.write1, hostCtl_of_blocksFlow _ h.1, State.writeReq, hnone]
  rfl

/-- A word that its register takes completes with OK; what a state command would begin then follows (R277). -/
theorem doWrite_word_of_ok {s t : State} {q : Req} {addr : BitVec 16} {v : Word} {mids : List Mid} {r : Reg}
    (halign : addr.toNat % 4 = 0) (hreg : regAt addr.toNat = some r) (hw : s.writeReg q addr r v mids = (t, .ok)) :
    s.doWrite q 2 addr [v] mids = (t.complete q 0 0 0 []).beginChange s.dev.changing := by
  have haddr : BitVec.ofNat 16 (addr.toNat / 4 * 4) = addr := by
    rw [Nat.div_mul_cancel (Nat.dvd_of_mod_eq_zero halign), BitVec.ofNat_toNat, BitVec.setWidth_eq]
  have hbeat : State.writeBeat q 2 mids (beatAddr addr 0) v (s, {}) = (t, {}) := by
    simp [State.writeBeat, beatAddr, hreg, haddr, narrowWrite, hw]
  simp only [State.doWrite, List.zipIdx_cons, List.zipIdx_nil, List.foldl_cons, List.foldl_nil, hbeat]
  rfl

/-- Where no state command began, nothing follows the completion. -/
theorem beginChange_complete_of_offTrunk {s t : State} (h : t.offTrunk = s.offTrunk) (q st n d w) :
    (t.complete q st n d w).beginChange s.dev.changing = t.complete q st n d w := by
  have hdev : (t.complete q st n d w).dev.changing = s.dev.changing :=
    devChanging_of_offTrunk ((complete_offTrunk ..).trans h)
  cases hc : s.dev.changing <;> simp [State.beginChange, hdev, hc]

/-! ### The claim windows (R314, Table 11.12) -/

theorem claimAddr_toNat (i : SrcId) : (claimAddr i).toNat = 0x7000 + 4 * i.val := by
  have := i.isLt
  simp only [claimAddr, BitVec.toNat_add, BitVec.toNat_ofNat]
  omega

theorem claimAddr_aligned (i : SrcId) : (claimAddr i).toNat % 4 = 0 := by
  rw [claimAddr_toNat]
  omega

theorem regAt_claimAddr (i : SrcId) : regAt (claimAddr i).toNat = some (.claim i) := by
  have hi := i.isLt
  have hword : (0x7000 + 4 * i.val) / 4 * 4 = 0x7000 + 4 * i.val := by omega
  have hlow : ∀ k ≤ 0x7000, ¬ 0x7000 + 4 * i.val < k := by omega
  have hhigh : 0x7000 + 4 * i.val < 0x7280 := by omega
  simp [claimAddr_toNat, regAt, hword, hlow, highReg, hhigh]

theorem regRefuses_claim_word (s : State) (q : Req) (write : Bool) (v : Word) (i : SrcId) :
    s.regRefuses q write true 2 v (.claim i) = false := by
  cases write <;> rfl

theorem exec_claim_eq {s : State} (h : s.hostReady) (q : Req) (i : SrcId) :
    exec (.claim q i) s =
      .next ((s.acceptBlk.claimSrc i q.proc).1.complete q 0 0 0 [(s.acceptBlk.claimSrc i q.proc).2]) := by
  have hread := read1_word h (claimAddr_aligned i) (regAt_claimAddr i) (regRefuses_claim_word _ q _ _ i)
  have hdo : s.acceptBlk.doRead q 2 (claimAddr i) 1 =
      (s.acceptBlk.claimSrc i q.proc).1.complete q 0 0 0 [(s.acceptBlk.claimSrc i q.proc).2] := by
    rw [State.doRead, regAt_claimAddr]
  exact congrArg Host.Outcome.next (hread.trans hdo)

theorem completeSrc_offTrunk (i : SrcId) (proc : BitVec 2) (s : State) : (s.completeSrc i proc).offTrunk = s.offTrunk := by
  unfold State.completeSrc
  dsimp only
  split
  · rfl
  · split
    · rfl
    · exact count_offTrunk ..

theorem exec_claimComplete_eq {s : State} (h : s.hostReady) (q : Req) (i : SrcId) :
    exec (.claimComplete q i) s = .next ((s.acceptBlk.completeSrc i q.proc).complete q 0 0 0 []) := by
  have hwrite := write1_word (mids := []) h (claimAddr_aligned i) (regAt_claimAddr i) (regRefuses_claim_word _ q _ 0 i)
  have hok : s.acceptBlk.writeReg q (claimAddr i) (.claim i) 0 [] = (s.acceptBlk.completeSrc i q.proc, .ok) :=
    if_neg (by simp [State.hidden, Reg.isSec, State.regAbsent, Reg.portOf])
  have hdo := doWrite_word_of_ok (claimAddr_aligned i) (regAt_claimAddr i) hok
  have hend := beginChange_complete_of_offTrunk (completeSrc_offTrunk i q.proc s.acceptBlk) q 0 0 0 []
  exact congrArg Host.Outcome.next (hwrite.trans (hdo.trans hend))

/-! ### What a claim and a completion do to their source (R314, R316) -/

/-- A source after a claim that it answers (Table 11.2). -/
def Src.claimedBy (proc : BitVec 2) (x : Src) : Src :=
  { x with pend := false, claimed := true, claimer := proc, count := 0 }

/-- A source after its claim is completed (Table 11.2). -/
def Src.claimEnded (x : Src) : Src :=
  { x with claimed := false, repend := false, pend := x.asserted || x.repend,
           noticed := if x.asserted || x.repend then 0 else x.noticed }

/-- A claim of `i` by `proc` is answered with the source word (R314). -/
def State.claimable (s : State) (i : SrcId) (proc : BitVec 2) : Prop :=
  s.srcPresent i = true ∧ s.att.srcs[i].pend = true ∧ s.att.srcs[i].targets.getLsbD proc.toNat = true

theorem claimSrc_of_claimable {s : State} {i : SrcId} {proc : BitVec 2} (h : s.claimable i proc) :
    s.claimSrc i proc =
      (State.count 0x0A1 { s with att := s.att.put i (s.att.srcs[i].claimedBy proc) },
        (s.att.srcs[i].count.setWidth 32 <<< 20) ||| BitVec.ofNat 32 i.val) := by
  obtain ⟨hp, hpend, htargets⟩ := h
  simp only [State.claimSrc, hp, hpend, htargets, Bool.and_self, if_true]
  rfl

theorem claimSrc_of_not_claimable {s : State} {i : SrcId} {proc : BitVec 2} (h : ¬ s.claimable i proc) :
    s.claimSrc i proc = (s.count 0x0A2, 0x3FF#32) := by
  refine if_neg (fun hall => h ?_)
  simpa [State.claimable, and_assoc] using hall

theorem completeSrc_of_claimer {s : State} {i : SrcId} {proc : BitVec 2} (hp : s.srcPresent i = true)
    (hclaimed : s.att.srcs[i].claimed = true) (hclaimer : s.att.srcs[i].claimer = proc) :
    s.completeSrc i proc = { s with att := s.att.update i s.att.srcs[i].claimEnded } := by
  have hpresent : ¬ (!s.srcPresent i) = true := by simp [hp]
  have hown : (s.att.srcs[i].claimed && s.att.srcs[i].claimer == proc) = true := by
    rw [hclaimed, hclaimer, Bool.true_and, beq_self_eq_true]
  exact (if_neg hpresent).trans (if_pos hown)

theorem completeSrc_of_stray {s : State} {i : SrcId} {proc : BitVec 2} (hp : s.srcPresent i = true)
    (hstray : s.att.srcs[i].claimed = false ∨ s.att.srcs[i].claimer ≠ proc) :
    s.completeSrc i proc = (s.count 0x0A3).attUnitEvent 2#3 := by
  have hpresent : ¬ (!s.srcPresent i) = true := by simp [hp]
  have hother : ¬ (s.att.srcs[i].claimed && s.att.srcs[i].claimer == proc) = true := by
    rw [Bool.and_eq_true, beq_iff_eq]
    rintro ⟨hclaimed, hclaimer⟩
    exact hstray.elim (fun hidle => Bool.false_ne_true (hidle.symm.trans hclaimed)) (fun hne => hne hclaimer)
  exact (if_neg hpresent).trans (if_neg hother)

/-- An absent port's source changes nothing, the unit's own neither (R306; log 167). -/
theorem completeSrc_of_absent {s : State} {i : SrcId} (proc : BitVec 2) (hp : s.srcPresent i = false) :
    s.completeSrc i proc = s := by
  simp [State.completeSrc, hp]

/-- Settles O48: each command is its claim-window access (`exec_claim_eq`, `exec_claimComplete_eq`), and the access has one
equation per case of R314 and R316. That a completion at an absent port's source is not stray is the model's choice
(log 167). -/
theorem claimsAnswer : Obligations.ClaimsAnswer := by
  intro s q i h
  have hpres : s.acceptBlk.srcPresent i = s.srcPresent i := srcPresent_of_offTrunk (acceptBlk_offTrunk s) i
  rw [exec_claim_eq h, exec_claimComplete_eq h, ← hpres]
  refine ⟨fun hmay => ?_, fun hnot => ?_, fun hp hclaimed hclaimer => ?_, fun hp hstray => ?_, fun hp => ?_⟩
  · rw [claimSrc_of_claimable hmay]
    rfl
  · rw [claimSrc_of_not_claimable hnot]
  · rw [completeSrc_of_claimer hp hclaimed hclaimer]
    rfl
  · rw [completeSrc_of_stray hp hstray]
  · rw [completeSrc_of_absent _ hp]

end Sys2Proof.Machine
end

section
/-! SUPPORT. The windows of Table 13.4 (13 R362): no two of levels 1 to 14 share a mean, so the search finds the one level
whose window holds it. -/

namespace Sys2Proof.Machine

/-- The mean of the conversions lies within 0.020 of `n`/15 (Table 13.4), in units of 1/16,000 of 1/15. -/
def inLevelWindow (r : PinReading) (n : Nat) : Prop :=
  16000 * n ≤ 15 * r.sum + 4800 ∧ 15 * r.sum ≤ 16000 * n + 4800

theorem inLevelWindow_unique {r : PinReading} {m n : Nat} (hm : inLevelWindow r m) (hn : inLevelWindow r n) : m = n := by
  obtain ⟨hmlo, hmhi⟩ := hm
  obtain ⟨hnlo, hnhi⟩ := hn
  omega

/-- Outside the open-ended windows of levels 0 and 15, the mean is in the windows of levels 1 to 14 alone. -/
theorem inLevelWindow_inner {r : PinReading} {n : Nat} (hlow : 320 < r.sum) (hhigh : r.sum < 15680)
    (h : inLevelWindow r n) : 1 ≤ n ∧ n ≤ 14 := by
  obtain ⟨hlo, hhi⟩ := h
  omega

/-! ### The level, one equation per branch of R362 -/

theorem windowLevel_of_wide {r : PinReading} (h : 10 < r.spread) : windowLevel r = none := if_pos h

theorem windowLevel_of_low {r : PinReading} (hs : r.spread ≤ 10) (h : r.sum ≤ 320) : windowLevel r = some 0 :=
  (if_neg (Nat.not_lt.mpr hs)).trans (if_pos h)

theorem windowLevel_of_high {r : PinReading} (hs : r.spread ≤ 10) (h : 15680 ≤ r.sum) : windowLevel r = some 15 :=
  (if_neg (Nat.not_lt.mpr hs)).trans ((if_neg (by omega)).trans (if_pos h))

/-- Between those two windows the search meets level `k` exactly where `k`'s window holds the mean: no window before it
does. -/
theorem windowLevel_of_inner {r : PinReading} (hs : r.spread ≤ 10) (hlow : 320 < r.sum) (hhigh : r.sum < 15680)
    (k : BitVec 4) : windowLevel r = some k ↔ inLevelWindow r k.toNat := by
  simp only [windowLevel, Nat.not_lt.mpr hs, Nat.not_le.mpr hlow, Nat.not_le.mpr hhigh, if_false, Option.map_eq_some_iff,
    List.find?_range_eq_some, decide_eq_true_eq, List.mem_range]
  constructor
  · rintro ⟨i, ⟨hi, hlt, -⟩, rfl⟩
    rwa [BitVec.toNat_ofNat, Nat.mod_eq_of_lt (by omega)]
  · intro h
    obtain ⟨hpos, hle⟩ := inLevelWindow_inner hlow hhigh h
    have hk : k.toNat - 1 + 1 = k.toNat := Nat.sub_add_cancel hpos
    refine ⟨k.toNat - 1, ⟨by rwa [hk], by omega, fun j hj => ?_⟩, by rw [hk, BitVec.ofNat_toNat, BitVec.setWidth_eq]⟩
    have hne : ¬ inLevelWindow r (j + 1) := fun hj' => by have := inLevelWindow_unique hj' h; omega
    rwa [Bool.not_eq_true', decide_eq_false_iff_not]

/-- Settles O19: by the spread, then by where the sum lies: at most 320, at least 15,680, or between, where the level is the
one whose window holds the mean. -/
theorem resistorLevelWindows : Obligations.ResistorLevelWindows := by
  intro r k
  have hzero : k = 0 ↔ k.toNat = 0 := BitVec.toNat_inj.symm
  have hfifteen : k = 15 ↔ k.toNat = 15 := BitVec.toNat_inj.symm
  rcases Nat.lt_or_ge 10 r.spread with hs | hs
  · simp [windowLevel_of_wide hs, Nat.not_le.mpr hs]
  rcases Nat.lt_or_ge 320 r.sum with hlow | hlow
  · rcases Nat.lt_or_ge r.sum 15680 with hhigh | hhigh
    · rw [windowLevel_of_inner hs hlow hhigh, ne_eq, ne_eq, hzero, hfifteen, inLevelWindow]
      omega
    · rw [windowLevel_of_high hs hhigh, Option.some_inj, eq_comm, hzero, hfifteen]
      omega
  · rw [windowLevel_of_low hs hlow, Option.some_inj, eq_comm, hzero, hfifteen]
    omega

end Sys2Proof.Machine
end

section
/-! SUPPORT. What Slip leaves (13 R367, R368; 14 R387, R393): its outcome, one equation per case; what a load over the
present ports makes of each port; and the state that SLIP leaves at start-up. -/

namespace Sys2Proof.Machine

/-! ### The outcome, one equation per case of R387 -/

theorem lengthOk_iff (m : List Host.Cell) :
    lengthOk m = true ↔ 1600 ≤ imgLength m ∧ imgLength m ≤ 65532 ∧ imgLength m % 4 = 0 := decide_eq_true_iff

theorem crcOk_iff (m : List Host.Cell) :
    crcOk m = true ↔ img32 m (imgLength m) = crc32 (flashRange m 0 (imgLength m)) := beq_iff_eq

section
variable {present : BitVec 16} {m : List Host.Cell}

theorem slipOutcome_of_noImage (h : img32 m 0 ≠ 0x4F4C554C#32) : slipOutcome present m = 1#2 := if_pos (bne_iff_ne.mpr h)

theorem slipOutcome_of_image (h : img32 m 0 = 0x4F4C554C#32) : slipOutcome present m =
    if !lengthOk m || !crcOk m then 2#2 else if !contentOk present m then 3#2 else 0#2 :=
  if_neg (by rw [h]; decide)

theorem slipOutcome_of_failed (h : img32 m 0 = 0x4F4C554C#32) (hfail : ¬ lengthOk m = true ∨ ¬ crcOk m = true) :
    slipOutcome present m = 2#2 :=
  (slipOutcome_of_image h).trans (if_pos (by simpa using hfail))

theorem slipOutcome_of_whole (h : img32 m 0 = 0x4F4C554C#32) (hlen : lengthOk m = true) (hcrc : crcOk m = true) :
    slipOutcome present m = if contentOk present m then 0#2 else 3#2 := by
  rw [slipOutcome_of_image h, hlen, hcrc]
  cases contentOk present m <;> rfl

/-- The outcome's value says in which case of R387 the image is. -/
theorem slipOutcome_cases (present : BitVec 16) (m : List Host.Cell) :
    (slipOutcome present m = 1#2 ↔ img32 m 0 ≠ 0x4F4C554C#32) ∧
    (slipOutcome present m = 2#2 ↔ img32 m 0 = 0x4F4C554C#32 ∧ (¬ lengthOk m = true ∨ ¬ crcOk m = true)) ∧
    (slipOutcome present m = 0#2 ↔ img32 m 0 = 0x4F4C554C#32 ∧ lengthOk m = true ∧ crcOk m = true ∧
      contentOk present m = true) := by
  by_cases himg : img32 m 0 = 0x4F4C554C#32
  · by_cases hfail : ¬ lengthOk m = true ∨ ¬ crcOk m = true
    · rw [slipOutcome_of_failed himg hfail]
      exact ⟨iff_of_false (by decide) (not_not_intro himg), iff_of_true rfl ⟨himg, hfail⟩,
        iff_of_false (by decide) fun ⟨_, hlen, hcrc, _⟩ => hfail.elim (· hlen) (· hcrc)⟩
    · obtain ⟨hlen, hcrc⟩ : lengthOk m = true ∧ crcOk m = true := by simpa using hfail
      rw [slipOutcome_of_whole himg hlen hcrc]
      cases contentOk present m <;> simp [himg, hlen, hcrc]
  · simp [slipOutcome_of_noImage himg, himg]

end

/-! ### A load over the ports, each from the image shadow -/

/-- `f` changes of port `p` and the parity record alone: the port becomes what `g` makes of it from the image shadow. -/
structure LoadsPort (f : PortId → State → State) (g : Image → PortId → Port → Port) : Prop where
  boot : ∀ p t, ∃ bad, (f p t).boot = { t.boot with cfgBad := bad }
  own : ∀ p t, (f p t).port p = g t.boot.shadow p (t.port p)
  other : ∀ p q t, q ≠ p → (f p t).port q = t.port q

section
variable {f : PortId → State → State} {g : Image → PortId → Port → Port}

theorem LoadsPort.forEach_boot (h : LoadsPort f g) (ps : List PortId) (s : State) :
    ∃ bad, (forEach ps f s).boot = { s.boot with cfgBad := bad } := by
  induction ps generalizing s with
  | nil => exact ⟨s.boot.cfgBad, rfl⟩
  | cons p ps ih =>
    obtain ⟨bad, hhead⟩ := h.boot p s
    obtain ⟨bad', htail⟩ := ih (f p s)
    exact ⟨bad', htail.trans (by rw [hhead])⟩

theorem LoadsPort.shadow (h : LoadsPort f g) (p : PortId) (s : State) : (f p s).boot.shadow = s.boot.shadow := by
  obtain ⟨bad, hb⟩ := h.boot p s
  rw [hb]
  rfl

theorem LoadsPort.port_forEach_of_notMem (h : LoadsPort f g) {ps : List PortId} {q : PortId} (hq : q ∉ ps) (s : State) :
    (forEach ps f s).port q = s.port q := by
  induction ps generalizing s with
  | nil => rfl
  | cons p ps ih =>
    obtain ⟨hne, hnot⟩ := List.ne_and_not_mem_of_not_mem_cons hq
    exact (ih hnot (f p s)).trans (h.other p q s hne)

theorem LoadsPort.port_forEach (h : LoadsPort f g) {ps : List PortId} (hnd : ps.Nodup) {q : PortId} (hq : q ∈ ps)
    (s : State) : (forEach ps f s).port q = g s.boot.shadow q (s.port q) := by
  induction ps generalizing s with
  | nil => cases hq
  | cons p ps ih =>
    obtain ⟨hnot, hnd'⟩ := List.nodup_cons.mp hnd
    rcases List.mem_cons.mp hq with rfl | hmem
    · exact (h.port_forEach_of_notMem hnot (f q s)).trans (h.own q s)
    · have hne : q ≠ p := fun heq => hnot (heq ▸ hmem)
      calc (forEach ps f (f p s)).port q = g (f p s).boot.shadow q ((f p s).port q) := ih hnd' hmem (f p s)
        _ = g s.boot.shadow q (s.port q) := by rw [h.shadow, h.other p q s hne]

end

theorem presentPorts_nodup (s : State) : s.presentPorts.Nodup := (List.nodup_finRange 16).filter _

theorem mem_presentPorts {s : State} {p : PortId} (h : s.present p = true) : p ∈ s.presentPorts :=
  List.mem_filter.mpr ⟨List.mem_finRange p, h⟩

/-! ### The loads of Slip: DEFAULT_PROFILE (R364), then every IMG register (R393) -/

/-- A port after DEFAULT_PROFILE has been given to an indeterminate one (R364). -/
def Port.withDefault (m : Image) (x : Port) : Port :=
  if x.psel.indet then { x with psel := { x.psel with profile := bits m.dev0 0 4 } } else x

/-- A port whose IMG registers and reservations have been loaded (R393): THRESH stays. -/
def Port.imgLoaded (m : Image) (p : PortId) (x : Port) : Port :=
  let w := m.profiles[x.profileNow.toNat]'x.profileNow.isLt
  let y : Port := { x with cfg := (w.set 20 x.cfg[20]).set 21 x.cfg[21] }
  { y.withLine (y.line.forProfile y.multidrop) with resvRx := bits m.resv[p] 0 12, resvTx := bits m.resv[p] 16 12 }

theorem defaultProfile_loads : LoadsPort State.defaultProfile (fun m _ => Port.withDefault m) where
  boot _ t := ⟨t.boot.cfgBad, rfl⟩
  own _ _ := State.port_modPort ..
  other _ _ t hne := State.port_modPort_ne t _ hne

theorem port_loaded (mine : BitVec 16 → Bool) (bad : List (BitVec 16)) (s : State) (q : PortId) :
    (s.loaded mine bad).port q = s.port q := rfl

theorem port_loadProfile (p : PortId) (s : State) : (s.loadProfile p).port p =
    (let x := { s.port p with
      cfg := ((s.shadowProfile (s.port p)).set 20 (s.port p).cfg[20]).set 21 (s.port p).cfg[21] }
     x.withLine (x.line.forProfile x.multidrop)) :=
  (port_loaded ..).trans (State.port_modPort ..)

theorem loadImg_loads : LoadsPort (fun p t => (t.loadProfile p).loadResvRegs p) Port.imgLoaded where
  boot _ _ := ⟨_, rfl⟩
  own p t := by
    have hresv : ((t.loadProfile p).loadResvRegs p).port p = { (t.loadProfile p).port p with
        resvRx := bits t.boot.shadow.resv[p] 0 12, resvTx := bits t.boot.shadow.resv[p] 16 12 } :=
      (port_loaded ..).trans (State.port_modPort ..)
    rw [hresv, port_loadProfile]
    rfl
  other p q t hne := by
    have hprofile : (t.loadProfile p).port q = t.port q := (port_loaded ..).trans (State.port_modPort_ne t _ hne)
    exact ((port_loaded ..).trans (State.port_modPort_ne _ _ hne)).trans hprofile

theorem loadImg_boot (s : State) : ∃ bad, s.loadImg.boot =
    { s.boot with frames := s.boot.shadow.frames, trkCfg := s.boot.shadow.trkCfg, imgDevice := imgDeviceOf s.boot.shadow,
                  cfgBad := bad } :=
  loadImg_loads.forEach_boot s.presentPorts s.loadOther

theorem port_loadImg {s : State} {p : PortId} (h : s.present p = true) :
    s.loadImg.port p = (s.port p).imgLoaded s.boot.shadow p :=
  loadImg_loads.port_forEach (presentPorts_nodup s) (mem_presentPorts h) s.loadOther

/-- The IMG registers take the words of the port's profile, and the two THRESH words stay (R393, Table 7.8). -/
theorem imgLoaded_cfg (m : Image) (p : PortId) {x : Port} {k : BitVec 4} (hk : x.profileNow = k) (i : Fin 24) :
    (x.imgLoaded m p).cfg[i] = if i.val = 20 ∨ i.val = 21 then x.cfg[i] else (m.profiles[k.toNat]'k.isLt)[i] := by
  subst hk
  have hset (w : Vector Word 24) : ((w.set 20 x.cfg[20]).set 21 x.cfg[21])[i] =
      if i.val = 20 ∨ i.val = 21 then x.cfg[i] else w[i] := by
    simp only [Fin.getElem_fin, Vector.getElem_set]
    grind
  exact hset _

theorem profileNow_withDefault (m : Image) (x : Port) : (x.withDefault m).profileNow =
    if x.benchEn then x.benchLevel else if x.psel.indet then bits m.dev0 0 4 else x.psel.profile := by
  unfold Port.withDefault Port.profileNow
  cases x.psel.indet <;> rfl

theorem cfg_withDefault (m : Image) (x : Port) : (x.withDefault m).cfg = x.cfg := by
  unfold Port.withDefault
  split <;> rfl

/-! ### The state that SLIP leaves at start-up -/

/-- The image shadow that Slip fills (R387, R390). -/
def State.slipImage (s : State) : Image := (s.slipShadow (slipOutcome s.presentMask s.flash)).boot.image

/-- The outcome and the settings in force are fixed: the shadow is filled, each indeterminate port has its profile, and an
image that is not good has raised its event (R364, R367). -/
def State.slipFixed (s : State) : State :=
  let o := slipOutcome s.presentMask s.flash
  let t := forEach s.presentPorts State.defaultProfile (s.slipShadow o)
  if o == 0#2 then t else t.startEvent 0

/-- Then every IMG register is loaded and the notices are settled (R393, R420). -/
def State.slipLoaded (s : State) : State := s.slipFixed.loadImg.settleNotice

theorem startEvent_boot (b : Fin 3) (s : State) : ∃ early, (s.startEvent b).boot =
    { s.boot with startEvents := s.boot.startEvents ||| oneBit 3 b, early := early } := by
  obtain ⟨a, e, h⟩ := startEvent_form b s
  exact ⟨e, by rw [h]⟩

theorem port_startEvent (b : Fin 3) (s : State) (p : PortId) : (s.startEvent b).port p = s.port p := by
  obtain ⟨a, e, h⟩ := startEvent_form b s
  rw [h]
  rfl

theorem slipFixed_boot (s : State) : ∃ bad early ev,
    s.slipFixed.boot = { (s.slipShadow (slipOutcome s.presentMask s.flash)).boot with
      cfgBad := bad, early := early, startEvents := ev } ∧
    (slipOutcome s.presentMask s.flash ≠ 0#2 → ev.getLsbD 0 = true) := by
  unfold State.slipFixed
  generalize slipOutcome s.presentMask s.flash = o
  obtain ⟨bad, hload⟩ := defaultProfile_loads.forEach_boot s.presentPorts (s.slipShadow o)
  by_cases hgood : o = 0#2
  · subst hgood
    exact ⟨bad, _, _, hload, fun h => absurd rfl h⟩
  · obtain ⟨early, hev⟩ := startEvent_boot 0 (forEach s.presentPorts State.defaultProfile (s.slipShadow o))
    simp only [beq_iff_eq, hgood, if_false]
    exact ⟨bad, early, _, hev.trans (by rw [hload]), fun _ => by simp [oneBit]⟩

theorem slipFixed_shadow (s : State) : s.slipFixed.boot.shadow = s.slipImage := by
  obtain ⟨bad, early, ev, h, -⟩ := slipFixed_boot s
  rw [h]
  rfl

theorem present_slipFixed (s : State) (p : PortId) : s.slipFixed.present p = s.present p := by
  obtain ⟨bad, early, ev, h, -⟩ := slipFixed_boot s
  rw [State.present, State.presentMask, h]
  rfl

theorem port_slipFixed {s : State} {p : PortId} (h : s.present p = true) :
    s.slipFixed.port p = (s.port p).withDefault s.slipImage := by
  unfold State.slipFixed State.slipImage
  generalize slipOutcome s.presentMask s.flash = o
  have hload := defaultProfile_loads.port_forEach (presentPorts_nodup s) (mem_presentPorts h) (s.slipShadow o)
  dsimp only
  split
  · exact hload
  · exact (port_startEvent ..).trans hload

theorem slipLoaded_boot (s : State) : ∃ bad early ev,
    s.slipLoaded.boot = { (s.slipShadow (slipOutcome s.presentMask s.flash)).boot with
      frames := s.slipImage.frames, trkCfg := s.slipImage.trkCfg, imgDevice := imgDeviceOf s.slipImage,
      cfgBad := bad, early := early, startEvents := ev } ∧
    (slipOutcome s.presentMask s.flash ≠ 0#2 → ev.getLsbD 0 = true) := by
  obtain ⟨_, early, ev, hfix, hev⟩ := slipFixed_boot s
  obtain ⟨bad, hload⟩ := loadImg_boot s.slipFixed
  refine ⟨bad, early, ev, ?_, hev⟩
  rw [slipFixed_shadow, hfix] at hload
  exact hload

theorem port_slipLoaded {s : State} {p : PortId} (h : s.present p = true) :
    s.slipLoaded.port p = ((s.port p).withDefault s.slipImage).imgLoaded s.slipImage p := by
  have hload := port_loadImg ((present_slipFixed s p).trans h)
  rw [slipFixed_shadow, port_slipFixed h] at hload
  exact hload

theorem slipLoaded_flash (s : State) : s.slipLoaded.flash = s.flash := by
  have hfix : s.slipFixed.kept = (s.slipShadow (slipOutcome s.presentMask s.flash)).kept := by
    unfold State.slipFixed
    simp only [↓kept_ite, ↓startEvent_kept, ↓forEach_kept, ↓defaultProfile_kept, ite_self, implies_true]
  have hall : s.slipLoaded.kept = (s.slipShadow (slipOutcome s.presentMask s.flash)).kept :=
    (settleNotice_kept _).trans ((loadImg_kept _).trans hfix)
  exact congrArg Kept.flash hall

theorem exec_slip_startUp {s : State} (hin : s.pw.inputOn = true) (hstage : s.boot.stage = .slip) :
    exec .slip s = .next { s.slipLoaded with boot := { s.slipLoaded.boot with stage := .training } } := by
  have hruns : s.slipRuns = true := by simp [State.slipRuns, hin, hstage]
  have hstill : s.slipLoaded.boot.stage = .slip := by
    obtain ⟨bad, early, ev, h, -⟩ := slipLoaded_boot s
    rw [h]
    exact hstage
  have hbranch : (s.slipLoaded.boot.stage == .slip) = true := beq_iff_eq.mpr hstill
  exact congrArg Host.Outcome.next ((if_pos hruns).trans (if_pos hbranch))

/-- The shadow and what START_STATUS shows, by the outcome (R387, R368). -/
theorem slipShadow_of_good (s : State) : (s.slipShadow 0#2).boot.image = imgShadow s.flash ∧
    (s.slipShadow 0#2).boot.defaults = false ∧ (s.slipShadow 0#2).boot.heldReady = false := ⟨rfl, rfl, rfl⟩

theorem slipShadow_of_not_good (s : State) {o : BitVec 2} (h : o ≠ 0#2) : (s.slipShadow o).boot.image = {} ∧
    (s.slipShadow o).boot.defaults = true ∧ (s.slipShadow o).boot.heldReady = s.imageRequired := by
  have hbad : (o == 0#2) = false := beq_false_of_ne h
  simp [State.slipShadow, hbad]

/-- Settles O21: the outcome by its cases (`slipOutcome_cases`); SLIP at start-up is `State.slipLoaded` with training begun,
whose bedrock (`slipLoaded_boot`) and present ports (`port_slipLoaded`) follow from the shadow that the outcome gives. -/
theorem slipLoadsShadow : Obligations.SlipLoadsShadow := by
  constructor
  · intro present m
    obtain ⟨hnone, hfailed, hgood⟩ := slipOutcome_cases present m
    rw [lengthOk_iff, crcOk_iff] at hfailed
    exact ⟨hnone, hfailed, hgood⟩
  · intro s hin hstage
    obtain ⟨bad, early, ev, hboot, hev⟩ := slipLoaded_boot s
    refine ⟨_, exec_slip_startUp hin hstage, rfl, ?_⟩
    rw [hboot]
    refine ⟨rfl, fun hgood => ?_, fun hnot => ?_, rfl, rfl, rfl, slipLoaded_flash s, fun p hp => ?_⟩
    · rw [hgood]
      exact slipShadow_of_good s
    · obtain ⟨himage, hdefaults, hheld⟩ := slipShadow_of_not_good s hnot
      exact ⟨himage, hdefaults, hheld, hev hnot⟩
    · have hport := port_slipLoaded hp
      refine ⟨congrArg Port.resvRx hport, congrArg Port.resvTx hport, fun i => ?_⟩
      have hcfg := congrArg (fun x : Port => x.cfg[i]) hport
      have hload := imgLoaded_cfg s.slipImage p (profileNow_withDefault s.slipImage (s.port p)) i
      rw [cfg_withDefault] at hload
      exact hcfg.trans hload

end Sys2Proof.Machine
end

section
/-! SUPPORT. What a command keeps of a state, as one predicate over its outcome (`Keeps`), and the frame of the line,
receive and transmit commands. -/

namespace Sys2Proof.Machine

/-- Whatever state the outcome leaves shows through `π` what `s` shows. -/
def Keeps {α : Type} (π : State → α) (o : Out) (s : State) : Prop := ∀ t, o = .next t → π t = π s

section
variable {α : Type} {π : State → α} {s : State}

theorem keeps_next {a : State} (h : π a = π s) : Keeps π (.next a) s := by
  intro t ht
  cases ht
  exact h
theorem keeps_guard {c : Prop} [Decidable c] {a : State} (h : c → π a = π s) : Keeps π (.next (if c then a else s)) s := by
  refine keeps_next ?_
  split
  · exact h ‹_›
  · rfl
theorem keeps_if {c : Prop} [Decidable c] {a b : State} (ha : π a = π s) (hb : π b = π s) :
    π (if c then a else b) = π s := by
  split
  · exact ha
  · exact hb
end

/-! ### The line commands (03) -/

theorem fallbackExit_apart (a : AtPort) (s : State) : Keeps (State.apart a.port) (execFallbackExit a s) s := by
  refine keeps_next ?_
  dsimp only
  split
  · refine keeps_if ((tieSync_apart ..).trans (keeps_if ((frameErrIfOpen_apart ..).trans ?_) ?_)) rfl
    all_goals exact (writeLineMarks_apart ..).trans (modPort_apart ..)
  · rfl
theorem collision_apart (p : PortId) (s : State) : Keeps (State.apart p) (execCollision p s) s := by
  refine keeps_next ?_
  dsimp only
  split
  · exact keeps_if ((tieSync_apart ..).trans ((offerLine_apart ..).trans (modPort_apart ..))) rfl
  · rfl
theorem characterReceived_apart (p : PortId) (c : RxChar) (s : State) :
    Keeps (State.apart p) (execCharacterReceived p c s) s := by
  refine keeps_next ?_
  dsimp only
  refine keeps_if ((drain_apart ..).trans (addLoss_apart ..)) (keeps_if ?_ rfl)
  refine keeps_if (glitch_apart ..) (keeps_if ((modRx_apart ..).trans (frameErrIfOpen_apart ..)) ?_)
  exact keeps_if ((modRx_apart ..).trans (enterChar_apart ..)) (enterChar_apart ..)
theorem flowCodeSend_apart (a : AtPort) (s : State) : Keeps (State.apart a.port) (execFlowCodeSend a s) s := by
  refine keeps_next ?_
  dsimp only
  refine keeps_if rfl (keeps_if ?_ (keeps_if ?_ ?_))
  · exact (tieSync_apart ..).trans ((portCount_apart ..).trans ((startCode_apart ..).trans
      ((holdPaid_apart ..).trans (modFlow_apart ..))))
  · exact (tieSync_apart ..).trans ((startCode_apart ..).trans (modFlow_apart ..))
  · split
    · exact (tieSync_apart ..).trans ((startCode_apart ..).trans (modFlow_apart ..))
    · rfl
theorem rxRateStep_apart (p : PortId) (s : State) : Keeps (State.apart p) (execRxRateStep p s) s :=
  keeps_guard fun _ => (rateDone_apart ..).trans (keeps_if ((offerMark_apart ..).trans (modPort_apart ..)) (modPort_apart ..))

/-- A command on the line of port `p` keeps everything apart from `p`. -/
theorem exec_apart {i : Instr} {p : PortId} (h : lineCmdPort i = some p) (s : State) :
    Keeps (State.apart p) (exec i s) s := by
  cases i <;> cases h
  case portLaneFailure => exact keeps_guard fun _ => lineChange_apart ..
  case portLaneRecovered => exact keeps_guard fun _ => (startSense_apart ..).trans (lineChange_apart ..)
  case shortDetected => exact keeps_guard fun _ => (pairCause_apart ..).trans (modLine_apart ..)
  case shortToGround => exact keeps_guard fun _ => pairCause_apart ..
  case shortRetry => exact keeps_guard fun _ => modLine_apart ..
  case shortCleared => exact keeps_guard fun _ => pairCause_apart ..
  case foreignVoltage => exact keeps_guard fun _ => pairCause_apart ..
  case foreignVoltageEnd => exact keeps_guard fun _ => pairCause_apart ..
  case contention => exact keeps_guard fun _ => pairCause_apart ..
  case openWire => exact keeps_guard fun _ => pairCause_apart ..
  case openWireEnd => exact keeps_guard fun _ => (startSense_apart ..).trans (pairCause_apart ..)
  case undriven => exact keeps_guard fun _ => pairCause_apart ..
  case stationDriveSeen => exact keeps_guard fun _ => startSense_apart ..
  case quickSenseEnd => exact keeps_guard fun _ => lineChange_apart ..
  case lineFaultHoldExpiry =>
    exact keeps_guard fun _ => (tieSync_apart ..).trans ((modLine_apart ..).trans ((discardQueue_apart ..).trans (takeFlush_apart ..)))
  case fallbackExit => exact fallbackExit_apart _ _
  case collision => exact collision_apart _ _
  case eqTrack => exact keeps_guard fun _ => modLine_apart ..
  case readyActivity => exact keeps_guard fun _ => (pstateEvent_apart ..).trans (addHeldLoss_apart ..)
  case startRejected => exact keeps_guard fun _ => glitch_apart ..
  case characterReceived => exact characterReceived_apart _ _ _
  case breakEnd =>
    exact keeps_guard fun _ => keeps_if ((modAf_apart ..).trans (modRx_apart ..)) ((offerMark_apart ..).trans (modRx_apart ..))
  case breakRiseRejected => exact keeps_guard fun _ => glitch_apart ..
  case stuckLow => exact keeps_guard fun _ => (offerLine_apart ..).trans ((offerMark_apart ..).trans (modRx_apart ..))
  case stuckLowEnd => exact keeps_guard fun _ => modRx_apart ..
  case frameGapTimeout => exact keeps_guard fun _ => frameErrIfOpen_apart ..
  case holdingRegisterDrain => exact keeps_guard fun _ => drain_apart ..
  case gapWrite => exact keeps_guard fun _ => (tieSync_apart ..).trans (tryGap_apart ..)
  case flowCodeSend => exact flowCodeSend_apart _ _
  case transmitStart =>
    exact keeps_next (keeps_if rfl ((txStart_apart ..).trans ((tieSync_apart ..).trans (modTx_apart ..))))
  case transmitEnd => exact keeps_guard fun _ => (tieSync_apart ..).trans (modTx_apart ..)
  case driverRelease => exact keeps_guard fun _ => (modRx_apart ..).trans (modTx_apart ..)
  case pacerWindow => exact keeps_guard fun _ => (tieSync_apart ..).trans (modTx_apart ..)
  case holdLong => exact keeps_guard fun _ => (flowEvent_apart ..).trans (modFlow_apart ..)
  case rxRateStep => exact rxRateStep_apart _ _
  case txRateStep => exact keeps_guard fun _ => (rateDone_apart ..).trans (modRate_apart ..)

/-- Settles O9. -/
theorem lineCommandFrame : Obligations.LineCommandFrame :=
  fun _ _ s t h ht => exec_apart h s t ht

end Sys2Proof.Machine
end

section
/-! SUPPORT. What every command keeps of the bedrock: but for start-up, the changes of phantom power, the ends of the flash
and fuse operations and the service port's transfers, a command keeps `State.kept` (`exec_kept`); each of those is said in its
own words (`Kept.Upheld`). -/

namespace Sys2Proof.Machine

/-! ### The commands that keep the bedrock -/

theorem keeps_of_apart {p : PortId} {o : Out} {s : State} (h : Keeps (State.apart p) o s) : Keeps State.kept o s :=
  fun t ht => kept_of_apart (h t ht)

theorem adapt_kept (s : State) : s.adapt.kept = s.kept := by
  unfold State.adapt
  split <;> rfl
theorem clearErrs_kept (s : State) : s.clearErrs.kept = s.kept := rfl
theorem calibrate_kept (p : PortId) (s : State) : (s.calibrate p).kept = s.kept := rfl

theorem lineCheckEnd_kept (p : PortId) (sa sb : PairSense) (s : State) : Keeps State.kept (execLineCheckEnd p sa sb s) s :=
  keeps_guard fun _ => (nextRound_kept ..).trans ((modPort_kept ..).trans (lineChange_kept ..))
theorem enterThermalCritical_kept (r : SensorReading) (mids : List Mid) (s : State) :
    Keeps State.kept (execThermalCritical r mids s) s := by
  refine keeps_next (keeps_if rfl ((driveFault_kept ..).trans ?_))
  have hwarn : (((s.setTemp r).enterWarn r.sensor)).kept = s.kept := enterWarn_kept ..
  have hports (u : State) (l : List (PortId × Nat)) :
      (forEach l (fun x t => t.followProt (mids.getD x.2 .idle) x.1) u).kept = u.kept :=
    forEach_kept _ _ _ fun _ _ => followProt_kept ..
  refine keeps_if ((hports _ _).trans ?_) ?_ <;> exact keeps_if ((powerEvent_kept ..).trans hwarn) hwarn
theorem endThermalCritical_kept (r : SensorReading) (s : State) : Keeps State.kept (execThermalCriticalEnd r s) s :=
  keeps_next (keeps_if ((driveFault_kept ..).trans
    (keeps_if (forEach_kept _ _ _ fun _ _ => releaseProt_kept ..) rfl)) rfl)
theorem sequencerStart_kept (r : RegionId) (s : State) : Keeps State.kept (execSequencerStart r s) s := by
  refine keeps_guard fun _ => ?_
  split
  · exact beginTransition_kept ..
  · rfl
theorem portTransitionEnd_kept (p : PortId) (sa sb : PairSense) (s : State) :
    Keeps State.kept (execPortTransitionEnd p sa sb s) s := by
  refine keeps_next ?_
  split
  · exact keeps_if (endTransition_kept ..) rfl
  · rfl
theorem releaseLoadCalibration_kept (s : State) : Keeps State.kept (execReleaseLoadCalibration s) s := by
  refine keeps_guard fun _ => forEach_kept _ _ _ fun p t => ?_
  split
  · exact (endTransition_kept ..).trans (calibrate_kept ..)
  · rfl
theorem sleepExitEnd_kept (t : Trained) (bad : RetentionFault) (s : State) :
    Keeps State.kept (execSleepExitEnd t bad s) s := by
  refine keeps_guard fun _ => (pump_kept ..).trans ((powerEvent_kept ..).trans ((powerEvent_kept ..).trans ?_))
  exact (forEach_kept _ _ _ fun _ _ => startDeferred_kept ..).trans ((releaseHeld_kept ..).trans
    ((runSleepCmds_kept ..).trans ((wakeRetrain_kept ..).trans (restoreAtt_kept ..))))
theorem wakeTone_kept (fuses : List (Fin 32 × Word)) (image : List ShadowUpset) (bad : RetentionFault) (s : State) :
    Keeps State.kept (execWakeTone fuses image bad s) s :=
  keeps_guard fun _ => keeps_if rfl (bringUp_kept ..)
theorem trainingStart_kept (s : State) : Keeps State.kept (execTrainingStart s) s := keeps_guard fun _ => rfl
/-- The training whose end LINK_UP is, with what release, halt or Deep make of it, before the numbers restart. -/
theorem linkUp_kept (t : Trained) (halfAttempt : Bool) (flags ms : Byte) (s : State) :
    Keeps State.kept (execLinkUp t halfAttempt flags ms s) s := by
  refine keeps_guard fun _ => (pump_kept ..).trans ((settle_kept ..).trans ((rewind_kept ..).trans ?_))
  have hlost (c : Prop) [Decidable c] (u : State) : (if c then u.trkEvent 8 else u).kept = u.kept :=
    keeps_if (trkEvent_kept ..) rfl
  have hdeep (c : Prop) [Decidable c] (u : State) : (if c then u.powerEvent 6 else u).kept = u.kept :=
    keeps_if (powerEvent_kept ..) rfl
  have hfresh (c : Prop) [Decidable c] (u : State) : (if c then u.restartFresh else u).kept = u.kept :=
    keeps_if (restartFresh_kept ..) rfl
  have hclear (c : Prop) [Decidable c] (u : State) : (if c then u.clearErrs else u).kept = u.kept :=
    keeps_if (clearErrs_kept ..) rfl
  have hrelease (c : Prop) [Decidable c] (u : State) : (if c then u.release ms else u).kept = u.kept :=
    keeps_if (release_kept ..) rfl
  refine (hdeep _ _).trans ((hlost _ _).trans ((hfresh _ _).trans ((setWidth_kept ..).trans ?_)))
  refine keeps_if ?_ (keeps_if ?_ ?_) <;>
    exact (hclear _ _).trans ((hrelease _ _).trans (trainLanes_kept ..))
theorem laneDropCmd_kept (l : LaneErrs) (s : State) : Keeps State.kept (execLaneDrop l s) s :=
  keeps_guard fun _ => (laneDrop_kept ..).trans (codeErrs_kept ..)
theorem markMissing_kept (m : MissedMark) (s : State) : Keeps State.kept (execMarkMissing m s) s :=
  keeps_guard fun _ => keeps_if (laneDrop_kept ..) (modTr_kept ..)
theorem retrainEnd_kept (t : Trained) (s : State) : Keeps State.kept (execRetrainEnd t s) s :=
  keeps_guard fun _ => (pump_kept ..).trans ((settle_kept ..).trans ((rewind_kept ..).trans (retrainLanes_kept ..)))
theorem hostDataBlock_kept (b : DataBlk) (s : State) : Keeps State.kept (execHostDataBlock b s) s := by
  refine keeps_next (keeps_if rfl (keeps_if (acceptBlk_kept ..) (keeps_if (discardBlk_kept ..) ?_)))
  have hcarry (c : Prop) [Decidable c] (u : State) (l : List (PortId × BitVec 24)) :
      (forEach l (fun c t => t.carry c.1 c.2) (if c then { u with freeCtr := u.freeCtr + 16 } else u)).kept = u.kept :=
    (forEach_kept _ _ _ fun _ _ => carry_kept ..).trans (keeps_if rfl rfl)
  have herr (c : Prop) [Decidable c] (u : State) : (if c then u.hostError 3 else u).kept = u.kept :=
    keeps_if (hostError_kept ..) rfl
  refine keeps_if ?_ ((placeData_kept ..).trans ?_) <;>
    exact (herr _ _).trans ((hcarry _ _ _).trans (acceptBlk_kept ..))
theorem blockDiscard_kept (why : DiscardWhy) (s : State) : Keeps State.kept (execBlockDiscard why s) s := by
  refine keeps_next (keeps_if rfl ?_)
  split
  · exact keeps_if rfl (keeps_if rfl ((count_kept ..).trans (modTr_kept ..)))
  · split
    · exact discardBlk_kept ..
    · rfl
  · exact (discardBlk_kept ..).trans (codeErrs_kept ..)
  · exact discardBlk_kept ..
theorem nakReceived_kept (n : BitVec 12) (s : State) : Keeps State.kept (execNakReceived n s) s := by
  have h : ((s.trkEvent 6).ackUpTo (n - 1)).1.kept = s.kept := (ackUpTo_kept ..).trans (trkEvent_kept ..)
  exact keeps_guard fun _ => keeps_if ((pump_kept ..).trans ((rewind_kept ..).trans h)) h
theorem stallLimitExpiry_kept (s : State) : Keeps State.kept (execStallLimitExpiry s) s := by
  refine keeps_guard fun _ => (pump_kept ..).trans ?_
  split
  · exact (place_kept ..).trans (modTr_kept ..)
  · exact modTr_kept ..
theorem blockWaitExpiry_kept (p : PortId) (s : State) : Keeps State.kept (execBlockWaitExpiry p s) s := by
  refine keeps_guard fun _ => ?_
  split
  · exact buildIlv_kept ..
  · exact buildSingle_kept ..
theorem dataBlockBuild_kept (sel : BuildSel) (s : State) : Keeps State.kept (execDataBlockBuild sel s) s := by
  refine keeps_guard fun _ => ?_
  split
  · split
    · exact buildIlv_kept ..
    · rfl
  · exact keeps_if (buildSingle_kept ..) rfl
theorem txCreditSend_kept (s : State) : Keeps State.kept (execTxCreditSend s) s :=
  keeps_guard fun _ => (sendCtl_kept ..).trans (forEach_kept _ _ _ fun _ _ => modPort_kept ..)
theorem noticeBuild_kept (proc : BitVec 2) (s : State) : Keeps State.kept (execNoticeBuild proc s) s := by
  refine keeps_next ?_
  split
  · rfl
  · exact keeps_if ((sendCtl_kept ..).trans (count_kept ..)) rfl
theorem qwriteComplete_kept (q : Req) (s : State) : Keeps State.kept (execQwriteComplete q s) s := by
  refine keeps_next ?_
  split
  · rfl
  · refine keeps_if rfl ?_
    split <;> exact (complete_kept ..).trans (enterQwrites_kept ..)
theorem txCommitReturn_kept (q : Req) (s : State) : Keeps State.kept (execTxCommitReturn q s) s := by
  refine keeps_next ?_
  split
  · rfl
  · have h (c : Prop) [Decidable c] (p o) : (if c then (s.enterQwrites p o).tryGap p .tx false else s).kept = s.kept :=
      keeps_if ((tryGap_kept ..).trans (enterQwrites_kept ..)) rfl
    exact keeps_if rfl (keeps_if (h _ _ _) ((complete_kept ..).trans (h _ _ _)))
theorem flushCrossing_kept (p : PortId) (s : State) : Keeps State.kept (execFlushCrossing p s) s := by
  refine keeps_next ?_
  split
  · exact keeps_if ((crossFlush_kept ..).trans (enterQwrites_kept ..)) rfl
  · rfl
theorem strike_kept (p : PortId) (d : Dir) (u : Upset) (par : ParityUpset) (s : State) : (s.strike p d u par).kept = s.kept :=
  rfl
theorem reclaimEnd_kept (r : RegionId) (bad : List (PortId × Dir)) (s : State) :
    Keeps State.kept (execReclaimEnd r bad s) s := by
  refine keeps_guard fun _ => (forEach_kept _ _ _ fun p t => ?_).trans ((modRegion_kept ..).trans
    (forEach_kept _ _ _ fun p t => ?_))
  · exact (tieSync_kept ..).trans ((tryGap_kept ..).trans (drain_kept ..))
  · exact (reclaimQueue_kept ..).trans (reclaimQueue_kept ..)
theorem dataWindowStallEnd_kept (q : Req) (s : State) : Keeps State.kept (execDataWindowStallEnd q s) s := by
  refine keeps_next ?_
  split
  · rfl
  · refine keeps_if rfl ?_
    dsimp only
    split
    · rename_i h
      exact (complete_kept ..).trans ((windowNow_kept h).trans rfl)
    · refine keeps_if (complete_kept ..) ((complete_kept ..).trans ?_)
      split
      · exact rxqEvent_kept ..
      · exact txqEvent_kept ..
theorem tieLineStart_kept (l : LineStart) (s : State) : Keeps State.kept (execTieLineStart l s) s :=
  keeps_guard fun _ => (forEach_kept _ _ _ fun _ _ => txStart_kept ..).trans (modTie_kept ..)
theorem hostCtl_keeps {f : State → State} (hf : ∀ t, (f t).kept = t.kept) (s : State) :
    Keeps State.kept (.next (s.hostCtl f)) s := keeps_next (hostCtl_kept f hf s)
theorem rxCredit_kept (mask : BitVec 16) (limits : List (BitVec 24)) (s : State) :
    Keeps State.kept (execRxCredit mask limits s) s :=
  hostCtl_keeps (fun _ => keeps_if rfl (forEach_kept _ _ _ fun _ _ => takeLimit_kept ..)) s
theorem write1_keeps (q : Req) (a : BitVec 16) (v : Word) (mids : List Mid) (s : State) :
    Keeps State.kept (.next (s.write1 q a v mids)) s := keeps_next (write1_kept ..)

/-- The commands that may change the bedrock's part: start-up, power, the flash and fuse operations, and every transfer on
the service bus, which ends a notice that was acknowledged. -/
def touchesKept : Instr → Bool
  | .powerUp _ _ | .kilnAttempt _ _ | .strapResistorSampling _ | .slip | .phantomUndervoltage _ | .phantomOvervoltage _
  | .parityScan _ | .svcStartStop _ _ | .svcUndefinedCommand _ | .ident _ | .status _ | .start _ | .straps _ | .serial _
  | .ports _ | .power _ | .events _ | .eventsClr _ | .regAddr _ | .regData _ | .counter _ _ | .lockInstall _
  | .lockBlowEnd _ | .imgData _ | .imgPageWriteEnd _ | .imgRead _ | .imgErase _ | .imgEraseEnd | .imgFlashTimeout
  | .imgOpen _ | .imgClose _ | .imgState _ | .svcNoticeStart | .svcNoticeNak | .svcNoticeRetry => true
  | _ => false

theorem exec_kept_of_off_line {i : Instr} (h : touchesKept i = false) (hp : lineCmdPort i = none) (s : State) :
    Keeps State.kept (exec i s) s := by
  cases i <;> cases h <;> cases hp
  case releaseLoadCalibration => exact releaseLoadCalibration_kept _
  case phantomRange => exact keeps_guard fun _ => (driveFault_kept ..).trans (keeps_if (powerEvent_kept ..) rfl)
  case converterFault => exact keeps_guard fun _ => powerEvent_kept ..
  case thermalWarning => exact keeps_next (keeps_if (enterWarn_kept ..) rfl)
  case thermalCritical => exact enterThermalCritical_kept _ _ _
  case thermalCriticalEnd => exact endThermalCritical_kept _ _
  case managementLaneFailure => exact keeps_guard fun _ => driveFault_kept ..
  case lineCheckEnd => exact lineCheckEnd_kept _ _ _ _
  case sequencerStart => exact sequencerStart_kept _ _
  case portTransitionEnd => exact portTransitionEnd_kept _ _ _ _
  case portOff => exact keeps_next (stateCmdReq_kept ..)
  case portRetain => exact keeps_next (stateCmdReq_kept ..)
  case portReady => exact keeps_next (stateCmdReq_kept ..)
  case portRun => exact keeps_next (stateCmdReq_kept ..)
  case sleepExitEnd => exact sleepExitEnd_kept _ _ _
  case wakeTone => exact wakeTone_kept _ _ _ _
  case trainingStart => exact trainingStart_kept _
  case linkUp => exact linkUp_kept _ _ _ _ _
  case laneDrop => exact laneDropCmd_kept _ _
  case markMissing => exact markMissing_kept _ _
  case retrainEnd => exact retrainEnd_kept _ _
  case laneTest => exact keeps_guard fun _ => modTr_kept ..
  case laneRestore => exact keeps_guard fun _ => (modTr_kept ..).trans (beginRetrain_kept ..)
  case holdover => exact keeps_guard fun _ => (trkEvent_kept ..).trans (modTr_kept ..)
  case hostDataBlock => exact hostDataBlock_kept _ _
  case blockDiscard => exact blockDiscard_kept _ _
  case ackReceived => exact keeps_guard fun _ => (pump_kept ..).trans (ackUpTo_kept ..)
  case nakReceived => exact nakReceived_kept _ _
  case linkBlockReserved => exact keeps_next rfl
  case ackTimer => exact keeps_guard fun _ => (count_kept ..).trans (modTr_kept ..)
  case rewindTimeout => exact keeps_guard fun _ => rewind_kept ..
  case stallLimitExpiry => exact stallLimitExpiry_kept _
  case blockWaitExpiry => exact blockWaitExpiry_kept _ _
  case dataBlockBuild => exact dataBlockBuild_kept _ _
  case txCreditSend => exact txCreditSend_kept _
  case noticeBuild => exact noticeBuild_kept _ _
  case read => exact hostCtl_keeps (fun _ => readReq_kept ..) _
  case write => exact hostCtl_keeps (fun _ => writeReq_kept ..) _
  case malformedControlBlock => exact hostCtl_keeps (fun _ => malformed_kept ..) _
  case registerWrite => exact hostCtl_keeps (fun _ => writeReq_kept ..) _
  case qwrite => exact hostCtl_keeps (fun _ => qwriteReq_kept ..) _
  case qwriteComplete => exact qwriteComplete_kept _ _
  case rxCredit => exact rxCredit_kept _ _ _
  case txCommit => exact keeps_next (read1_kept ..)
  case txCommitReturn => exact txCommitReturn_kept _ _
  case tieAutoRelease => exact keeps_guard fun _ => tieRelease_kept ..
  case tieLineStart => exact tieLineStart_kept _ _
  case flushCrossing => exact flushCrossing_kept _ _
  case flushBoundary => exact keeps_guard fun _ => atBoundary_kept ..
  case queueIntegrityFault => exact keeps_guard fun _ => (resetParted_kept ..).trans (strike_kept ..)
  case reclaimEnd => exact reclaimEnd_kept _ _ _
  case pop => exact keeps_next (read1_kept ..)
  case peek => exact keeps_next (read1_kept ..)
  case dataWindowStallEnd => exact dataWindowStallEnd_kept _ _
  case claim => exact keeps_next (read1_kept ..)
  case svcAddressMatch => exact keeps_next (keeps_if rfl (keeps_if rfl rfl))
  case svcLogicStart => exact keeps_guard fun _ => rfl
  case svcLogicStop => exact keeps_guard fun _ => rfl
  case svcArbitrationLost => exact keeps_guard fun _ => rfl
  case svcBusTimeout => exact keeps_guard fun _ => (svcEvent_kept ..).trans rfl
  case svcPassive => exact keeps_guard fun _ => (svcEvent_kept ..).trans rfl
  case svcPassiveEnd => exact keeps_guard fun _ => rfl
  case convertersInRegulation => exact keeps_guard fun _ => driveFault_kept ..
  case thermalWarningEnd => exact keeps_next (keeps_if rfl rfl)
  case tick => exact keeps_next (keeps_if ((count_kept ..).trans (adapt_kept ..)) rfl)
  all_goals exact write1_keeps _ _ _ _ _

theorem exec_kept {i : Instr} (h : touchesKept i = false) (s : State) : Keeps State.kept (exec i s) s := by
  cases hp : lineCmdPort i with
  | some p => exact keeps_of_apart (exec_apart hp s)
  | none => exact exec_kept_of_off_line h hp s

end Sys2Proof.Machine
end

section
/-! SUPPORT. What every command upholds of the bedrock's part, as a relation between that part before and after it. -/

namespace Sys2Proof.Machine

/-- What command `i` upholds: the queue, the canonical flash, fuses that only gain, Kiln's and a notice's counts, and, but for
the commands that the spec lets change them, the flash, the fuse array, the image shadow and the straps. -/
structure Kept.Upheld (i : Instr) (k k' : Kept) : Prop where
  pending : k'.pending = k.pending
  flashWf : Memory.wf k.flash = true → Memory.wf k'.flash = true
  flash : writesFlash i = false → k'.flash = k.flash
  fuses : ∃ c : BitVec 3, k'.fuseArray = k.fuseArray.set 3 (k.fuseArray[3] ||| c.setWidth 32)
  unblown : blowsFuse i = false → k'.fuseArray = k.fuseArray
  image : loadsImage i = false → k'.image = k.image
  straps : latchesStraps i = false → k'.straps = k.straps
  attempts : k.attempts ≤ 3 → k'.attempts ≤ 3
  notice : k.noteRetries ≤ 3 ∧ (k.noteWait = true → k.noteRetries < 3) →
    k'.noteRetries ≤ 3 ∧ (k'.noteWait = true → k'.noteRetries < 3)

theorem fuses_same (v : Vector Word 32) : ∃ c : BitVec 3, v = v.set 3 (v[3] ||| c.setWidth 32) := ⟨0, by simp⟩

theorem Kept.Upheld.refl (i : Instr) (k : Kept) : k.Upheld i k where
  pending := rfl
  flashWf := id
  flash _ := rfl
  fuses := fuses_same _
  unblown _ := rfl
  image _ := rfl
  straps _ := rfl
  attempts := id
  notice := id

theorem upheld_congr {i : Instr} {k : Kept} {t u : State} (h : t.kept = u.kept) (hu : k.Upheld i u.kept) :
    k.Upheld i t.kept := h ▸ hu
theorem upheld_of_kept {i : Instr} {s t : State} (h : t.kept = s.kept) : s.kept.Upheld i t.kept := h ▸ .refl i _

/-! ### A cut flash or fuse operation, the halt and the loss of power -/

theorem setWidth_and_seven (b : Byte) : b.setWidth 32 &&& 7#32 = (b.setWidth 3).setWidth 32 := by
  apply BitVec.eq_of_toNat_eq
  simp [Nat.and_two_pow_sub_one_eq_mod _ 3]
  omega
/-- A flash or fuse operation that is cut short changes the flash within its canonical form, or blows fuses of word 3. -/
theorem cutWrite_kept (s : State) : ∃ m v, s.cutWrite.kept = { s.kept with flash := m, fuseArray := v } ∧
    (Memory.wf s.flash = true → Memory.wf m = true) ∧
    (∃ c : BitVec 3, v = s.boot.fuseArray.set 3 (s.boot.fuseArray[3] ||| c.setWidth 32)) ∧
    (s.svc.busy ≠ .lock → v = s.boot.fuseArray) := by
  unfold State.cutWrite
  dsimp only
  split
  case h_1 => exact ⟨_, _, rfl, id, fuses_same _, fun _ => rfl⟩
  case h_2 => exact ⟨_, _, rfl, fun h => flashPutAll_wf h _ _, fuses_same _, fun _ => rfl⟩
  case h_3 =>
    generalize List.range 4096 = cut
    exact ⟨_, _, rfl, fun h => flashPutAll_wf h _ _, fuses_same _, fun _ => rfl⟩
  case h_4 heq =>
    refine ⟨_, _, rfl, id, ⟨(Config.cutByte s.freeCtr).setWidth 3, ?_⟩, fun h => absurd heq h⟩
    rw [setWidth_and_seven]

theorem bare_kept (s : State) : s.bare.kept =
    { pending := s.pending, flash := s.flash, fuseArray := s.boot.fuseArray, image := {}, straps := {}, attempts := 0,
      noteRetries := 0, noteWait := false } := rfl
theorem powerOff_kept (high : Bool) (s : State) : (s.powerOff high).kept = s.cutWrite.bare.kept := rfl
theorem halt_kept (s : State) : s.halt.kept = s.cutWrite.kept := driveFault_kept ..

theorem powerOff_upheld {i : Instr} (hf : writesFlash i = true) (hb : blowsFuse i = true) (hi : loadsImage i = true)
    (hs : latchesStraps i = true) (high : Bool) {s u : State} (h : u.kept = s.kept) :
    s.kept.Upheld i (u.powerOff high).kept := by
  obtain ⟨m, v, hcut, hm, hv, -⟩ := cutWrite_kept u
  rw [powerOff_kept, bare_kept, ← h]
  have hpend : u.cutWrite.pending = u.pending := congrArg Kept.pending hcut
  have hflash : u.cutWrite.flash = m := congrArg Kept.flash hcut
  have hfuse : u.cutWrite.boot.fuseArray = v := congrArg Kept.fuseArray hcut
  rw [hpend, hflash, hfuse]
  exact { pending := rfl, flashWf := hm, flash := by simp [hf], fuses := hv, unblown := by simp [hb], image := by simp [hi],
          straps := by simp [hs], attempts := fun _ => Nat.zero_le _, notice := fun _ => by simp }

theorem halt_upheld {i : Instr} (hf : writesFlash i = true) (hb : blowsFuse i = true) {s u : State}
    (h : s.kept.Upheld i u.kept) : s.kept.Upheld i u.halt.kept := by
  obtain ⟨m, v, hcut, hm, hv, -⟩ := cutWrite_kept u
  rw [halt_kept, hcut]
  obtain ⟨c, hc⟩ := h.fuses
  obtain ⟨d, hd⟩ := hv
  refine { h with flashWf := fun hw => hm (h.flashWf hw), flash := by simp [hf], fuses := ⟨c ||| d, ?_⟩, unblown := by simp [hb] }
  change u.boot.fuseArray = _ at hc
  change v = _
  rw [hd, hc]
  simp only [Vector.set_set, Vector.getElem_set_self, BitVec.or_assoc, BitVec.setWidth_or]

/-! ### Start-up, power and the operations of the service port -/

/-- Whatever state the outcome leaves, command `i` upheld the bedrock's part. -/
def Upholds (i : Instr) (o : Out) (s : State) : Prop := ∀ t, o = .next t → s.kept.Upheld i t.kept

theorem upholds_next {i : Instr} {s a : State} (h : s.kept.Upheld i a.kept) : Upholds i (.next a) s := by
  intro t ht
  cases ht
  exact h
theorem upholds_guard {i : Instr} {s a : State} {c : Prop} [Decidable c] (h : c → s.kept.Upheld i a.kept) :
    Upholds i (.next (if c then a else s)) s := by
  refine upholds_next ?_
  split
  · exact h ‹_›
  · exact .refl i _

theorem powerUp_upholds (vin : BitVec 8) (rev : Bool) (s : State) : Upholds (.powerUp vin rev) (execPowerUp vin rev s) s :=
  upholds_guard fun _ =>
    { pending := rfl, flashWf := id, flash := fun _ => rfl, fuses := fuses_same _, unblown := fun _ => rfl, image := nofun,
      straps := nofun, attempts := fun _ => Nat.zero_le _, notice := fun _ => ⟨Nat.zero_le _, nofun⟩ }

theorem kilnFails_upheld (flips : List (Fin 32 × Word)) (reads : KilnReads) (w : Fin 32) {s u : State} (h : u.kept = s.kept) :
    s.kept.Upheld (.kilnAttempt flips reads) (u.kilnFails w reads).kept := by
  unfold State.kilnFails
  dsimp only
  split
  · refine halt_upheld rfl rfl ?_
    rw [← h]
    unfold State.haltAddress
    split
    · exact { Kept.Upheld.refl _ u.kept with straps := nofun }
    · exact .refl _ _
  · rename_i hn
    rw [← h]
    exact { Kept.Upheld.refl _ u.kept with attempts := fun _ => by simp [State.kept] at hn ⊢; omega }
theorem kilnPasses_upheld (i : Instr) (v : Vector Word 32) (li : BitVec 4) {s u : State} (h : u.kept = s.kept) :
    s.kept.Upheld i (u.kilnPasses v li).kept := by
  have hk : (u.kilnPasses v li).kept = { s.kept with attempts := 0 } := by
    rw [← h]
    unfold State.kilnPasses
    dsimp only
    split
    · rfl
    · split
      · rfl
      · exact bringUp_kept _
  rw [hk]
  exact { Kept.Upheld.refl i s.kept with attempts := fun _ => Nat.zero_le _ }
theorem kilnAttempt_upholds (flips : List (Fin 32 × Word)) (reads : KilnReads) (s : State) :
    Upholds (.kilnAttempt flips reads) (execKilnAttempt flips reads s) s := by
  refine upholds_guard fun _ => ?_
  dsimp only
  split
  · exact kilnFails_upheld _ _ _ rfl
  · exact kilnPasses_upheld _ _ _ rfl
theorem sampling_upholds (pins : StrapPins) (s : State) :
    Upholds (.strapResistorSampling pins) (execStrapResistorSampling pins s) s := by
  refine upholds_guard fun _ => ?_
  rw [latchTim_kept, forEach_kept _ _ _ fun _ _ => latchPsel_kept ..]
  exact { Kept.Upheld.refl _ s.kept with straps := nofun }
theorem slip_upholds (s : State) : Upholds .slip (execSlip s) s := by
  refine upholds_guard fun _ => ?_
  have hloaded (c : Prop) [Decidable c] (u : State) : (if c then u else u.startEvent 0).loadImg.settleNotice.kept = u.kept :=
    (settleNotice_kept ..).trans ((loadImg_kept ..).trans (keeps_if rfl (startEvent_kept ..)))
  refine upheld_congr (u := forEach s.presentPorts State.defaultProfile (s.slipShadow (slipOutcome s.presentMask s.flash)))
    (keeps_if (hloaded _ _) ((bringUp_kept ..).trans (hloaded _ _))) ?_
  rw [forEach_kept _ _ _ fun _ _ => defaultProfile_kept ..]
  exact { Kept.Upheld.refl _ s.kept with image := nofun }
theorem undervoltage_upholds (vin : BitVec 8) (s : State) :
    Upholds (.phantomUndervoltage vin) (execPhantomUndervoltage vin s) s := by
  refine upholds_guard fun _ => ?_
  split
  · exact powerOff_upheld rfl rfl rfl rfl _ rfl
  · exact .refl _ _
theorem overvoltage_upholds (vin : BitVec 8) (s : State) :
    Upholds (.phantomOvervoltage vin) (execPhantomOvervoltage vin s) s :=
  upholds_guard fun _ => powerOff_upheld rfl rfl rfl rfl _ rfl
theorem reloadFuse_upheld (hit : ScanHit) (w : Fin 32) (reads : List Word) {s u : State} (h : u.kept = s.kept) :
    s.kept.Upheld (.parityScan hit) (u.reloadFuse w reads).kept := by
  unfold State.reloadFuse
  dsimp only
  split
  · exact upheld_of_kept ((startEvent_kept ..).trans h)
  · exact halt_upheld rfl rfl (upheld_of_kept h)
theorem parityScan_upholds (hit : ScanHit) (s : State) : Upholds (.parityScan hit) (execParityScan hit s) s := by
  refine upholds_next ?_
  split
  · exact .refl _ _
  · split
    · exact upheld_of_kept (forEach_kept _ _ _ fun _ _ => checkCfg_kept ..)
    · exact upheld_of_kept (upsetCfg_kept ..)
    · dsimp only
      split
      · exact reloadFuse_upheld _ _ _ rfl
      · exact .refl _ _
theorem lockBlowEnd_upholds (c : BitVec 3) (s : State) : Upholds (.lockBlowEnd c) (execLockBlowEnd c s) s := by
  refine upholds_guard fun _ => ?_
  rw [opEnd_kept, svcEvent_kept]
  exact { Kept.Upheld.refl _ s.kept with fuses := ⟨c, rfl⟩, unblown := nofun }
theorem pageWriteEnd_upholds (bs : List Byte) (s : State) : Upholds (.imgPageWriteEnd bs) (execImgPageWriteEnd bs s) s := by
  refine upholds_next ?_
  split
  · rename_i a page _
    have hflash (m : List Host.Cell) (hm : Memory.wf s.flash = true → Memory.wf m = true) :
        Kept.Upheld (.imgPageWriteEnd bs) s.kept { s.kept with flash := m } :=
      { Kept.Upheld.refl _ s.kept with flashWf := hm, flash := nofun }
    rw [opEnd_kept]
    split <;> exact upheld_congr (svcEvent_kept ..) (hflash _ fun h => flashPutAll_wf h _ _)
  · exact .refl _ _
theorem eraseEnd_upholds (s : State) : Upholds .imgEraseEnd (execImgEraseEnd s) s := by
  refine upholds_next ?_
  split
  · rw [opEnd_kept, svcEvent_kept]
    exact { Kept.Upheld.refl _ s.kept with flashWf := fun h => flashErase_wf h _ _, flash := nofun }
  · exact .refl _ _
theorem flashTimeout_upholds (s : State) : Upholds .imgFlashTimeout (execImgFlashTimeout s) s := by
  obtain ⟨m, v, hcut, hm, hv, hsame⟩ := cutWrite_kept s
  have hcutUp (hb : s.svc.busy ≠ .lock) : Kept.Upheld .imgFlashTimeout s.kept (s.cutWrite.svcEvent 8).opEnd.kept := by
    rw [opEnd_kept, svcEvent_kept, hcut]
    exact { Kept.Upheld.refl _ s.kept with flashWf := hm, flash := nofun, fuses := hv, unblown := fun _ => hsame hb }
  refine upholds_next ?_
  split
  · exact hcutUp (by simp [*])
  · exact hcutUp (by simp [*])
  · exact .refl _ _

end Sys2Proof.Machine
end

section
/-! SUPPORT. The service port's transfers end a notice that was acknowledged; with them, every command upholds the bedrock's
part, and the frames over the whole machine follow. -/

namespace Sys2Proof.Machine

/-! ### The transfers of the service port -/

/-- A step of the service port after its address was acknowledged keeps the bedrock's part. -/
theorem svcWrite_kept (code : Byte) (len : Nat) (must : Bool) (w : SvcWrite) {f : List Byte → State → State}
    (hf : ∀ d t, (f d t).kept = t.kept) (s : State) : (s.svcWrite code len must w f).kept = s.kept := by
  unfold State.svcWrite
  dsimp only
  split
  · exact hf _ _
  · exact svcEvent_kept ..
  · exact svcEvent_kept ..
theorem clearSvc_keeps (d : List Byte) (s : State) : (s.clearSvc (BitVec.ofNat 11 (leNat d))).kept = s.kept := clearSvc_kept ..
theorem svcRefuseIgnore_kept (stop : Bool) (s : State) : (s.svcRefuse.svcIgnore stop).kept = s.kept := svcRefuse_kept s

theorem noteDone_upheld (i : Instr) {s u : State} (h : u.kept = (s.modSvc Svc.noteDone).kept) : s.kept.Upheld i u.kept := by
  have hdone : s.kept.Upheld i (s.modSvc Svc.noteDone).kept := by
    unfold Svc.noteDone
    by_cases hn : s.svc.noteSending = true
    · exact { Kept.Upheld.refl i s.kept with
        notice := fun _ => by simp [State.kept, State.modSvc, hn] }
    · exact upheld_of_kept (by simp [State.kept, State.modSvc, hn])
  exact h ▸ hdone
theorem svcTx_upheld (i : Instr) {f : State → State} (hf : ∀ t, (f t).kept = t.kept) (s : State) :
    s.kept.Upheld i (s.svcTx f).kept := by
  unfold State.svcTx
  split
  · exact noteDone_upheld i (hf _)
  · exact .refl i _
theorem svcRead_upheld (i : Instr) (code : Byte) (avail : Bool) (x : SvcRead) (data : List Byte) (s : State) :
    s.kept.Upheld i (s.svcRead code avail x data).kept :=
  svcTx_upheld i (fun _ => keeps_if (svcRefuse_kept ..) (svcSend_kept ..)) s
theorem svcWindow_upheld (i : Instr) (code : Byte) (stop : Bool) {f : State → State} (hf : ∀ t, (f t).kept = t.kept)
    (s : State) : s.kept.Upheld i (s.svcWindow code stop f).kept := by
  refine svcTx_upheld i (fun t => ?_) s
  split
  · exact svcRefuseIgnore_kept ..
  · split
    · rfl
    · exact hf t

theorem regAddr_upholds (x : RegAddrXfer) (s : State) : Upholds (.regAddr x) (execRegAddr x s) s := by
  refine upholds_next ?_
  split
  · exact svcRead_upheld ..
  · refine svcTx_upheld _ (fun t => ?_) _
    split
    · exact svcRefuseIgnore_kept ..
    · exact svcWrite_kept _ _ _ _ (fun _ _ => by rfl) _
theorem regData_upholds (x : SvcRead) (s : State) : Upholds (.regData x) (execRegData x s) s := by
  refine upholds_next ?_
  split
  · exact svcTx_upheld _ svcRefuse_kept _
  · dsimp only
    split <;> exact svcRead_upheld ..
theorem undefinedCommand_upholds (code : Byte) (s : State) :
    Upholds (.svcUndefinedCommand code) (execSvcUndefinedCommand code s) s := by
  refine upholds_next ?_
  split
  · exact .refl _ _
  · refine svcTx_upheld _ (fun t => ?_) _
    split
    · rfl
    · exact svcRefuse_kept _
theorem lockInstall_upholds (w : SvcWrite) (s : State) : Upholds (.lockInstall w) (execLockInstall w s) s := by
  refine upholds_next (svcWindow_upheld _ _ _ (svcWrite_kept _ _ _ _ fun d u => ?_) _)
  split
  · rfl
  · exact svcEvent_kept ..
theorem imgData_upholds (w : SvcWrite) (s : State) : Upholds (.imgData w) (execImgData w s) s := by
  refine upholds_next (svcWindow_upheld _ _ _ (fun t => ?_) _)
  dsimp only
  split
  · exact svcRefuse_kept _
  · refine svcWrite_kept _ _ _ _ (fun d u => ?_) _
    split <;> rfl

/-! ### Notices (R420 to R422) -/

theorem noticeStart_upholds (s : State) : Upholds .svcNoticeStart (execSvcNoticeStart s) s :=
  upholds_guard fun _ => noteDone_upheld _ rfl
theorem noticeNak_upholds (s : State) : Upholds .svcNoticeNak (execSvcNoticeNak s) s := by
  refine upholds_guard fun _ => ?_
  split
  · refine upheld_congr (svcEvent_kept ..) ?_
    exact { Kept.Upheld.refl _ s.kept with notice := fun _ => ⟨Nat.zero_le _, fun _ => Nat.zero_lt_succ _⟩ }
  · rename_i hmore
    exact { Kept.Upheld.refl _ s.kept with notice := fun h => ⟨h.1, fun _ => Nat.lt_of_not_le hmore⟩ }
theorem noticeRetry_upholds (s : State) : Upholds .svcNoticeRetry (execSvcNoticeRetry s) s := by
  refine upholds_guard fun hwait => ?_
  have hw : s.svc.noteWait = true := by simp_all
  exact { Kept.Upheld.refl _ s.kept with notice := fun h => ⟨h.2 hw, nofun⟩ }

/-! ### Every command -/

theorem exec_upholds_of_touches {i : Instr} (htouch : touchesKept i = true) (s : State) : Upholds i (exec i s) s := by
  cases i <;> cases htouch
  case powerUp => exact powerUp_upholds _ _ _
  case kilnAttempt => exact kilnAttempt_upholds _ _ _
  case strapResistorSampling => exact sampling_upholds _ _
  case slip => exact slip_upholds _
  case phantomUndervoltage => exact undervoltage_upholds _ _
  case phantomOvervoltage => exact overvoltage_upholds _ _
  case parityScan => exact parityScan_upholds _ _
  case svcStartStop => exact upholds_next (noteDone_upheld _ rfl)
  case svcUndefinedCommand => exact undefinedCommand_upholds _ _
  case ident => exact upholds_next (svcRead_upheld ..)
  case status => exact upholds_next (svcRead_upheld ..)
  case start => exact upholds_next (svcRead_upheld ..)
  case straps => exact upholds_next (svcRead_upheld ..)
  case serial => exact upholds_next (svcRead_upheld ..)
  case ports => exact upholds_next (svcRead_upheld ..)
  case power => exact upholds_next (svcRead_upheld ..)
  case events => exact upholds_next (svcRead_upheld ..)
  case eventsClr => exact upholds_next (svcTx_upheld _ (svcWrite_kept _ _ _ _ clearSvc_keeps) _)
  case regAddr => exact regAddr_upholds _ _
  case regData => exact regData_upholds _ _
  case counter => exact upholds_next (svcRead_upheld ..)
  case lockInstall => exact lockInstall_upholds _ _
  case lockBlowEnd => exact lockBlowEnd_upholds _ _
  case imgData => exact imgData_upholds _ _
  case imgPageWriteEnd => exact pageWriteEnd_upholds _ _
  case imgRead => exact upholds_next (svcWindow_upheld _ _ _ (fun t => keeps_if (svcRefuse_kept t) (by rfl)) _)
  case imgErase => exact upholds_next (svcWindow_upheld _ _ _ (svcWrite_kept _ _ _ _ fun _ _ => by rfl) _)
  case imgEraseEnd => exact eraseEnd_upholds _
  case imgFlashTimeout => exact flashTimeout_upholds _
  case imgOpen => exact upholds_next (svcWindow_upheld _ _ _ (svcWrite_kept _ _ _ _ fun _ _ => by rfl) _)
  case imgClose => exact upholds_next (svcWindow_upheld _ _ _ (svcWrite_kept _ _ _ _ fun _ _ => by rfl) _)
  case imgState => exact upholds_next (svcWindow_upheld _ _ _ (fun t => keeps_if (svcRefuse_kept t) (by rfl)) _)
  case svcNoticeStart => exact noticeStart_upholds _
  case svcNoticeNak => exact noticeNak_upholds _
  case svcNoticeRetry => exact noticeRetry_upholds _

theorem exec_upholds (i : Instr) (s : State) : Upholds i (exec i s) s := by
  cases htouch : touchesKept i with
  | false => exact fun t ht => upheld_of_kept (exec_kept htouch s t ht)
  | true => exact exec_upholds_of_touches htouch s

/-! ### The frames over the whole machine -/

theorem inv_iff_kept (s : State) : s.Inv ↔ Memory.wf s.kept.flash = true ∧ s.kept.attempts ≤ 3 ∧
    (s.kept.noteRetries ≤ 3 ∧ (s.kept.noteWait = true → s.kept.noteRetries < 3)) :=
  ⟨fun h => ⟨h.flash, h.kiln, h.notice, h.retry⟩, fun ⟨hf, hk, hn, hr⟩ => ⟨hf, hk, hn, hr⟩⟩

theorem Kept.Upheld.inv {i : Instr} {s t : State} (h : s.kept.Upheld i t.kept) (hs : s.Inv) : t.Inv := by
  rw [inv_iff_kept] at hs ⊢
  obtain ⟨hflash, hkiln, hnotice⟩ := hs
  exact ⟨h.flashWf hflash, h.attempts hkiln, h.notice hnotice⟩

/-- Settles O5: a step is a command on the queue's rest, and every command upholds the invariant. -/
theorem stepKeepsInvariant : Obligations.StepKeepsInvariant := by
  intro s t hs ht
  unfold step at ht
  split at ht
  · cases ht
    exact hs
  · exact (exec_upholds _ _ t ht).inv ⟨hs.flash, hs.kiln, hs.notice, hs.retry⟩

/-- Settles O2. -/
theorem commandsKeepQueue : Obligations.CommandsKeepQueue := fun i s t ht => (exec_upholds i s t ht).pending

/-- Settles O6. -/
theorem flashChangesOnlyAtOperationEnd : Obligations.FlashChangesOnlyAtOperationEnd :=
  fun i s t hw ht a => congrArg (flashRead · a) ((exec_upholds i s t ht).flash hw)

theorem and_not_or_self (a b : Word) : a &&& ~~~(a ||| b) = 0#32 := by
  ext k hk
  simp only [BitVec.getElem_and, BitVec.getElem_not, BitVec.getElem_or, BitVec.getElem_zero]
  cases a[k] <;> rfl
theorem or_xor_self_and_not_seven (a : Word) (c : BitVec 3) : ((a ||| c.setWidth 32) ^^^ a) &&& ~~~7#32 = 0#32 := by
  apply BitVec.eq_of_getLsbD_eq
  intro k hk
  by_cases h3 : k < 3
  · interval_cases k <;> simp
  · simp [BitVec.getLsbD_of_ge c k (by omega)]
theorem lockBlown_or (a : Word) (c : BitVec 3) (h : lockBlown a = true) : lockBlown (a ||| c.setWidth 32) = true := by
  have hbits : (a ||| c.setWidth 32).extractLsb' 0 3 = a.extractLsb' 0 3 ||| c := by
    ext k hk
    simp [Nat.lt_trans hk, BitVec.getLsbD_eq_getElem hk]
  have hmono : ∀ x y : BitVec 3, 2 ≤ popcount x → 2 ≤ popcount (x ||| y) := by decide
  simp only [lockBlown, decide_eq_true_eq] at h ⊢
  rw [hbits]
  exact hmono _ _ h

/-- Settles O7: word 3 is joined with fuses of INSTALL_LOCK, and no other word is set. -/
theorem fusesOnlyGain : Obligations.FusesOnlyGain := by
  intro i s t ht
  have hup := exec_upholds i s t ht
  obtain ⟨c, hc⟩ : ∃ c : BitVec 3, t.boot.fuseArray = s.boot.fuseArray.set 3 (s.boot.fuseArray[3] ||| c.setWidth 32) :=
    hup.fuses
  have hword : t.boot.fuseArray[3] = s.boot.fuseArray[3] ||| c.setWidth 32 := by simp [hc]
  refine ⟨fun w hw => ?_, ?_, ?_, fun h => ?_, hup.unblown⟩
  · have hne : (3 : Nat) ≠ w.val := fun h => hw (Fin.ext h.symm)
    simp [hc, hne]
  · rw [hword]
    exact and_not_or_self _ _
  · rw [hword]
    exact or_xor_self_and_not_seven _ _
  · rw [hword]
    exact lockBlown_or _ _ h

/-- Settles O8. -/
theorem shadowAndStrapsFrame : Obligations.ShadowAndStrapsFrame :=
  ⟨fun i s t hl ht => (exec_upholds i s t ht).image hl, fun i s t hl ht => (exec_upholds i s t ht).straps hl⟩

/-! ### The step, and the state after reset -/

/-- Settles O1. -/
theorem stepRunsFrontCommand : Obligations.StepRunsFrontCommand := by
  constructor
  · intro i rest s h
    simp only [step, h]
  · intro s h
    simp only [step, h]

/-- Settles O3. -/
theorem resetIsUnpowered : Obligations.ResetIsUnpowered := by
  refine ⟨rfl, rfl, rfl, rfl, rfl, rfl, rfl, rfl, rfl, rfl, fun p => ?_, fun r => ?_, fun g => ?_, fun _ => rfl⟩
  · exact Vector.getElem_replicate _
  · exact Vector.getElem_replicate _
  · exact Vector.getElem_replicate _

/-- Settles O4. -/
theorem resetKeepsInvariant : Obligations.ResetKeepsInvariant where
  flash := rfl
  kiln := Nat.zero_le _
  notice := Nat.zero_le _
  retry := nofun

end Sys2Proof.Machine
end

section
/-! SUPPORT. The transactions of the service port (15 R398 to R419): what an open port makes of one, a write that carries its
matching PEC byte, and a code that is refused. -/

namespace Sys2Proof.Machine

/-! ### An open port -/

/-- The service port as it takes one transaction (Table 15.8). -/
def Svc.taken (v : Svc) : Svc := { v.noteDone with transactions := satInc v.transactions, addressed := false }

theorem svcTx_of_open {s : State} (h : s.svcOpen = true) (f : State → State) : s.svcTx f = f { s with svc := s.svc.taken } :=
  if_pos h

@[simp] theorem Svc.noteDone_regAddr (v : Svc) : v.noteDone.regAddr = v.regAddr := by unfold Svc.noteDone; split <;> rfl
@[simp] theorem Svc.noteDone_busy (v : Svc) : v.noteDone.busy = v.busy := by unfold Svc.noteDone; split <;> rfl
@[simp] theorem Svc.noteDone_session (v : Svc) : v.noteDone.session = v.session := by unfold Svc.noteDone; split <;> rfl
@[simp] theorem Svc.noteDone_pointer (v : Svc) : v.noteDone.pointer = v.pointer := by unfold Svc.noteDone; split <;> rfl
@[simp] theorem Svc.noteDone_events (v : Svc) : v.noteDone.events = v.events := by unfold Svc.noteDone; split <;> rfl
@[simp] theorem Svc.taken_regAddr (v : Svc) : v.taken.regAddr = v.regAddr := v.noteDone_regAddr
@[simp] theorem Svc.taken_busy (v : Svc) : v.taken.busy = v.busy := v.noteDone_busy
@[simp] theorem Svc.taken_session (v : Svc) : v.taken.session = v.session := v.noteDone_session
@[simp] theorem Svc.taken_pointer (v : Svc) : v.taken.pointer = v.pointer := v.noteDone_pointer
@[simp] theorem Svc.taken_events (v : Svc) : v.taken.events = v.events := v.noteDone_events
@[simp] theorem Svc.taken_transactions (v : Svc) : v.taken.transactions = satInc v.transactions := rfl
/-- An open port ignores nothing once the notice on the bus has ended. -/
theorem taken_untilStop {s : State} (h : s.svcOpen = true) : s.svc.taken.untilStop = false := by
  unfold State.svcOpen at h
  cases hn : s.svc.noteSending <;> simp_all [Svc.taken, Svc.noteDone]

/-- The bytes that a read of `n` bytes takes: the data, PEC over the transaction, then 0xFF (R403). -/
def State.answer (s : State) (code : Byte) (data : List Byte) (n : Nat) : List Byte :=
  (data ++ [pec ([s.svcAddr, code, s.svcAddr + 1] ++ data)] ++ List.replicate n 0xFF#8).take n

theorem svcRead_of_open {s : State} (h : s.svcOpen = true) (code : Byte) (n : Nat) (data : List Byte) :
    s.svcRead code true { n := n } data =
      { s with svc := { s.svc.taken with out := s.answer code data n, acked := true } } := svcTx_of_open h _

/-! ### A write with its PEC byte (R402, R404) -/

/-- The write of a command's bytes with the PEC byte that matches them, ended by STOP. -/
def State.pecWrite (s : State) (code : Byte) (bs : List Byte) : SvcWrite :=
  { bytes := bs ++ [pec ([s.svcAddr, code] ++ bs)], stop := true }

theorem checkWrite_of_pec (pre bs : List Byte) (must : Bool) :
    checkWrite pre bs.length must { bytes := bs ++ [pec (pre ++ bs)], stop := true } = .ok bs := by
  simp [checkWrite]

theorem svcWrite_of_pec (s : State) (code : Byte) (bs : List Byte) (must : Bool) (f : List Byte → State → State) :
    s.svcWrite code bs.length must (s.pecWrite code bs) f = f bs { s with svc := { s.svc with out := [], acked := true } } := by
  have h := checkWrite_of_pec [s.svcAddr, code] bs (must || s.pecRequired)
  unfold State.svcWrite
  have h' : checkWrite [(s.modSvc fun v => { v with out := [] }).svcAddr, code] bs.length
      (must || (s.modSvc fun v => { v with out := [] }).pecRequired) (s.pecWrite code bs) = .ok bs := h
  simp only [h']
  rfl

/-! ### Window commands (R401, R411, R417) -/

theorem codeClass_taken (s : State) (code : Byte) :
    ({ s with svc := s.svc.taken } : State).codeClass code = s.codeClass code := by
  simp [State.codeClass, State.serving, State.released, State.countersOpen, State.windowAllowed, State.installLock]

theorem svcWindow_of_available {s : State} (h : s.svcOpen = true) {code : Byte} (hc : s.codeClass code = true)
    (hb : s.svc.busy = .none) (stop : Bool) (f : State → State) :
    s.svcWindow code stop f = f { s with svc := s.svc.taken } := by
  refine (svcTx_of_open h _).trans ?_
  simp [codeClass_taken, hc, State.svcBusy, hb]

/-- A window command written with its PEC byte is carried out where it is available. -/
theorem svcWindow_pecWrite {s : State} (h : s.svcOpen = true) {code : Byte} (hc : s.codeClass code = true)
    (hb : s.svc.busy = .none) (bs : List Byte) (must : Bool) (f : List Byte → State → State) :
    s.svcWindow code true (fun t => t.svcWrite code bs.length must (s.pecWrite code bs) f) =
      f bs { s with svc := { s.svc.taken with out := [], acked := true } } := by
  rw [svcWindow_of_available h hc hb]
  exact svcWrite_of_pec { s with svc := s.svc.taken } code bs must f

/-- A window command that is not available, or that finds an operation in progress (R401, R417). -/
theorem svcWindow_refused {s : State} (h : s.svcOpen = true) (code : Byte) (stop : Bool) (f : State → State)
    (hr : s.codeClass code = false ∨ s.svc.busy ≠ .none) : s.svcWindow code stop f =
      if s.codeClass code then ({ s with svc := s.svc.taken } : State).svcNak.svcIgnore stop
      else ({ s with svc := s.svc.taken } : State).svcRefuse.svcIgnore stop := by
  refine (svcTx_of_open h _).trans ?_
  cases hc : s.codeClass code with
  | false => simp [codeClass_taken, hc]
  | true =>
    have hb : s.svc.busy ≠ .none := by simpa [hc] using hr
    simp [codeClass_taken, hc, State.svcBusy, hb]

/-- CMD_ERR leaves the rest of the service port, and of the machine but its attention unit and counters. -/
theorem svcRefuse_form (s : State) : ∃ a c e, s.svcRefuse =
    { s with att := a, cnt := c, boot := { s.boot with early := e },
             svc := { s.svc with out := [], acked := false, events := s.svc.events ||| oneBit 11 4 } } := by
  obtain ⟨a, c, e, n, h, hn⟩ := svcEvent_form 4 s.svcNak
  have hn : n = s.svc.noteDue := hn rfl
  subst hn
  exact ⟨a, c, e, h⟩

end Sys2Proof.Machine
end

section
/-! SUPPORT. What the service port answers and refuses (15 R401 to R417). -/

namespace Sys2Proof.Machine

/-! ### The data bytes of the answers -/

theorem eventBytes (e : BitVec 11) : cellBytes (e.setWidth 16) = [e.setWidth 8, (e >>> 8).setWidth 8] := by
  simp only [cellBytes, List.cons.injEq, and_true]
  constructor <;> (ext k hk; simp; try omega)
theorem pointerBytes (x : BitVec 16) : cellBytes x = [x.setWidth 8, (x >>> 8).setWidth 8] := by
  simp only [cellBytes, List.cons.injEq, and_true]
  constructor <;> (ext k hk; simp)
theorem imgStateByte (verify flash session : Bool) : byteOf [verify, flash, false, session] =
    (if session then 1#8 else 0#8) ||| (if flash then 4#8 else 0#8) ||| (if verify then 8#8 else 0#8) := by
  cases verify <;> cases flash <;> cases session <;> rfl

/-- What an answer shows of its data bytes. -/
theorem answer_take (s : State) (code : Byte) (data : List Byte) (n : Nat) :
    (s.answer code data n).take data.length = data.take n := by
  unfold State.answer
  rw [List.take_take, Nat.min_comm, ← List.take_take, List.append_assoc, List.take_left]
theorem answer_getElem? (s : State) (code : Byte) (data : List Byte) {n k : Nat} (hk : k < n) (hd : k < data.length) :
    (s.answer code data n)[k]? = data[k]? := by
  unfold State.answer
  rw [List.getElem?_take_of_lt hk, List.append_assoc, List.getElem?_append_left hd]

/-! ### Reads -/

theorem svcRead_available {s : State} (h : s.svcOpen = true) {avail : Bool} (ha : avail = true) (code : Byte) (n : Nat)
    (data : List Byte) : s.svcRead code avail { n := n } data = { s with svc := { s.svc.taken with
      regAddr := s.svc.regAddr, out := s.answer code data n, acked := true } } := by
  subst ha
  rw [svcRead_of_open h, ← s.svc.taken_regAddr]

theorem exec_counter {s : State} (h : s.svcOpen = true) (hc : s.countersOpen = true) (i : Fin 32) (n : Nat) :
    exec (.counter i { n := n }) s = .next { s with svc := { s.svc.taken with
      regAddr := s.svc.regAddr
      out := s.answer (BitVec.ofNat 8 (0x20 + i.val)) ((List.range 6).map (fun k => s.cnt.vals[i].extractLsb' (8 * k) 8)) n
      acked := true } } := congrArg Host.Outcome.next (svcRead_available h hc _ _ _)

theorem exec_regData {s : State} (h : s.svcOpen = true) (hs : s.serving = true) {r : Reg} (hr : s.regDataReg = some r) (n : Nat) :
    exec (.regData { n := n }) s = .next { s with svc := { s.svc.taken with
      regAddr := s.svc.regAddr + 4, out := s.answer 0x11 (wordBytes (s.readReg false r)) n, acked := true } } := by
  refine congrArg Host.Outcome.next ?_
  simp only [hr, h, hs, Bool.not_false, Bool.and_self, if_true]
  rw [svcRead_available h rfl]
  rfl

/-! ### Window commands -/

theorem exec_imgState {s : State} (h : s.svcOpen = true) (hc : s.codeClass 0x85 = true) (hb : s.svc.busy = .none) (n : Nat) :
    exec (.imgState { n := n }) s = .next { s with svc := { s.svc.taken with
      out := s.answer 0x85 ([byteOf [s.svc.events.getLsbD 9, s.svc.events.getLsbD 8, false, s.svc.session], 0#8] ++
        cellBytes s.svc.pointer) n
      acked := true } } := by
  refine congrArg Host.Outcome.next ((svcWindow_of_available h hc hb _ _).trans ?_)
  have hdata : [byteOf [s.svc.taken.events.getLsbD 9, s.svc.taken.events.getLsbD 8, s.svc.taken.busy != .none,
      s.svc.taken.session], 0#8] ++ cellBytes s.svc.taken.pointer =
      [byteOf [s.svc.events.getLsbD 9, s.svc.events.getLsbD 8, false, s.svc.session], 0#8] ++ cellBytes s.svc.pointer := by
    simp [hb]
  exact congrArg (fun d => { s with svc := { s.svc.taken with out := s.answer 0x85 d n, acked := true } }) hdata

theorem exec_imgRead {s : State} (h : s.svcOpen = true) (hc : s.codeClass 0x81 = true) (hb : s.svc.busy = .none) (n : Nat) :
    exec (.imgRead { n := n }) s = .next { s with svc := { s.svc.taken with
      out := s.answer 0x81 (0x20#8 :: (List.range 32).map (fun k => flashRead s.flash ((s.svc.pointer.toNat + k) % 65536))) n
      pointer := s.svc.pointer + BitVec.ofNat 16 (min 32 (n - 1))
      acked := true } } := by
  refine congrArg Host.Outcome.next ((svcWindow_of_available h hc hb _ _).trans ?_)
  exact congrArg (fun a => { s with svc := { s.svc.taken with
    out := s.answer 0x81 (0x20#8 :: (List.range 32).map (fun k => flashRead s.flash ((a.toNat + k) % 65536))) n
    pointer := a + BitVec.ofNat 16 (min 32 (n - 1))
    acked := true } }) s.svc.taken_pointer

/-- IMG_DATA with a count that its page takes. -/
theorem exec_imgData {s : State} (h : s.svcOpen = true) (hc : s.codeClass 0x80 = true) (hb : s.svc.busy = .none)
    (lo hi : Byte) (data : List Byte) (hlen : data.length ≤ 64)
    (hpage : data.length = 0 ∨ (BitVec.ofNat 16 (leNat [lo, hi])).toNat % 64 + data.length ≤ 64) :
    exec (.imgData (s.pecWrite 0x80 ([lo, hi, BitVec.ofNat 8 data.length] ++ data))) s =
      .next (if data.length = 0 then
          { s with svc := { s.svc.taken with out := [], acked := true, pointer := BitVec.ofNat 16 (leNat [lo, hi]) } }
        else { s with svc := { s.svc.taken with
          out := [], acked := true, busy := .page (BitVec.ofNat 16 (leNat [lo, hi])) data,
          pointer := BitVec.ofNat 16 (leNat [lo, hi]) + BitVec.ofNat 16 data.length } }) := by
  have hcount : (BitVec.ofNat 8 data.length).toNat = data.length := by
    rw [BitVec.toNat_ofNat]
    omega
  have hgood : (data.length != 0 && countBad (BitVec.ofNat 16 (leNat [lo, hi])) data.length) = false := by
    simp only [countBad, bne, Bool.and_eq_false_iff, Bool.not_eq_false', beq_iff_eq, Bool.or_eq_false_iff, decide_eq_false_iff_not]
    omega
  obtain ⟨w, hw⟩ : ∃ w, w = s.pecWrite 0x80 ([lo, hi, BitVec.ofNat 8 data.length] ++ data) := ⟨_, rfl⟩
  have hptr : w.bytes.take 2 = [lo, hi] := by simp [hw, State.pecWrite]
  have hn : (w.bytes.getD 2 0).toNat = data.length := by simpa [hw, State.pecWrite] using hcount
  rw [← hw]
  refine congrArg Host.Outcome.next ((svcWindow_of_available h hc hb _ _).trans ?_)
  simp only [hptr, hn, Bool.and_assoc, hgood, Bool.and_false, Bool.false_eq_true, if_false]
  have hlen3 : 3 + data.length = ([lo, hi, BitVec.ofNat 8 data.length] ++ data).length := by simp; omega
  rw [hlen3, hw]
  refine (svcWrite_of_pec { s with svc := s.svc.taken } 0x80 _ _ _).trans ?_
  split <;> rfl

/-- Settles O10: each read is `svcRead` on an open port, and each window command carries its PEC byte. -/
theorem serviceCommandsAnswer : Obligations.ServiceCommandsAnswer := by
  intro s n hopen
  dsimp only
  have hread (avail : Bool) (ha : avail = true) (code : Byte) (data : List Byte) :
      (Host.Outcome.next (s.svcRead code avail { n := n } data) : Out) = .next { s with svc := { s.svc.taken with
        regAddr := s.svc.regAddr, out := s.answer code data n, acked := true } } :=
    congrArg Host.Outcome.next (svcRead_available hopen ha _ _ _)
  refine ⟨⟨hread _ rfl _ _, hread _ rfl _ _, hread _ rfl _ _, hread _ rfl _ _, hread _ rfl 0x04 _, ?_⟩,
    fun hserving => ⟨hread _ hserving 0x05 _, hread _ hserving _ _, hread _ hserving 0x10 _, fun i hawake => ?_, fun r hr => ?_⟩,
    fun lo hi data hbusy => ⟨fun hallowed => ⟨?_, ?_, ?_⟩, fun hsession => ⟨?_, ?_, fun hdata => ?_, ?_, ?_⟩⟩⟩
  · rw [← eventBytes]
    exact hread _ rfl 0x08 _
  · have hcode : BitVec.ofNat 8 (0x20 + i.val) = 0x20 + BitVec.ofNat 8 i.val := BitVec.ofNat_add _ _
    rw [← hcode]
    exact exec_counter hopen (by simp [State.countersOpen, hserving, hawake]) i n
  · exact exec_regData hopen hserving hr n
  · exact congrArg Host.Outcome.next (svcWindow_pecWrite hopen (code := 0x83) hallowed hbusy [] false _)
  · exact congrArg Host.Outcome.next (svcWindow_pecWrite hopen (code := 0x40) hallowed hbusy [0x4C, 0x4B] true _)
  · refine ⟨_, exec_imgState hopen hallowed hbusy n, rfl, s.svc.taken_pointer, ?_, rfl, s.svc.taken_session⟩
    rw [imgStateByte, pointerBytes]
    exact answer_take s 0x85 [_, _, _, _] n
  · exact congrArg Host.Outcome.next (svcWindow_pecWrite hopen (code := 0x84) hsession hbusy [] false _)
  · exact congrArg Host.Outcome.next (svcWindow_pecWrite hopen (code := 0x82) hsession hbusy [lo, hi] true _)
  · obtain ⟨hpos, hle, hpage⟩ := hdata
    have hne : data.length ≠ 0 := by omega
    exact (exec_imgData hopen hsession hbusy lo hi data hle (.inr hpage)).trans (congrArg Host.Outcome.next (if_neg hne))
  · exact exec_imgData hopen hsession hbusy lo hi [] (Nat.zero_le _) (.inl rfl)
  · refine ⟨_, exec_imgRead hopen hsession hbusy n, rfl, fun k hk hkn => ?_, fun hn => ?_, rfl⟩
    · refine (answer_getElem? _ _ _ hkn (by simp; omega)).trans ?_
      simp [hk]
    · exact answer_getElem? _ _ _ hn (by simp)

end Sys2Proof.Machine
end

section
/-! SUPPORT. What the service port refuses (15 R401 to R403, R413, R417) and the table of R402. -/

namespace Sys2Proof.Machine

/-! ### Refusals -/

/-- A window command refused: its flag, and what of the service port stays. -/
theorem svcWindow_refused_form {s : State} (h : s.svcOpen = true) (code : Byte) (stop : Bool) (f : State → State)
    (hr : s.codeClass code = false ∨ s.svc.busy ≠ .none) : ∃ a c e, s.svcWindow code stop f =
    { s with att := a, cnt := c, boot := { s.boot with early := e },
             svc := { s.svc.taken with
               out := [], acked := false, untilStop := !stop
               events := if s.codeClass code then s.svc.events else s.svc.events ||| oneBit 11 4 } } := by
  have hstop : (s.svc.taken.untilStop || !stop) = !stop := by rw [taken_untilStop h, Bool.false_or]
  rw [svcWindow_refused h code stop f hr]
  cases hc : s.codeClass code with
  | true =>
    refine ⟨s.att, s.cnt, s.boot.early, ?_⟩
    rw [← hstop, ← s.svc.taken_events]
    rfl
  | false =>
    obtain ⟨a, c, e, hform⟩ := svcRefuse_form { s with svc := s.svc.taken }
    refine ⟨a, c, e, ?_⟩
    rw [← hstop, ← s.svc.taken_events]
    exact congrArg (State.svcIgnore stop) hform

/-- What a statement about a refused window command says. -/
theorem svcWindow_refused_says {s : State} (h : s.svcOpen = true) (code : Byte) (stop : Bool) (f : State → State)
    (hr : s.codeClass code = false ∨ s.svc.busy ≠ .none) :
    let t := s.svcWindow code stop f
    t.svc.acked = false ∧ t.svc.busy = s.svc.busy ∧ t.svc.session = s.svc.session ∧ t.svc.pointer = s.svc.pointer ∧
      t.flash = s.flash ∧ t.ports = s.ports ∧ t.svc.untilStop = !stop ∧
      t.svc.events = if s.codeClass code then s.svc.events else s.svc.events ||| oneBit 11 4 := by
  obtain ⟨a, c, e, hform⟩ := svcWindow_refused_form h code stop f hr
  rw [hform]
  exact ⟨rfl, s.svc.taken_busy, s.svc.taken_session, s.svc.taken_pointer, rfl, rfl, rfl, rfl⟩

/-- A count byte that its page does not take (R413). -/
theorem countBad_of (lo hi k : Byte) (h : 64 < k.toNat ∨ 64 < leNat [lo, hi] % 64 + k.toNat) :
    countBad (BitVec.ofNat 16 (leNat [lo, hi])) k.toNat = true := by
  simp only [countBad, Bool.or_eq_true, decide_eq_true_eq, BitVec.toNat_ofNat]
  omega

theorem exec_imgData_countBad {s : State} (h : s.svcOpen = true) (hc : s.codeClass 0x80 = true) (hb : s.svc.busy = .none)
    {lo hi k : Byte} (hk : k ≠ 0) (hbad : 64 < k.toNat ∨ 64 < leNat [lo, hi] % 64 + k.toNat) (more : List Byte) (stop : Bool) :
    exec (.imgData { bytes := [lo, hi, k] ++ more, stop := stop }) s = .next ({ s with svc := s.svc.taken } : State).svcRefuse := by
  refine congrArg Host.Outcome.next ((svcWindow_of_available h hc hb _ _).trans (if_pos ?_))
  have hk' : (k.toNat != 0) = true := bne_iff_ne.mpr fun h0 => hk (BitVec.eq_of_toNat_eq h0)
  have hlen : decide (2 < ([lo, hi, k] ++ more).length) = true := by simp
  have hcount := countBad_of lo hi k hbad
  simp only [hlen, Bool.true_and]
  exact Bool.and_eq_true_iff.mpr ⟨hk', hcount⟩

/-- Settles O12. -/
theorem serviceRefusals : Obligations.ServiceRefusals := by
  refine ⟨fun s w x hopen => ?_, fun s lo hi k more stop hopen hbusy hsession ⟨hbad, hk⟩ => ?_, fun s code hopen hcode => ?_⟩
  · have hsays (code : Byte) (stop : Bool) (f : State → State) (hr : s.codeClass code = false ∨ s.svc.busy ≠ .none) :=
      svcWindow_refused_says hopen code stop f hr
    refine ⟨fun hr => ⟨_, rfl, hsays 0x83 _ _ hr⟩, fun hr => ⟨_, rfl, hsays 0x85 _ _ hr⟩, fun hr => ⟨_, rfl, hsays 0x40 _ _ hr⟩,
      fun hr => ⟨_, rfl, hsays 0x80 _ _ hr⟩, fun hr => ⟨_, rfl, hsays 0x81 _ _ hr⟩, fun hr => ⟨_, rfl, hsays 0x82 _ _ hr⟩,
      fun hr => ⟨_, rfl, hsays 0x84 _ _ hr⟩⟩
  · obtain ⟨a, c, e, hform⟩ := svcRefuse_form { s with svc := s.svc.taken }
    refine ⟨_, exec_imgData_countBad hopen hsession hbusy hk hbad more stop, ?_⟩
    rw [hform]
    exact ⟨congrArg (· ||| _) s.svc.taken_events, rfl, s.svc.taken_pointer, s.svc.taken_busy.trans hbusy, rfl⟩
  · obtain ⟨a, c, e, hform⟩ := svcRefuse_form { s with svc := s.svc.taken }
    have hexec : exec (.svcUndefinedCommand code) s = .next ({ s with svc := s.svc.taken } : State).svcRefuse := by
      refine congrArg Host.Outcome.next ?_
      simp only [hcode, Bool.false_and, Bool.false_eq_true, if_false]
      refine (svcTx_of_open hopen _).trans ?_
      simp [codeClass_taken, hcode]
    refine ⟨_, hexec, ?_⟩
    rw [hform]
    exact ⟨rfl, rfl, congrArg (· ||| _) s.svc.taken_events, rfl, s.svc.taken_session, s.svc.taken_pointer, s.svc.taken_regAddr, rfl,
      rfl, rfl, rfl⟩

end Sys2Proof.Machine
end

section
/-! SUPPORT. The table of R402, branch by branch, and the two writes that stand outside the image window (15 R402, R403, R405,
R428). -/

namespace Sys2Proof.Machine

/-! ### The table of R402 -/

/-- The byte after the data is the PEC byte of what came before (R404). -/
def pecMatches (pre : List Byte) (len : Nat) (bs : List Byte) : Prop := bs.getD len 0 = pec (pre ++ bs.take len)

/-- The rows of R402 for a write that no read address follows, judged byte by byte. -/
theorem checkWrite_rows (pre : List Byte) (len : Nat) (must : Bool) (bs : List Byte) (stop : Bool) :
    let r := checkWrite pre len must { bytes := bs, stop := stop }
    (len < bs.length → ¬ pecMatches pre len bs → r = .pecErr false) ∧
    (len + 1 < bs.length → pecMatches pre len bs → r = .cmdErr false) ∧
    (bs.length < len → r = .cmdErr true) ∧
    (stop = false → bs.length = len ∨ bs.length = len + 1 ∧ pecMatches pre len bs → r = .cmdErr true) ∧
    (stop = true → bs.length = len → r = if must then .pecErr true else .ok bs) ∧
    (stop = true → bs.length = len + 1 → pecMatches pre len bs → r = .ok (bs.take len)) := by
  unfold pecMatches
  refine ⟨fun hl hp => ?_, fun hl hp => ?_, fun hl => ?_, fun hs hl => ?_, fun hs hl => ?_, fun hs hl hp => ?_⟩
  · have hge : len + 1 ≤ bs.length := hl
    simp only [checkWrite, hge, decide_true, bne, beq_eq_false_iff_ne.mpr hp, Bool.not_false, Bool.and_self, if_true]
  · simp [checkWrite, ← hp, hl]
  · have hge : ¬ len + 1 ≤ bs.length := by omega
    have hmore : ¬ len + 1 < bs.length := by omega
    simp [checkWrite, hge, hmore, hl]
  · rcases hl with hl | ⟨hl, hp⟩
    · simp [checkWrite, hl, hs]
    · simp [checkWrite, ← hp, hl, hs]
  · subst hl
    cases must <;> simp [checkWrite, hs]
  · simp [checkWrite, ← hp, hl, hs]

/-- What a write leaves (R402): its data act, or its flag is set. -/
theorem svcWrite_of_ok {s : State} {code : Byte} {len : Nat} {must : Bool} {w : SvcWrite} {d : List Byte}
    (h : checkWrite [s.svcAddr, code] len (must || s.pecRequired) w = .ok d) (f : List Byte → State → State) :
    s.svcWrite code len must w f = f d { s with svc := { s.svc with out := [], acked := true } } := by
  have h' : checkWrite [(s.modSvc fun v => { v with out := [] }).svcAddr, code] len
      (must || (s.modSvc fun v => { v with out := [] }).pecRequired) w = .ok d := h
  simp only [State.svcWrite, h']
  rfl
theorem svcWrite_of_cmdErr {s : State} {code : Byte} {len : Nat} {must : Bool} {w : SvcWrite} {b : Bool}
    (h : checkWrite [s.svcAddr, code] len (must || s.pecRequired) w = .cmdErr b) (f : List Byte → State → State) :
    ∃ a c e, s.svcWrite code len must w f = { s with
      att := a, cnt := c, boot := { s.boot with early := e },
      svc := { s.svc with out := [], acked := b, events := s.svc.events ||| oneBit 11 4 } } := by
  have h' : checkWrite [(s.modSvc fun v => { v with out := [] }).svcAddr, code] len
      (must || (s.modSvc fun v => { v with out := [] }).pecRequired) w = .cmdErr b := h
  obtain ⟨a, c, e, n, hform, hn⟩ := svcEvent_form 4 { s with svc := { s.svc with out := [], acked := b } }
  obtain rfl : n = s.svc.noteDue := hn rfl
  refine ⟨a, c, e, ?_⟩
  simp only [State.svcWrite, h']
  exact hform
theorem svcWrite_of_pecErr {s : State} {code : Byte} {len : Nat} {must : Bool} {w : SvcWrite} {b : Bool}
    (h : checkWrite [s.svcAddr, code] len (must || s.pecRequired) w = .pecErr b) (f : List Byte → State → State) :
    ∃ a c e, s.svcWrite code len must w f = { s with
      att := a, cnt := c, boot := { s.boot with early := e },
      svc := { s.svc with out := [], acked := b, events := s.svc.events ||| oneBit 11 5 } } := by
  have h' : checkWrite [(s.modSvc fun v => { v with out := [] }).svcAddr, code] len
      (must || (s.modSvc fun v => { v with out := [] }).pecRequired) w = .pecErr b := h
  obtain ⟨a, c, e, n, hform, hn⟩ := svcEvent_form 5 { s with svc := { s.svc with out := [], acked := b } }
  obtain rfl : n = s.svc.noteDue := hn rfl
  refine ⟨a, c, e, ?_⟩
  simp only [State.svcWrite, h']
  exact hform

/-! ### REG_ADDR and EVENTS_CLR -/

/-- What an outcome shows of a write to REG_ADDR: the address, the flags, and whether all its bytes were acknowledged. -/
def RegAddrWritten (s : State) (o : Out) (addr : BitVec 16) (events : BitVec 11) (acked : Bool) : Prop :=
  ∃ t, o = .next t ∧ t.svc.transactions = satInc s.svc.transactions ∧ t.svc.regAddr = addr ∧ t.svc.events = events ∧
    t.svc.acked = acked

theorem exec_regAddrWrite {s : State} (h : s.svcOpen = true) (hs : s.serving = true) (bs : List Byte) (stop : Bool) :
    exec (.regAddr (.write { bytes := bs, stop := stop })) s = .next (({ s with svc := s.svc.taken } : State).svcWrite 0x10 2 false
      { bytes := bs, stop := stop } (fun d u => u.modSvc (fun v => { v with regAddr := BitVec.ofNat 16 (leNat d) }))) := by
  refine congrArg Host.Outcome.next ((svcTx_of_open h _).trans ?_)
  have hs' : ({ s with svc := s.svc.taken } : State).serving = true := hs
  simp [hs']

theorem regAddrWrite_outcome {s : State} (h : s.svcOpen = true) (hs : s.serving = true) (bs : List Byte) (stop : Bool) :
    let o := exec (.regAddr (.write { bytes := bs, stop := stop })) s
    match checkWrite [s.svcAddr, 0x10] 2 s.pecRequired { bytes := bs, stop := stop } with
    | .ok d => RegAddrWritten s o (BitVec.ofNat 16 (leNat d)) s.svc.events true
    | .cmdErr b => RegAddrWritten s o s.svc.regAddr (s.svc.events ||| oneBit 11 4) b
    | .pecErr b => RegAddrWritten s o s.svc.regAddr (s.svc.events ||| oneBit 11 5) b := by
  have hevents (x : BitVec 11) : s.svc.taken.events ||| x = s.svc.events ||| x := by rw [Svc.taken_events]
  dsimp only
  rw [exec_regAddrWrite h hs]
  split
  · rename_i d hd
    rw [svcWrite_of_ok (s := { s with svc := s.svc.taken }) (must := false) hd]
    exact ⟨_, rfl, rfl, rfl, s.svc.taken_events, rfl⟩
  · rename_i b hb
    obtain ⟨a, c, e, hform⟩ := svcWrite_of_cmdErr (s := { s with svc := s.svc.taken }) (must := false) hb
      (fun d u => u.modSvc (fun v => { v with regAddr := BitVec.ofNat 16 (leNat d) }))
    rw [hform]
    exact ⟨_, rfl, rfl, s.svc.taken_regAddr, hevents _, rfl⟩
  · rename_i b hb
    obtain ⟨a, c, e, hform⟩ := svcWrite_of_pecErr (s := { s with svc := s.svc.taken }) (must := false) hb
      (fun d u => u.modSvc (fun v => { v with regAddr := BitVec.ofNat 16 (leNat d) }))
    rw [hform]
    exact ⟨_, rfl, rfl, s.svc.taken_regAddr, hevents _, rfl⟩

theorem leNat_pair (a b : Byte) : (BitVec.ofNat 11 (leNat [a, b]) : BitVec 11) =
    (b.setWidth 16 <<< 8 ||| a.setWidth 16 : BitVec 16).setWidth 11 := by
  have ha : a.toNat < 2 ^ 8 := a.isLt
  have hb : b.toNat < 2 ^ 8 := b.isLt
  have hor : (b.setWidth 16 <<< 8 ||| a.setWidth 16 : BitVec 16).toNat = b.toNat <<< 8 ||| a.toNat := by
    simp only [BitVec.toNat_or, BitVec.toNat_shiftLeft, BitVec.toNat_setWidth, Nat.shiftLeft_eq]
    rw [Nat.mod_eq_of_lt (show b.toNat < 2 ^ 16 by omega), Nat.mod_eq_of_lt (show a.toNat < 2 ^ 16 by omega),
      Nat.mod_eq_of_lt (by omega)]
  apply BitVec.eq_of_toNat_eq
  rw [BitVec.toNat_setWidth, hor, ← Nat.shiftLeft_add_eq_or_of_lt ha, Nat.shiftLeft_eq, BitVec.toNat_ofNat]
  simp only [leNat]
  omega

/-- EVENTS_CLR with its two bytes and a STOP. -/
theorem exec_eventsClr {s : State} (h : s.svcOpen = true) (hp : s.pecRequired = false) (a b : Byte) :
    exec (.eventsClr { bytes := [a, b], stop := true }) s = .next (({ s with svc := { s.svc.taken with
      out := [], acked := true } } : State).clearSvc (BitVec.ofNat 11 (leNat [a, b]))) := by
  refine congrArg Host.Outcome.next ((svcTx_of_open h _).trans ?_)
  have hok : checkWrite [s.svcAddr, 0x09] 2 (false || s.pecRequired) { bytes := [a, b], stop := true } = .ok [a, b] := by
    rw [hp]
    exact (checkWrite_rows [s.svcAddr, 0x09] 2 false [a, b] true).2.2.2.2.1 rfl rfl
  exact svcWrite_of_ok (s := { s with svc := s.svc.taken }) (must := false) hok _

/-- EVENTS_CLR with a read address after at most its two bytes (R403). -/
theorem checkWrite_readAddr (pre bs : List Byte) (len : Nat) (must : Bool) (h : bs.length ≤ len) :
    checkWrite pre len must { bytes := bs, stop := false, readAddr := true } = .cmdErr false := by
  have hge : ¬ len + 1 ≤ bs.length := by omega
  have hmore : ¬ len + 1 < bs.length := by omega
  simp [checkWrite, hge, hmore]

/-- Settles O11: a write of REG_ADDR lies in one row of R402, and that row says what it leaves. -/
theorem serviceWriteRules : Obligations.ServiceWriteRules := by
  refine ⟨fun s bs stop hopen hserving => ?_, fun s bs hopen hlen => ?_, fun s a b hopen hpec => ?_⟩
  · obtain ⟨hbad, hlong, hshort, hcut, hbare, hgood⟩ := checkWrite_rows [s.svcAddr, 0x10] 2 s.pecRequired bs stop
    have hout := regAddrWrite_outcome hopen hserving bs stop
    have hiff : (bs.getD 2 0 = pec ([s.svcAddr, 0x10] ++ bs.take 2)) = pecMatches [s.svcAddr, 0x10] 2 bs := rfl
    dsimp only at hout ⊢
    rw [hiff]
    generalize exec (.regAddr (.write { bytes := bs, stop := stop })) s = o at hout ⊢
    generalize hr : checkWrite [s.svcAddr, 0x10] 2 s.pecRequired { bytes := bs, stop := stop } = r at *
    have htake : bs.length = 2 → bs.take 2 = bs := fun h => List.take_of_length_le h.le
    cases r with
    | ok d =>
      obtain ⟨t, ho, hcount, haddr, hev, hack⟩ := hout
      exact ⟨t, ho, hcount, by grind⟩
    | cmdErr acked =>
      obtain ⟨t, ho, hcount, haddr, hev, hack⟩ := hout
      exact ⟨t, ho, hcount, by grind⟩
    | pecErr acked =>
      obtain ⟨t, ho, hcount, haddr, hev, hack⟩ := hout
      exact ⟨t, ho, hcount, by grind⟩
  · obtain ⟨a, c, e, hform⟩ := svcWrite_of_cmdErr (s := { s with svc := s.svc.taken }) (must := false)
      (checkWrite_readAddr [s.svcAddr, 0x09] bs 2 (false || s.pecRequired) hlen)
      (fun d u => u.clearSvc (BitVec.ofNat 11 (leNat d)))
    refine ⟨_, congrArg Host.Outcome.next ((svcTx_of_open hopen _).trans hform), ?_, rfl, s.svc.taken_regAddr⟩
    exact congrArg (· ||| _) s.svc.taken_events
  · refine ⟨_, exec_eventsClr hopen hpec a b, ?_, s.svc.taken_regAddr, s.svc.taken_pointer, s.svc.taken_session, rfl, rfl, rfl, rfl⟩
    rw [← leNat_pair]
    exact congrArg (· &&& _) s.svc.taken_events

end Sys2Proof.Machine
end

section
/-! SUPPORT. How an operation on the flash or the lock fuses ends (15 R413 to R419), and the service bus (R401, R408, R409,
R420 to R425). -/

namespace Sys2Proof.Machine

/-! ### The end of an operation -/

theorem saveAtt_form (s : State) : ∃ a, s.saveAtt = { s with att := a } := by
  unfold State.saveAtt
  split
  · exact ⟨_, rfl⟩
  · exact ⟨_, rfl⟩

/-- BUSY clears, a session that closes ends, and nothing else happens where no Deep waits (R414, R418). -/
theorem opEnd_of_no_wait {s : State} (h : s.dev.deepWait = false) : s.opEnd =
    { s with svc := { s.svc with busy := .none, session := s.svc.session && !s.svc.closing, closing := false } } := by
  unfold State.opEnd
  rw [if_neg (by simpa using h)]
  rfl

/-- What an operation's end leaves of the device: Deep where it waited, else the device as it was. -/
structure OpEnded (s t : State) : Prop where
  busy : t.svc.busy = .none
  deep : s.dev.deepWait = true → t.dev.st = .deep ∧ t.dev.deepWait = false ∧ t.svc.session = false
  awake : s.dev.deepWait = false → t.dev = s.dev ∧ t.svc.session = (s.svc.session && !s.svc.closing) ∧ t.ports = s.ports

theorem opEnd_ended (s : State) : OpEnded s s.opEnd := by
  cases h : s.dev.deepWait with
  | true =>
    have hdeep : s.opEnd = (s.modSvc fun v =>
        { v with busy := .none, session := v.session && !v.closing, closing := false }).enterDeep := if_pos h
    obtain ⟨a, hsave⟩ := saveAtt_form (s.modSvc fun v =>
        { v with busy := .none, session := v.session && !v.closing, closing := false })
    rw [hdeep]
    unfold State.enterDeep
    rw [hsave]
    exact ⟨rfl, fun _ => ⟨rfl, rfl, rfl⟩, fun hn => by simp [h] at hn⟩
  | false =>
    rw [opEnd_of_no_wait h]
    exact ⟨rfl, fun hy => by simp [h] at hy, fun _ => ⟨rfl, rfl, rfl⟩⟩

/-- What the end of an operation leaves alone, Deep or not: the flash, the bedrock and the service port but its session. -/
theorem opEnd_form (s : State) : ∃ session, s.opEnd.flash = s.flash ∧ s.opEnd.boot = s.boot ∧
    s.opEnd.svc = { s.svc with busy := .none, session := session, closing := false } := by
  cases h : s.dev.deepWait with
  | true =>
    have hdeep : s.opEnd = (s.modSvc fun v =>
        { v with busy := .none, session := v.session && !v.closing, closing := false }).enterDeep := if_pos h
    obtain ⟨a, hsave⟩ := saveAtt_form (s.modSvc fun v =>
        { v with busy := .none, session := v.session && !v.closing, closing := false })
    rw [hdeep]
    unfold State.enterDeep
    rw [hsave]
    exact ⟨false, rfl, rfl, rfl⟩
  | false =>
    rw [opEnd_of_no_wait h]
    exact ⟨_, rfl, rfl, rfl⟩

/-- The end of an operation that its event precedes: what the service port shows then, the device and the flash. -/
theorem svcEvent_opEnd (b : Fin 11) (s : State) : OpEnded s (s.svcEvent b).opEnd ∧
    (s.svcEvent b).opEnd.flash = s.flash ∧ (∃ e, (s.svcEvent b).opEnd.boot = { s.boot with early := e }) ∧
    (s.svcEvent b).opEnd.svc.events = s.svc.events ||| oneBit 11 b ∧ (s.svcEvent b).opEnd.svc.pages = s.svc.pages ∧
    (s.svcEvent b).opEnd.svc.pointer = s.svc.pointer := by
  obtain ⟨a, c, e, n, hform, -⟩ := svcEvent_form b s
  obtain ⟨hbusy, hdeep, hawake⟩ := opEnd_ended (s.svcEvent b)
  obtain ⟨session, hflash, hboot, hsvc⟩ := opEnd_form (s.svcEvent b)
  rw [hform] at hbusy hdeep hawake hflash hboot hsvc ⊢
  rw [hsvc]
  exact ⟨⟨hbusy, hdeep, hawake⟩, hflash, ⟨e, hboot⟩, rfl, rfl, rfl⟩

/-! ### Page write, erase and timeout -/

theorem readBack_zip {bs back : List Byte} (h : back.length = bs.length) :
    bs.zipIdx.map (fun x => back.getD x.2 x.1) = back := by
  apply List.ext_getElem
  · simp [h]
  · intro k hk hk'
    simp [hk']

theorem flashRead_sector {m : List Host.Cell} (hm : Memory.wf m = true) (a x : Nat) :
    flashRead (flashErase m (a / 4096 * 4096) (a / 4096 * 4096 + 4096)) x =
      if x / 4096 = a / 4096 then 0xFF#8 else flashRead m x := by
  rw [flashRead_flashErase hm]
  refine if_congr ?_ rfl rfl
  omega

/-- What the page's write has left once it is read back: its event and its count. -/
theorem exec_imgPageWriteEnd {s : State} {a : BitVec 16} {bs back : List Byte} (hbusy : s.svc.busy = .page a bs)
    (hlen : back.length = bs.length) : exec (.imgPageWriteEnd back) s = .next (({ s with
      flash := flashPutAll s.flash a.toNat back
      svc := { s.svc with pages := if back = bs then satInc s.svc.pages else s.svc.pages } } : State).svcEvent
        (if back = bs then 7 else 9)).opEnd := by
  refine congrArg Host.Outcome.next ?_
  conv_lhs => simp only [hbusy]
  rw [readBack_zip hlen]
  by_cases hsame : back = bs
  · simp only [hsame, beq_self_eq_true, if_true]
    rfl
  · simp only [hsame, beq_false_of_ne, ne_eq, not_false_eq_true, Bool.false_eq_true, if_false]

/-- An operation that does not end in its time leaves free values where it was to write, and its FLASH_ERR. -/
theorem imgFlashTimeout_says {s : State} {lo free : Nat} {vs : List Byte} (hwf : Memory.wf s.flash = true)
    (hexec : exec .imgFlashTimeout s = .next (s.cutWrite.svcEvent 8).opEnd)
    (hcut : s.cutWrite = { s with flash := flashPutAll s.flash lo vs, freeCtr := free }) :
    ∃ t, exec .imgFlashTimeout s = .next t ∧ OpEnded s t ∧ t.svc.events = s.svc.events ||| oneBit 11 8 ∧
      t.svc.pages = s.svc.pages ∧
      ∀ x, x < lo ∨ lo + vs.length ≤ x → flashRead t.flash x = flashRead s.flash x := by
  obtain ⟨⟨hnone, hdeep, hawake⟩, hflash, -, hev, hpages, -⟩ := svcEvent_opEnd 8 s.cutWrite
  rw [hcut] at hnone hdeep hawake hflash hev hpages hexec
  refine ⟨_, hexec, ⟨hnone, hdeep, hawake⟩, hev, hpages, fun x hx => ?_⟩
  rw [hflash]
  exact flashRead_flashPutAll_out hwf _ _ _ hx

/-- Settles O13. -/
theorem flashOperationsEnd : Obligations.FlashOperationsEnd := by
  refine ⟨fun s a bs back hwf hbusy hlen hfit => ?_, fun s a hwf hbusy => ?_, fun s hwf => ⟨fun a bs hbusy => ?_, fun a hbusy => ?_⟩⟩
  · obtain ⟨⟨hnone, hdeep, hawake⟩, hflash, ⟨e, hboot⟩, hev, hpages, hptr⟩ := svcEvent_opEnd (if back = bs then 7 else 9) { s with
        flash := flashPutAll s.flash a.toNat back
        svc := { s.svc with pages := if back = bs then satInc s.svc.pages else s.svc.pages } }
    refine ⟨_, exec_imgPageWriteEnd hbusy hlen, ⟨hnone, hdeep, hawake⟩, fun k hk => ?_, fun x hx => ?_, fun hsame => ?_,
      fun hdiffer => ?_, hptr, ?_⟩
    · rw [hflash]
      exact flashRead_flashPutAll_in hwf _ _ _ hk (by omega)
    · rw [hflash]
      exact flashRead_flashPutAll_out hwf _ _ _ (by omega)
    · simp only [hsame, if_true] at hev hpages ⊢
      exact ⟨hev, hpages⟩
    · simp only [hdiffer, if_false] at hev hpages ⊢
      exact ⟨hev, hpages⟩
    · rw [hboot]
  · have hexec : exec .imgEraseEnd s = .next (({ s with
        flash := flashErase s.flash (a.toNat / 4096 * 4096) (a.toNat / 4096 * 4096 + 4096) } : State).svcEvent 7).opEnd := by
      refine congrArg Host.Outcome.next ?_
      simp only [hbusy]
    obtain ⟨⟨hnone, hdeep, hawake⟩, hflash, -, hev, -, hptr⟩ := svcEvent_opEnd 7 { s with
      flash := flashErase s.flash (a.toNat / 4096 * 4096) (a.toNat / 4096 * 4096 + 4096) }
    refine ⟨_, hexec, ⟨hnone, hdeep, hawake⟩, hptr, hev, fun x => ?_⟩
    rw [hflash]
    exact flashRead_sector hwf a.toNat x
  · have hexec : exec .imgFlashTimeout s = .next (s.cutWrite.svcEvent 8).opEnd := by
      refine congrArg Host.Outcome.next ?_
      simp only [hbusy]
    have hcut : s.cutWrite = { s with
        flash := flashPutAll s.flash a.toNat ((List.range bs.length).map (fun k => Config.cutByte (s.freeCtr + k)))
        freeCtr := s.freeCtr + bs.length } := by simp only [State.cutWrite, hbusy]
    obtain ⟨t, ht, ⟨hnone, hdeep, hawake⟩, hev, hpages, hout⟩ := imgFlashTimeout_says hwf hexec hcut
    exact ⟨t, ht, ⟨hnone, hdeep, hawake⟩, hev, hpages, fun x hx => hout x (by simpa using hx)⟩
  · have hexec : exec .imgFlashTimeout s = .next (s.cutWrite.svcEvent 8).opEnd := by
      refine congrArg Host.Outcome.next ?_
      simp only [hbusy]
    have hcut : s.cutWrite = { s with
        flash := flashPutAll s.flash (a.toNat / 4096 * 4096) ((List.range 4096).map (fun k => Config.cutByte (s.freeCtr + k)))
        freeCtr := s.freeCtr + 4096 } := by simp only [State.cutWrite, hbusy]
    obtain ⟨t, ht, ⟨hnone, hdeep, hawake⟩, hev, -, hout⟩ := imgFlashTimeout_says hwf hexec hcut
    refine ⟨t, ht, ⟨hnone, hdeep, hawake⟩, hev, fun x hx => hout x ?_⟩
    rw [List.length_map, List.length_range]
    omega

/-! ### The lock fuses (R419) -/

/-- Settles O14. -/
theorem lockBlowEnds : Obligations.LockBlowEnds := by
  intro s copies hbusy
  let w : Word := s.boot.fuseArray[3] ||| copies.setWidth 32
  let u : State := { s with
    boot := { s.boot with fuseArray := s.boot.fuseArray.set 3 w, fuseShadow := s.boot.fuseShadow.set 3 w }
    svc := { s.svc with closing := true } }
  have hexec : exec (.lockBlowEnd copies) s = .next (u.svcEvent (if lockBlown w then 10 else 8)).opEnd :=
    congrArg Host.Outcome.next (if_pos (beq_iff_eq.mpr hbusy))
  obtain ⟨⟨hnone, hdeep, hawake⟩, hflash, ⟨e, hboot⟩, hev, -, -⟩ := svcEvent_opEnd (if lockBlown w then 10 else 8) u
  have hsession : (u.svcEvent (if lockBlown w then 10 else 8)).opEnd.svc.session = false := by
    cases hwait : s.dev.deepWait with
    | true => exact (hdeep hwait).2.2
    | false => exact (hawake hwait).2.1.trans (by simp [u])
  have hword : (u.svcEvent (if lockBlown w then 10 else 8)).opEnd.boot.fuseArray[3] = w := by
    rw [hboot]
    exact Vector.getElem_set_self _
  have hshadow : (u.svcEvent (if lockBlown w then 10 else 8)).opEnd.boot.fuseShadow[3] = w := by
    rw [hboot]
    exact Vector.getElem_set_self _
  generalize (u.svcEvent (if lockBlown w then 10 else 8)).opEnd = t at *
  refine ⟨t, hexec, hnone, hsession, hword, hshadow.trans hword.symm, fun hb => ?_, fun hb => ?_, hflash,
    fun hwait => ⟨(hdeep hwait).1, (hdeep hwait).2.1⟩, fun hwait => ⟨(hawake hwait).1, (hawake hwait).2.2⟩⟩
  · rw [hword] at hb
    refine ⟨hev.trans (by simp [hb, u]), ?_⟩
    have hlocked : t.installLock = true := (congrArg lockBlown hshadow).trans hb
    simp [State.windowAllowed, hlocked]
  · rw [hword] at hb
    exact hev.trans (by simp [hb, u])

/-! ### The bus (R401, R408, R409, R424, R425) -/

theorem Svc.noteDone_transactions (v : Svc) : v.noteDone.transactions = v.transactions := by
  unfold Svc.noteDone
  split <;> rfl

/-- A bus event that is no notice of its own: its bit of SVC_EVENTS, and no notice due by it. -/
theorem svcEvent_quiet {b : Fin 11} (hb : svcNotable.getLsbD b = false) (s : State) : ∃ a c e, s.svcEvent b =
    { s with att := a, cnt := c, boot := { s.boot with early := e },
             svc := { s.svc with events := s.svc.events ||| oneBit 11 b } } := by
  obtain ⟨a, c, e, n, hform, hn⟩ := svcEvent_form b s
  obtain rfl : n = s.svc.noteDue := hn hb
  exact ⟨a, c, e, hform⟩

/-- Settles O15. -/
theorem serviceBusRuns : Obligations.ServiceBusRuns := by
  refine ⟨fun s => ⟨fun hin hreg hrun hpass hstart => ?_, fun hopen => ?_, fun hstart hkiln hsampling => ?_, fun hdeep hrun => ?_,
    fun stop addressed => ?_⟩, fun s => ⟨fun hin hreg hrun hpass => ?_, fun hign hpass => ?_, fun h => ?_⟩⟩
  · have hclosed : s.svcOpen = false := by simp [State.svcOpen, hrun]
    exact congrArg Host.Outcome.next ((if_neg (by simp [hclosed])).trans (if_pos (by simp [hin, hreg, hrun, hpass, hstart])))
  · exact congrArg Host.Outcome.next (if_pos hopen)
  · exact congrArg Host.Outcome.next (if_pos (by simp [hstart, hkiln, hsampling]))
  · exact congrArg Host.Outcome.next (if_pos (by simp [hdeep, hrun]))
  · exact congrArg (fun x => Host.Outcome.next { s with svc := { s.svc.noteDone with
      untilStop := s.svc.noteDone.untilStop && !stop
      ignoring := s.svc.ignoring && !stop
      transactions := if (addressed || s.svc.addressed) && s.svcOpen then satInc x else x
      addressed := false } }) s.svc.noteDone_transactions
  · obtain ⟨a, c, e, hform⟩ := svcEvent_quiet (b := 2) rfl { s with svc :=
      { (s.svc.abandon (s.svc.addressed && s.svcOpen)) with
        ignoring := true, noteSending := false, noteDue := s.svc.noteDue || s.svc.noteSending } }
    exact ⟨_, congrArg Host.Outcome.next ((if_pos (by simp [hin, hreg, hrun, hpass])).trans hform), rfl, rfl, rfl, rfl, rfl, rfl, rfl, rfl, rfl⟩
  · obtain ⟨a, c, e, hform⟩ := svcEvent_quiet (b := 3) rfl (s.modSvc fun v => { v with passive := true })
    exact ⟨_, congrArg Host.Outcome.next ((if_pos (by simp [hign, hpass])).trans hform), rfl, rfl, by simp [State.svcOpen], by simp [State.mayStartNotice], rfl, rfl, rfl⟩
  · exact congrArg Host.Outcome.next (if_pos (by simpa using h))

/-! ### Notices (R420 to R422) -/

/-- Settles O16. -/
theorem noticesAreSent : Obligations.NoticesAreSent := by
  refine ⟨fun s => ⟨fun hmay hdue hwait => ?_, fun hsending => ?_, fun hsending hmore => ?_, fun hmay hwait => ?_⟩,
    fun s hsending hlast => ?_⟩
  · exact congrArg Host.Outcome.next (if_pos (by simp [hmay, hdue, hwait]))
  · exact congrArg Host.Outcome.next (if_pos hsending)
  · exact congrArg Host.Outcome.next ((if_pos hsending).trans (if_neg (by omega)))
  · exact congrArg Host.Outcome.next (if_pos (by simp [hmay, hwait]))
  · obtain ⟨a, c, e, hform⟩ := svcEvent_quiet (b := 6) rfl
      (s.modSvc fun v => { v with noteSending := false, noteRetries := 0, untilStop := false })
    exact ⟨_, congrArg Host.Outcome.next ((if_pos hsending).trans ((if_pos hlast).trans hform)), rfl, rfl, rfl, rfl, rfl, rfl, rfl⟩

end Sys2Proof.Machine
end

section
/-! SUPPORT. Phantom power and Kiln (13 R352 to R357; 12 R326, R328): what the start and the loss of power leave, FAULT_N,
and the outcomes of a Kiln attempt. -/

namespace Sys2Proof.Machine

/-! ### The start of power -/

theorem mayStart_iff {w : Power} {vin : BitVec 8} (hoff : w.inputOn = false)
    (hlow : w.overOff = false → 36 * 4 < vin.toNat)
    (hhigh : w.overOff = true → 37 * 4 ≤ vin.toNat ∧ vin.toNat ≤ 57 * 4) : w.mayStart vin = true := by
  cases hover : w.overOff with
  | false => simpa [Power.mayStart, hoff, hover] using hlow hover
  | true => simpa [Power.mayStart, inOperatingRange, hoff, hover] using hhigh hover

theorem port_default (p : PortId) : (Vector.replicate 16 ({} : Port))[p] = {} := by simp
theorem region_default (r : RegionId) : (Vector.replicate 4 ({} : Region))[r] = {} := by simp

/-- Settles O17. -/
theorem powerUpStarts : Obligations.PowerUpStarts := by
  refine ⟨fun s vin rev hoff hlow hhigh => ?_, fun s hon hstage => ?_⟩
  · exact ⟨_, congrArg Host.Outcome.next (if_pos (mayStart_iff hoff hlow hhigh)), rfl, rfl, rfl, rfl, rfl, rfl, rfl, rfl,
      port_default, region_default, rfl, rfl, rfl, rfl, rfl⟩
  · obtain ⟨a, c, e, n, hform⟩ := driveFault_form { s with boot := { s.boot with regulated := true, stage := .kiln } }
    refine ⟨_, congrArg Host.Outcome.next ((if_pos (by simp [hon, hstage])).trans hform), rfl, rfl, ?_, rfl, rfl, rfl⟩
    simp only [hon, Bool.true_and]
    rfl

/-! ### The loss of power and the power events -/

theorem cutWrite_of_idle {s : State} (h : s.svc.busy = .none) : s.cutWrite = s := by
  unfold State.cutWrite
  simp only [h]

/-- Settles O23: with no operation in progress nothing is cut short, and `State.bare` is what power's loss leaves. -/
theorem powerLossLosesAll : Obligations.PowerLossLosesAll := by
  intro s vin hon hbusy lost
  have hlost : ∀ high, lost ((s.setVin vin).powerOff high) high := by
    intro high
    have hcut : (s.setVin vin).cutWrite = s.setVin vin := cutWrite_of_idle hbusy
    unfold State.powerOff
    rw [hcut]
    exact ⟨rfl, rfl, rfl, rfl, port_default, region_default, rfl, rfl, rfl, rfl, rfl, rfl, rfl, rfl, rfl, rfl, rfl⟩
  refine ⟨fun hlow => ⟨_, congrArg Host.Outcome.next ((if_pos ?_).trans (if_pos hon)), hlost false⟩,
    fun hhigh => ⟨_, congrArg Host.Outcome.next (if_pos ?_), hlost true⟩⟩
  · simpa using hlow
  · simpa [hon] using hhigh

/-- Settles O24. -/
theorem powerEventsSet : Obligations.PowerEventsSet := by
  intro s vin pin failed hon hreg inside
  refine ⟨?_, ?_, ?_⟩
  · let read : State := { s with pw := { s.pw with vin := vin, pin := pin, inRange := inside } }
    have hexec : exec (.phantomRange vin pin) s =
        .next (if s.pw.inRange && !inside then read.powerEvent 0 else read).driveFault := by
      refine congrArg Host.Outcome.next ((if_pos hon).trans ?_)
      simp only [hreg, Bool.and_true]
      rfl
    cases hleft : s.pw.inRange && !inside with
    | false =>
      obtain ⟨a, c, e, n, hform⟩ := driveFault_form read
      rw [hleft] at hexec
      refine ⟨_, hexec.trans (congrArg Host.Outcome.next hform), rfl, rfl, rfl, rfl, ?_, rfl⟩
      simp only [read, State.faultWanted, hon, hreg, Bool.true_and]
    | true =>
      obtain ⟨a, c, e, hev⟩ := powerEvent_form 0 read
      obtain ⟨a', c', e', n, hform⟩ := driveFault_form (read.powerEvent 0)
      rw [hleft] at hexec
      rw [hev] at hform
      refine ⟨_, hexec.trans (congrArg Host.Outcome.next ((congrArg State.driveFault hev).trans hform)), rfl, rfl, rfl, rfl, ?_, rfl⟩
      simp only [read, State.faultWanted, hon, hreg, Bool.true_and]
  · obtain ⟨a, c, e, hform⟩ := powerEvent_form 1 s
    exact ⟨_, congrArg Host.Outcome.next ((if_pos (by simp [hon, hreg])).trans hform), rfl, rfl, rfl, rfl⟩
  · obtain ⟨a, c, e, n, hform⟩ := driveFault_form { s with pw := { s.pw with mgmtFailed := failed } }
    refine ⟨_, congrArg Host.Outcome.next ((if_pos hon).trans hform), rfl, rfl, ?_, rfl⟩
    simp only [State.faultWanted, hon, hreg, Bool.true_and]

/-! ### Kiln -/

theorem variantMask_eq (v : BitVec 2) : variantMask v =
    (if v = 0#2 then 0xFFFF#16 else if v = 1#2 then 0x7777#16 else if v = 2#2 then 0x3333#16 else 0x1111#16) := by
  revert v
  decide

theorem fuseWordOk_eq_false_iff (w : Fin 32) (x : Word) : fuseWordOk w x = false ↔
    (w ≠ 3 ∧ evenParity x = false) ∨
      (w = 0 ∧ (bits x 27 4 ≠ 0xA#4 ∨ bits x 0 16 ≠ variantMask (bits x 25 2))) := by
  unfold fuseWordOk
  by_cases h3 : w = 3
  · subst h3
    simp
  · by_cases h0 : w = 0
    · cases hp : evenParity x <;> simp [h0, imp_iff_not_or]
    · simp [h3, h0]

theorem firstBadFuse_of_good {v : Vector Word 32} (h : ∀ w : Fin 32, fuseWordOk w v[w] = true) : firstBadFuse v = none := by
  simpa [firstBadFuse, List.find?_eq_none] using h

/-- The word that fails is the first of `finRange` whose predecessors all pass. -/
theorem firstBadFuse_of_first {v : Vector Word 32} {w : Fin 32} (hbad : fuseWordOk w v[w] = false)
    (hfirst : ∀ u : Fin 32, u < w → fuseWordOk u v[u] = true) : firstBadFuse v = some w := by
  unfold firstBadFuse
  rw [List.find?_eq_some_iff_getElem]
  refine ⟨by simpa using hbad, w.val, by simp, by simp, fun j hj => ?_⟩
  have hu := hfirst ⟨j, by omega⟩ hj
  simpa using hu

theorem firstBadFuse_of_bad {v : Vector Word 32} (h : ∃ w : Fin 32, fuseWordOk w v[w] = false) :
    ∃ w, firstBadFuse v = some w := by
  obtain ⟨w, hw⟩ := h
  refine Option.isSome_iff_exists.mp (List.find?_isSome.mpr ⟨w, List.mem_finRange w, ?_⟩)
  rw [hw]
  rfl

/-- What the halt leaves: a device that serves nothing, with its ports off and its service logic running (R356). -/
structure Halted (s t : State) : Prop where
  stage : t.boot.stage = .halted
  halt : t.boot.kilnHalt = true
  ports : ∀ p, (t.port p).st = .off ∧ (t.port p).rxq = {} ∧ (t.port p).txq = {}
  trunk : t.tr = { half := true }
  service : t.svc.running = true ∧ t.svc.session = false
  serving : t.serving = false
  fault : s.boot.regulated = true → s.pw.inputOn = true → t.pw.faultN = true

theorem deepPort_off (s : State) (p : PortId) :
    (s.deepPort p).st = .off ∧ (s.deepPort p).rxq = {} ∧ (s.deepPort p).txq = {} := by
  unfold State.deepPort Port.chargeOutage
  dsimp only
  split <;> split <;> exact ⟨rfl, rfl, rfl⟩

theorem cutWrite_boot (s : State) : ∃ v, s.cutWrite.boot = { s.boot with fuseArray := v } ∧ s.cutWrite.pw = s.pw := by
  unfold State.cutWrite
  dsimp only
  split
  case h_1 => exact ⟨_, rfl, rfl⟩
  case h_2 => exact ⟨_, rfl, rfl⟩
  case h_3 =>
    generalize List.range 4096 = cut
    exact ⟨_, rfl, rfl⟩
  case h_4 => exact ⟨_, rfl, rfl⟩

/-- What the halt makes of a state, before it drives FAULT_N (R356). -/
def State.stopped (s : State) : State :=
  { s with
    boot := { s.boot with stage := .halted, kilnHalt := true, rerunKiln := false, rerunSlip := false, early := [] }
    dev := { idx := s.dev.idx, idxWritten := s.dev.idxWritten, idxMismatch := s.dev.idxMismatch }
    ports := Vector.ofFn (fun p => s.deepPort p)
    regions := Vector.replicate 4 {}
    tr := { half := true }
    host := { accepted := s.host.accepted }
    ties := Vector.replicate 4 {}
    att := {}
    cnt := {}
    svc := { s.svc.run with session := false, closing := false, busy := .none } }

theorem halt_eq (s : State) : s.halt = s.cutWrite.stopped.driveFault := rfl

theorem port_stopped (s : State) (p : PortId) : s.stopped.port p = s.deepPort p := by simp [State.stopped, State.port]

theorem halt_halted (s : State) : Halted s s.halt := by
  obtain ⟨v, hboot, hpw⟩ := cutWrite_boot s
  rw [halt_eq]
  generalize s.cutWrite = u at hboot hpw ⊢
  obtain ⟨a, c, e, n, hform⟩ := driveFault_form u.stopped
  rw [hform]
  refine ⟨rfl, rfl, fun p => ?_, rfl, ⟨rfl, rfl⟩, rfl, fun hreg hon => ?_⟩
  · have hport := deepPort_off u p
    rw [← port_stopped] at hport
    exact hport
  · have hreg' : u.stopped.boot.regulated = true := (congrArg Boot.regulated hboot).trans hreg
    have hon' : u.stopped.pw.inputOn = true := (congrArg Power.inputOn hpw).trans hon
    have hwanted : u.stopped.faultWanted = true := rfl
    simp [hreg', hon', hwanted]

/-- With no operation in progress the halt leaves the fuses, the pins' readings and the line die's issue as they are. -/
theorem halt_boot {s : State} (hbusy : s.svc.busy = .none) : ∃ e, s.halt.boot = { s.boot with
    stage := .halted, kilnHalt := true, rerunKiln := false, rerunSlip := false, early := e } := by
  rw [halt_eq, cutWrite_of_idle hbusy]
  obtain ⟨a, c, e, n, hform⟩ := driveFault_form s.stopped
  exact ⟨e, congrArg State.boot hform⟩

/-- The state after an attempt has read the fuse array (R354). -/
def State.fusesRead (s : State) (flips : List (Fin 32 × Word)) : State :=
  { s with boot := { s.boot with kilnRead := s.kilnReads flips } }

theorem kilnRuns_of_stage {s : State} (hon : s.pw.inputOn = true) (hstage : s.boot.stage = .kiln) : s.kilnRuns = true := by
  simp [State.kilnRuns, hon, hstage]

theorem exec_kilnAttempt {s : State} (hruns : s.kilnRuns = true) (flips : List (Fin 32 × Word)) (reads : KilnReads) :
    exec (.kilnAttempt flips reads) s = .next (match firstBadFuse (s.kilnReads flips) with
      | some w => (s.fusesRead flips).kilnFails w reads
      | none => (s.fusesRead flips).kilnPasses (s.kilnReads flips) reads.lineIssue) :=
  congrArg Host.Outcome.next (if_pos hruns)

/-- An attempt that passes at start-up begins the sampling (R355, R357). -/
theorem kilnPasses_of_stage {s : State} (hstage : s.boot.stage = .kiln) (v : Vector Word 32) (li : BitVec 4) :
    s.kilnPasses v li = { s with boot := { s.boot with
      fuseShadow := v, kilnRetries := BitVec.ofNat 2 s.boot.attempts, attempts := 0, bedTrimmed := true,
      rerunKiln := false, lineIssue := li, stage := .sampling } } :=
  if_pos (by simp [hstage])

theorem kilnFails_of_retry {s : State} (h : s.boot.attempts < 3) (w : Fin 32) (reads : KilnReads) :
    s.kilnFails w reads = { s with boot := { s.boot with
      kilnRetries := BitVec.ofNat 2 s.boot.attempts, kilnWord := BitVec.ofNat 5 w.val,
      attempts := s.boot.attempts + 1 } } :=
  if_neg (Nat.not_le.mpr h)

/-- The fourth failure at start-up halts, with the straps of SVC_ADR as their pins read (R356, R410). -/
theorem kilnFails_of_fourth {s : State} (hstage : s.boot.stage = .kiln) (h : 3 ≤ s.boot.attempts) (w : Fin 32)
    (reads : KilnReads) : s.kilnFails w reads = State.halt { s with boot := { s.boot with
      kilnRetries := BitVec.ofNat 2 s.boot.attempts, kilnWord := BitVec.ofNat 5 w.val, lineIssue := reads.lineIssue,
      straps := { s.boot.straps with svcAdr := adrLevel reads.pins } } } := by
  refine (if_pos h).trans (congrArg State.halt ?_)
  unfold State.haltAddress
  rw [if_pos (by simp [hstage])]

theorem adrLevel_bits (a : AdrPins) : (adrLevel a).getLsbD 0 = decide (8 < popcount a.adr0) ∧
    (adrLevel a).getLsbD 1 = decide (8 < popcount a.adr1) ∧ (adrLevel a).getLsbD 2 = decide (8 < popcount a.adr2) := by
  have hbits : ∀ x y z : Bool, let v := BitVec.ofBool z ++ BitVec.ofBool y ++ BitVec.ofBool x
      v.getLsbD 0 = x ∧ v.getLsbD 1 = y ∧ v.getLsbD 2 = z := by decide
  exact hbits (asserted a.adr0) (asserted a.adr1) (asserted a.adr2)

/-- Settles O18: by what `firstBadFuse` finds, an attempt passes, fails with a retry left, or halts. -/
theorem kilnAttempts : Obligations.KilnAttempts := by
  refine ⟨fun w x => ?_, fun s flips li pins hon hstage => ?_, fun s flips li pins hon hreg hstage hbusy hthree hbad => ?_⟩
  · rw [fuseWordOk_eq_false_iff, variantMask_eq]
  · have hexec := exec_kilnAttempt (kilnRuns_of_stage hon hstage) flips ⟨li, pins⟩
    refine ⟨fun hgood => ?_, fun w hw hfirst hleft => ?_⟩
    · rw [hexec, firstBadFuse_of_good hgood]
      exact congrArg Host.Outcome.next (kilnPasses_of_stage (s := s.fusesRead flips) hstage _ _)
    · rw [hexec, firstBadFuse_of_first hw hfirst]
      exact congrArg Host.Outcome.next (kilnFails_of_retry (s := s.fusesRead flips) hleft _ _)
  · obtain ⟨w, hw⟩ := firstBadFuse_of_bad hbad
    have hexec := exec_kilnAttempt (kilnRuns_of_stage hon hstage) flips ⟨li, pins⟩
    rw [hw] at hexec
    have hfourth := kilnFails_of_fourth (s := s.fusesRead flips) hstage hthree w ⟨li, pins⟩
    generalize hu : ({ s.fusesRead flips with boot := _ } : State) = u at hfourth
    refine ⟨_, hexec.trans (congrArg Host.Outcome.next hfourth), ?_⟩
    obtain ⟨hst, hhalt, hports, htrunk, ⟨hrun, hsession⟩, hserving, hfault⟩ := halt_halted u
    obtain ⟨e, hboot⟩ := halt_boot (s := u) (by rw [← hu]; exact hbusy)
    have hadr : u.halt.boot.straps.svcAdr = adrLevel pins := by rw [hboot, ← hu]
    refine ⟨hst, hhalt, hfault (by rw [← hu]; exact hreg) (by rw [← hu]; exact hon), hports, htrunk, hrun, hsession, hserving, ?_, ?_, ?_⟩
    · rw [hboot, ← hu]
      rfl
    · rw [hboot, ← hu]
    · rw [hadr]
      exact adrLevel_bits pins

end Sys2Proof.Machine
end

section
/-! SUPPORT. A change of each port of a list, port by port; the sampling of the straps and levels (13 R360 to R365). -/

namespace Sys2Proof.Machine

/-! ### A change of each port of a list -/

section
variable {α : Type} {f : α → State → State} {xs : List α} {key : α → PortId} {q : PortId} {I : State → Prop}

theorem forEach_cons (x : α) (xs : List α) (f : α → State → State) (s : State) :
    forEach (x :: xs) f s = forEach xs f (f x s) := rfl

/-- What every step keeps, the whole keeps. -/
theorem forEach_keeps {β : Type} {π : State → β} (h : ∀ x ∈ xs, ∀ t, π (f x t) = π t) (s : State) :
    π (forEach xs f s) = π s := by
  induction xs generalizing s with
  | nil => rfl
  | cons x xs ih =>
    rw [forEach_cons, ih fun y hy => h y (List.mem_cons_of_mem _ hy)]
    exact h x List.mem_cons_self s

/-- What every step upholds, the whole upholds. -/
theorem forEach_upholds (h : ∀ x ∈ xs, ∀ t, I t → I (f x t)) {s : State} (hs : I s) : I (forEach xs f s) := by
  induction xs generalizing s with
  | nil => exact hs
  | cons x xs ih => exact ih (fun y hy => h y (List.mem_cons_of_mem _ hy)) (h x List.mem_cons_self s hs)

/-- A port that no element of the list is for stays, where each step changes its own port alone. -/
theorem port_forEach_of_notMem (hI : ∀ x t, I t → I (f x t)) (hother : ∀ x t, I t → q ≠ key x → (f x t).port q = t.port q)
    (hq : ∀ x ∈ xs, key x ≠ q) {s : State} (hs : I s) : (forEach xs f s).port q = s.port q := by
  induction xs generalizing s with
  | nil => rfl
  | cons x xs ih =>
    obtain ⟨hx, hxs⟩ := List.forall_mem_cons.mp hq
    exact (ih hxs (hI x s hs)).trans (hother x s hs hx.symm)

/-- A port that an element of the list is for ends as its own last step leaves it. -/
theorem port_forEach_of_mem {P : Port → Prop} (hI : ∀ x t, I t → I (f x t))
    (hother : ∀ x t, I t → q ≠ key x → (f x t).port q = t.port q) (hown : ∀ x t, I t → key x = q → P ((f x t).port q))
    (hq : ∃ x ∈ xs, key x = q) {s : State} (hs : I s) : P ((forEach xs f s).port q) := by
  induction xs generalizing s with
  | nil =>
    obtain ⟨x, hx, -⟩ := hq
    cases hx
  | cons x xs ih =>
    rw [forEach_cons]
    by_cases hmem : ∃ y ∈ xs, key y = q
    · exact ih hmem (hI x s hs)
    · obtain ⟨y, hy, hkey⟩ := hq
      have hxy : y = x := (List.mem_cons.mp hy).resolve_right fun h => hmem ⟨y, h, hkey⟩
      rw [port_forEach_of_notMem hI hother (fun z hz hk => hmem ⟨z, hz, hk⟩) (hI x s hs)]
      exact hown x s hs (hxy ▸ hkey)
end

theorem notMem_presentPorts {s : State} {p : PortId} (h : s.present p = false) : p ∉ s.presentPorts := by
  simp [State.presentPorts, h]

/-! ### Sampling -/

/-- The level and its mark as the pin's reading gives them (R362, R364). -/
structure Latched (r : PinReading) (level : BitVec 4) (indet : Bool) : Prop where
  indet : indet = (windowLevel r).isNone
  level : ∀ k, windowLevel r = some k → level = k

theorem pinLevel_latched (r : PinReading) (free : Nat) : Latched r (pinLevel r free).1 (pinLevel r free).2.1 := by
  unfold pinLevel
  split
  case h_1 k hk => exact ⟨by simp [hk], fun k' hk' => by simpa [hk] using hk'⟩
  case h_2 hnone => exact ⟨by simp [hnone], fun k' hk' => by simp [hnone] at hk'⟩

theorem attEvent_if_form (c : Bool) (i : SrcId) (s : State) :
    ∃ a e, (if c then s.attEvent i else s) = { s with att := a, boot := { s.boot with early := e } } := by
  cases c with
  | true => exact attEvent_form i s
  | false => exact ⟨s.att, s.boot.early, rfl⟩

/-- A port with the level that its pin's reading gives (R364). -/
def Port.withLevel (r : PinReading) (l : BitVec 4 × Bool) (x : Port) : Port :=
  { x with psel := { ratio := BitVec.ofNat 10 (r.sum / 16), level := l.1, indet := l.2, profile := l.1, indetEvent := l.2 } }

/-- A port takes the level of its pin: nothing else of the device moves but its mark's event and the free values. -/
theorem latchPsel_form (pins : StrapPins) (p : PortId) (s : State) : ∃ (l : BitVec 4 × Bool) (a : Att) (e : List SrcId) (n : Nat),
    s.latchPsel pins p = { s.modPort p (Port.withLevel pins.psel[p] l) with
      att := a, boot := { s.boot with early := e }, freeCtr := n } ∧ Latched pins.psel[p] l.1 l.2 := by
  unfold State.latchPsel
  dsimp only
  have hlatched := pinLevel_latched pins.psel[p] s.freeCtr
  generalize pinLevel pins.psel[p] s.freeCtr = l at hlatched ⊢
  obtain ⟨a, e, hform⟩ := attEvent_if_form l.2.1 (portSrc p 7) 
    (State.modPort { s with freeCtr := l.2.2 } p (Port.withLevel pins.psel[p] (l.1, l.2.1)))
  exact ⟨(l.1, l.2.1), a, e, l.2.2, hform, hlatched⟩

theorem port_latchPsel_ne (pins : StrapPins) {p q : PortId} (t : State) (h : q ≠ p) :
    (t.latchPsel pins p).port q = t.port q := by
  obtain ⟨l, a, e, n, hform, -⟩ := latchPsel_form pins p t
  rw [hform]
  exact State.port_modPort_ne t (Port.withLevel pins.psel[p] l) h

theorem port_latchPsel (pins : StrapPins) (p : PortId) (t : State) :
    Latched pins.psel[p] ((t.latchPsel pins p).port p).psel.level ((t.latchPsel pins p).port p).psel.indet ∧
    ((t.latchPsel pins p).port p).psel.indetEvent = ((t.latchPsel pins p).port p).psel.indet ∧
    ((t.latchPsel pins p).port p).psel.profile = ((t.latchPsel pins p).port p).psel.level := by
  obtain ⟨l, a, e, n, hform, hl⟩ := latchPsel_form pins p t
  have hport : (t.latchPsel pins p).port p = (t.port p).withLevel pins.psel[p] l := by
    rw [hform]
    exact State.port_modPort t p (Port.withLevel pins.psel[p] l)
  rw [hport]
  exact ⟨hl, rfl, rfl⟩

theorem startEvent_if_form (c : Bool) (b : Fin 3) (s : State) : ∃ a e ev,
    (if c then s.startEvent b else s) = { s with att := a, boot := { s.boot with startEvents := ev, early := e } } := by
  cases c with
  | true =>
    obtain ⟨a, e, h⟩ := startEvent_form b s
    exact ⟨a, e, _, h⟩
  | false => exact ⟨s.att, s.boot.early, s.boot.startEvents, rfl⟩

theorem latchTim_form (r : PinReading) (s : State) : ∃ (l : BitVec 4 × Bool) (a : Att) (e : List SrcId) (ev : BitVec 3) (n : Nat),
    s.latchTim r = { s with freeCtr := n, att := a, boot := { s.boot with
      svcTimLevel := l.1, svcTimIndet := l.2, startEvents := ev, early := e } } ∧ Latched r l.1 l.2 := by
  unfold State.latchTim
  dsimp only
  have hlatched := pinLevel_latched r s.freeCtr
  generalize pinLevel r s.freeCtr = l at hlatched ⊢
  obtain ⟨a, e, ev, hform⟩ := startEvent_if_form l.2.1 1
    { s with freeCtr := l.2.2, boot := { s.boot with svcTimLevel := l.1, svcTimIndet := l.2.1 } }
  exact ⟨(l.1, l.2.1), a, e, ev, l.2.2, hform, hlatched⟩

/-- What sampling keeps while it latches the ports: the bedrock but for the events that wait, and the service port. -/
def State.bedrock (s : State) : Boot × Svc := ({ s.boot with early := [] }, s.svc)

theorem latchPsel_bedrock (pins : StrapPins) (p : PortId) (t : State) : (t.latchPsel pins p).bedrock = t.bedrock := by
  obtain ⟨l, a, e, n, hform, -⟩ := latchPsel_form pins p t
  rw [hform]
  rfl

theorem devidx_eq (x y : Bool) : BitVec.ofBool y ++ BitVec.ofBool x = BitVec.ofNat 2 (x.toNat + 2 * y.toNat) := by
  revert x y
  decide
theorem svcAdr_eq (x y z : Bool) : BitVec.ofBool z ++ BitVec.ofBool y ++ BitVec.ofBool x =
    BitVec.ofNat 3 (x.toNat + 2 * y.toNat + 4 * z.toNat) := by
  revert x y z
  decide

/-- The straps are latched and Slip begins, before the ports' levels are (R360, R408). -/
def State.strapped (pins : StrapPins) (s : State) : State :=
  { s with
    boot := { s.boot with
      stage := .slip
      straps := { install := asserted pins.install, bench := asserted pins.bench,
                  devidx := BitVec.ofBool (asserted pins.devidx1) ++ BitVec.ofBool (asserted pins.devidx0),
                  trkHalf := asserted pins.trkHalf, svcAdr := adrLevel pins.svcAdr } }
    svc := s.svc.run }

/-- Settles O20. -/
theorem samplingLatches : Obligations.SamplingLatches := by
  intro s pins hon hstage high
  let ports := forEach s.presentPorts (State.latchPsel pins) (s.strapped pins)
  have hexec : exec (.strapResistorSampling pins) s = .next (ports.latchTim pins.svcTim) :=
    congrArg Host.Outcome.next (if_pos (by simp [hon, hstage]))
  have hbed : ports.bedrock = (s.strapped pins).bedrock :=
    forEach_keeps (fun p _ t => latchPsel_bedrock pins p t) _
  obtain ⟨l, a, e, ev, n, hform, htim⟩ := latchTim_form pins.svcTim ports
  have hsvc : ports.svc = s.svc.run := congrArg Prod.snd hbed
  have hstraps : ports.boot.straps = (s.strapped pins).boot.straps := congrArg (fun b => b.1.straps) hbed
  have hslip : ports.boot.stage = .slip := congrArg (fun b => b.1.stage) hbed
  have hother : ∀ q p t, True → q ≠ p → (State.latchPsel pins p t).port q = t.port q := fun q p t _ h => port_latchPsel_ne pins t h
  refine ⟨_, hexec.trans (congrArg Host.Outcome.next hform), hslip, congrArg Svc.running hsvc, congrArg Svc.starting hsvc, ?_⟩
  refine ⟨congrArg Straps.install hstraps, congrArg Straps.bench hstraps, ?_, congrArg Straps.trkHalf hstraps, ?_,
    fun p hp => ?_, fun p hp => ?_, htim.indet, htim.level⟩
  · exact (congrArg Straps.devidx hstraps).trans (devidx_eq ..)
  · exact (congrArg Straps.svcAdr hstraps).trans (svcAdr_eq ..)
  · obtain ⟨hl, hev, hprof⟩ := port_forEach_of_mem (key := id) (I := fun _ => True)
      (P := fun x => Latched pins.psel[p] x.psel.level x.psel.indet ∧ x.psel.indetEvent = x.psel.indet ∧ x.psel.profile = x.psel.level)
      (fun _ _ _ => trivial) (hother p) (by rintro q t - (rfl : q = p); exact port_latchPsel pins q t) ⟨p, mem_presentPorts hp, rfl⟩
      (s := s.strapped pins) trivial
    exact ⟨hl.indet, hev.trans hl.indet, fun k hk => ⟨hl.level k hk, hprof.trans (hl.level k hk)⟩⟩
  · exact port_forEach_of_notMem (key := id) (fun _ _ _ => trivial) (hother p)
      (fun q hq heq => notMem_presentPorts hp (heq ▸ hq)) (s := s.strapped pins) trivial

end Sys2Proof.Machine
end

section
/-! SUPPORT. What the entry of one item does to a queue (07 R183 to R187, R190 to R198): the lane in which it stands last, what
of the queue it leaves alone, and when it is refused. -/

namespace Sys2Proof.Machine

/-! ### Cells and items -/

/-- A queue but for where its cells lie. -/
def Queue.placeless (q : Queue) : Queue := { q with segs := [], headRead := 0, tailUsed := 0, freeOwn := 0 }

/-- What the entry of an item leaves of a queue: the pending loss, its flush, its reclaim, and what its window holds. -/
def Queue.aside (q : Queue) : Option Loss × (FlushState × Nat) × (Nat × Nat) × Option CellW × Word :=
  (q.pend, (q.flush, q.flushOwed), (q.reclaimOwn, q.reclaimPool), q.popExt, q.lastPop)

section
variable (q : Queue) (guard pool : Nat)

theorem takeOwn_placeless : q.takeOwn.placeless = q.placeless := by
  unfold Queue.takeOwn
  split <;> rfl
theorem takeSeg_placeless : (q.takeSeg guard pool).1.placeless = q.placeless := by
  unfold Queue.takeSeg
  split
  · exact takeOwn_placeless q
  · split <;> rfl
theorem setAside_placeless : q.setAside.placeless = q.placeless := by
  unfold Queue.setAside
  split <;> rfl
theorem writeCell_placeless : (q.writeCell guard pool).1.placeless = q.placeless := by
  have hused (x : Queue × Nat) : ({ x.1 with tailUsed := x.1.tailUsed + 1 } : Queue).placeless = x.1.placeless := rfl
  unfold Queue.writeCell
  refine (hused _).trans ?_
  split
  · exact (takeSeg_placeless ..).trans (setAside_placeless q)
  · split
    · exact takeSeg_placeless ..
    · rfl
theorem writeItem_placeless (n : Nat) : (q.writeItem guard pool n).1.placeless = q.placeless := by
  unfold Queue.writeItem
  dsimp only
  split
  · exact (writeCell_placeless ..).trans (writeCell_placeless ..)
  · exact writeCell_placeless ..
theorem readCell_placeless : (q.readCell pool).1.placeless = q.placeless := by
  unfold Queue.readCell
  split
  · rfl
  · split
    · rfl
    · dsimp only
      split
      · rfl
      · split <;> rfl
theorem readItem_placeless (n : Nat) : (q.readItem pool n).1.placeless = q.placeless := by
  unfold Queue.readItem
  dsimp only
  split
  · exact (readCell_placeless ..).trans (readCell_placeless ..)
  · exact readCell_placeless ..

end

/-- A queue but for where its cells lie and what stands in its bulk lane. -/
def Queue.bulkless (q : Queue) : Queue := { q.placeless with chain := [], store := [] }

theorem bulkless_of_placeless {q r : Queue} (h : q.placeless = r.placeless) : q.bulkless = r.bulkless :=
  congrArg (fun x : Queue => { x with chain := [], store := [] }) h
theorem chain_of_placeless {q r : Queue} (h : q.placeless = r.placeless) : q.chain = r.chain := by
  have hc : q.placeless.chain = r.placeless.chain := congrArg Queue.chain h
  exact hc
theorem store_of_placeless {q r : Queue} (h : q.placeless = r.placeless) : q.store = r.store := by
  have hs : q.placeless.store = r.placeless.store := congrArg Queue.store h
  exact hs
theorem aside_of_bulkless {q r : Queue} (h : q.bulkless = r.bulkless) : q.aside = r.aside := by
  have ha : q.bulkless.aside = r.bulkless.aside := congrArg Queue.aside h
  exact ha
theorem urgItems_of_bulkless {q r : Queue} (h : q.bulkless = r.bulkless) : q.urgItems = r.urgItems := by
  have hu : q.bulkless.urgItems = r.bulkless.urgItems := congrArg Queue.urgItems h
  exact hu

/-- Fetching moves items from the store to the end of the settling chain, and their order stays (R184). -/
theorem refillFrom_lanes (es : List Entry) (q : Queue) (pool : Nat) :
    (Queue.refillFrom es q pool).1.chain ++ (Queue.refillFrom es q pool).1.store = q.chain ++ es ∧
      (Queue.refillFrom es q pool).1.bulkless = q.bulkless := by
  induction es generalizing q pool with
  | nil => exact ⟨rfl, rfl⟩
  | cons e es ih =>
    unfold Queue.refillFrom
    split
    · dsimp only
      obtain ⟨hlanes, hrest⟩ := ih { (q.readItem pool e.item.cells).1 with chain := (q.readItem pool e.item.cells).1.chain ++ [e] }
        (q.readItem pool e.item.cells).2
      have hread := readItem_placeless q pool e.item.cells
      have hless : (q.readItem pool e.item.cells).1.bulkless = q.bulkless := bulkless_of_placeless hread
      refine ⟨hlanes.trans ?_, hrest.trans hless⟩
      rw [chain_of_placeless hread, List.append_assoc]
      rfl
    · exact ⟨rfl, rfl⟩

theorem refill_bulkItems (q : Queue) (pool : Nat) : (q.refill pool).1.bulkItems = q.bulkItems :=
  congrArg (List.map fun e : Entry => e.item) (refillFrom_lanes q.store q pool).1
theorem refill_bulkless (q : Queue) (pool : Nat) : (q.refill pool).1.bulkless = q.bulkless := (refillFrom_lanes q.store q pool).2

/-! ### Entry -/

theorem items_eq (q : Queue) : q.items = q.urgItems.length + q.bulkItems.length := by
  unfold Queue.items Queue.urgItems Queue.bulkItems
  rw [List.length_map, List.length_map, List.length_append, Nat.add_assoc,
    Nat.add_comm q.store.length]

theorem pinLast_items (es : List Entry) : (pinLast es).map (fun e => e.item) = es.map (fun e => e.item) := by
  unfold pinLast
  dsimp only
  rw [List.map_append, List.map_map]
  exact (List.map_append ..).symm.trans (congrArg (List.map fun e : Entry => e.item) (List.take_append_drop ..))

/-- An item pushed into the bulk path stands last there, and the rest of the queue stays but for its packet's bookkeeping. -/
theorem pushBulk_lanes (q : Queue) (f : QFmt) (guard pool : Nat) (e : Entry) :
    (q.pushBulk f guard pool e).1.bulkItems = q.bulkItems ++ [e.item] ∧ (q.pushBulk f guard pool e).1.urgItems = q.urgItems ∧
      (q.pushBulk f guard pool e).1.aside = q.aside := by
  have hwrite := writeItem_placeless q guard pool e.item.cells
  unfold Queue.pushBulk
  extract_lets r q1
  have hurg : r.1.urgItems = q.urgItems := urgItems_of_bulkless (bulkless_of_placeless hwrite)
  have haside : r.1.aside = q.aside := aside_of_bulkless (bulkless_of_placeless hwrite)
  refine ⟨(refill_bulkItems ..).trans ?_, (urgItems_of_bulkless (refill_bulkless ..)).trans hurg,
    (aside_of_bulkless (refill_bulkless ..)).trans haside⟩
  change (r.1.chain ++ (r.1.store ++ [e])).map (fun e => e.item) = _
  rw [show r.1.chain = q.chain from chain_of_placeless hwrite, show r.1.store = q.store from store_of_placeless hwrite,
    ← List.append_assoc, List.map_append]
  rfl

section
variable {q : Queue} {f : QFmt} {guard pool : Nat} {i : Item} {urgent : Bool} {notes : List Note} {order : Option Nat}

/-- The lane that an entering item takes is the urgent one (R191, R197). -/
def Queue.takesUrgent (q : Queue) (f : QFmt) (i : Item) (urgent : Bool) : Bool := urgent && !i.barrier && !q.mustDemote f i

theorem enter_urgent (h : q.takesUrgent f i urgent = true) : ∃ r, q.enter f guard pool i urgent notes order = some r ∧
    r.q.urgItems = q.urgItems ++ [i.withUrgent true] ∧ r.q.bulkItems = q.bulkItems ∧ r.q.aside = q.aside :=
  ⟨_, if_pos h, List.map_append .., rfl, rfl⟩

theorem enter_bulk (h : q.takesUrgent f i urgent = false) (hfree : i.cells ≤ q.freeCells pool) :
    ∃ r, q.enter f guard pool i urgent notes order = some r ∧
      r.q.bulkItems = q.bulkItems ++ [i.withUrgent false] ∧ r.q.urgItems = q.urgItems ∧ r.q.aside = q.aside := by
  refine ⟨_, (if_neg (ne_true_of_eq_false h)).trans (if_neg (Nat.not_lt.mpr hfree)), ?_⟩
  dsimp only
  obtain ⟨hbulk, hurg, haside⟩ := pushBulk_lanes
    ({ (if urgent && !i.barrier && !q.begins f i && q.isOpen && q.openLane == .urgent then
        { q with urg := pinLast q.urg, pinPos := q.bulkIn, pinValid := true } else q) with
      demoting := q.demotingAt f i || (urgent && !i.barrier) } : Queue) f guard pool
    { item := i.withUrgent false, start := q.begins f i, tag := q.wEpoch, notes := notes, order := order }
  refine ⟨hbulk.trans ?_, hurg.trans ?_, haside.trans ?_⟩
  · split <;> rfl
  · split
    · exact pinLast_items q.urg
    · rfl
  · split <;> rfl

theorem enter_full (h : q.takesUrgent f i urgent = false) (hfree : q.freeCells pool < i.cells) :
    q.enter f guard pool i urgent notes order = none := (if_neg (ne_true_of_eq_false h)).trans (if_pos hfree)

/-- An item for which there is room enters: it stands last in one lane, and the queue's records stay. -/
theorem enter_room (hfree : i.cells ≤ q.freeCells pool) : ∃ r, q.enter f guard pool i urgent notes order = some r ∧
    r.q.aside = q.aside ∧
    (q.takesUrgent f i urgent = true → r.q.urgItems = q.urgItems ++ [i.withUrgent true] ∧ r.q.bulkItems = q.bulkItems) ∧
    (q.takesUrgent f i urgent = false → r.q.bulkItems = q.bulkItems ++ [i.withUrgent false] ∧ r.q.urgItems = q.urgItems) := by
  cases h : q.takesUrgent f i urgent
  · obtain ⟨r, hr, hbulk, hurg, haside⟩ := enter_bulk (guard := guard) (notes := notes) (order := order) h hfree
    exact ⟨r, hr, haside, fun h => (Bool.false_ne_true h).elim, fun _ => ⟨hbulk, hurg⟩⟩
  · obtain ⟨r, hr, hurg, hbulk, haside⟩ := enter_urgent (guard := guard) (pool := pool) (notes := notes) (order := order) h
    exact ⟨r, hr, haside, fun _ => ⟨hurg, hbulk⟩, fun h => (Bool.true_eq_false ▸ h : False).elim⟩

end

/-! ### Delivery -/

theorem deliver_items (q : Queue) : q.deliver.2.urgItems = q.urgItems ∧ q.deliver.2.bulkItems = q.bulkItems ∧
    q.deliver.2.aside = q.aside := by
  refine ⟨?_, ?_, rfl⟩
  · have hmap : q.deliver.2.urgItems = q.urg.zipIdx.map (fun u => u.1.item) := by
      unfold Queue.urgItems Queue.deliver
      rw [List.map_map]
      refine List.map_congr_left fun u _ => ?_
      change (if q.urgReadable u.2 u.1 then { u.1 with notes := [] } else u.1 : Entry).item = u.1.item
      split <;> rfl
    rw [hmap]
    exact (List.map_map ..).symm.trans (congrArg (List.map fun e : Entry => e.item) (List.zipIdx_map_fst ..))
  · unfold Queue.bulkItems Queue.deliver
    rw [List.map_append, List.map_append, List.map_map]
    rfl

end Sys2Proof.Machine
end

section
/-! SUPPORT. What the Sieve takes from a queue, and in which order (07 R195; 02 R52 to R56), and what of a queue's records an
item's way in and out leaves alone. -/

namespace Sys2Proof.Machine

/-! ### What the Sieve takes (R195) -/

/-- A queue whose settling chain goes on with `es`. -/
def Queue.headGone (q : Queue) (es : List Entry) : Queue := { q with chain := es, bulkLeft := q.bulkLeft + 1 }

/-- The head of the bulk lane leaves, and the urgent lane stands. -/
theorem takeBulk_lanes {q : Queue} {pool : Nat} {sv : Serving} {r : Taken} (h : q.takeBulk pool sv = some r) :
    r.lane = .bulk ∧ q.bulkItems = r.e.item :: r.q.bulkItems ∧ r.q.urgItems = q.urgItems ∧
      q.chain.head? = some r.e ∧ r.q.rEpoch = q.rEpoch := by
  unfold Queue.takeBulk at h
  cases hc : q.chain with
  | nil => rw [hc] at h; cases h
  | cons e es =>
    rw [hc] at h
    obtain rfl := Option.some.inj h
    have hless : ((q.headGone es).refill pool).1.bulkless = (q.headGone es).bulkless := refill_bulkless (q.headGone es) pool
    have hitems := refill_bulkItems (q.headGone es) pool
    have hurg : ((q.headGone es).refill pool).1.urgItems = (q.headGone es).urgItems := urgItems_of_bulkless hless
    refine ⟨rfl, ?_, hurg, rfl, ?_⟩
    · have hq : q.bulkItems = e.item :: (q.headGone es).bulkItems := by
        unfold Queue.bulkItems
        rw [hc]
        rfl
      rw [hq, ← hitems]
      rfl
    · have hepoch : ((q.headGone es).refill pool).1.bulkless.rEpoch = (q.headGone es).bulkless.rEpoch :=
        congrArg Queue.rEpoch hless
      exact hepoch

theorem queue_if {α : Type} {π : Queue → α} {c : Prop} [Decidable c] {a b : Queue} {v : α} (ha : π a = v) (hb : π b = v) :
    π (if c then a else b) = v := by
  split
  · exact ha
  · exact hb

/-- The head of the urgent lane leaves, and the bulk lane stands. -/
theorem takeUrgent_lanes {q : Queue} {pool : Nat} {sv : Serving} {r : Taken} (h : q.takeUrgent pool sv = some r) :
    r.lane = .urgent ∧ q.urgItems = r.e.item :: r.q.urgItems ∧ r.q.bulkItems = q.bulkItems := by
  unfold Queue.takeUrgent at h
  cases hu : q.urg with
  | nil => rw [hu] at h; cases h
  | cons e es =>
    rw [hu] at h
    obtain rfl := Option.some.inj h
    refine ⟨rfl, ?_, ?_⟩
    · have hq : q.urgItems = e.item :: es.map (fun e => e.item) := by
        unfold Queue.urgItems
        rw [hu]
        rfl
      rw [hq]
      refine congrArg (e.item :: ·) (Eq.symm ?_)
      exact queue_if (π := Queue.urgItems) rfl (queue_if (π := Queue.urgItems) rfl rfl)
    · exact queue_if (π := Queue.bulkItems) rfl (queue_if (π := Queue.bulkItems) rfl rfl)

section
variable {q : Queue} {pool : Nat}

theorem sieveNext_nothing (h : q.pick = .nothing) : q.sieveNext pool = none := by
  unfold Queue.sieveNext
  rw [h]
theorem sieveNext_barrier (h : q.pick = .barrier) :
    q.sieveNext pool = ({ q with rEpoch := q.rEpoch + 1 } : Queue).takeBulk pool .none := by
  unfold Queue.sieveNext
  rw [h]
theorem sieveNext_urgent (h : q.pick = .lane .urgent) : q.sieveNext pool = q.takeUrgent pool .urgent := by
  unfold Queue.sieveNext
  rw [h]
theorem sieveNext_pinned (h : q.pick = .lane .pinned) : q.sieveNext pool = q.takeUrgent pool .pinned := by
  unfold Queue.sieveNext
  rw [h]
theorem sieveNext_bulk (h : q.pick = .lane .bulk) : q.sieveNext pool = q.takeBulk pool .bulk := by
  unfold Queue.sieveNext
  rw [h]
theorem sieveNext_none (h : q.pick = .lane .none) : q.sieveNext pool = q.takeBulk pool .bulk := by
  unfold Queue.sieveNext
  rw [h]

/-- The Sieve takes the oldest item of one lane, and the other lane stands (R195). -/
theorem sieveNext_lanes {r : Taken} (h : q.sieveNext pool = some r) :
    (r.lane = .urgent ∧ q.urgItems = r.e.item :: r.q.urgItems ∧ r.q.bulkItems = q.bulkItems) ∨
      (r.lane = .bulk ∧ q.bulkItems = r.e.item :: r.q.bulkItems ∧ r.q.urgItems = q.urgItems) := by
  have hbulk {x : Queue} {sv : Serving} (hx : x.takeBulk pool sv = some r) :
      r.lane = .bulk ∧ x.bulkItems = r.e.item :: r.q.bulkItems ∧ r.q.urgItems = x.urgItems := by
    obtain ⟨hl, hb, hu, -⟩ := takeBulk_lanes hx
    exact ⟨hl, hb, hu⟩
  cases hp : q.pick with
  | nothing => rw [sieveNext_nothing hp] at h; cases h
  | barrier =>
    rw [sieveNext_barrier hp] at h
    obtain ⟨hl, hb, hu⟩ := hbulk h
    exact .inr ⟨hl, hb, hu⟩
  | lane sv => cases sv with
    | urgent => rw [sieveNext_urgent hp] at h; exact .inl (takeUrgent_lanes h)
    | pinned => rw [sieveNext_pinned hp] at h; exact .inl (takeUrgent_lanes h)
    | bulk => rw [sieveNext_bulk hp] at h; exact .inr (hbulk h)
    | none => rw [sieveNext_none hp] at h; exact .inr (hbulk h)

theorem takeUrgent_some {u : Entry} {us : List Entry} (hu : q.urg = u :: us) (sv : Serving) :
    ∃ r, q.takeUrgent pool sv = some r ∧ r.lane = .urgent := by
  unfold Queue.takeUrgent
  rw [hu]
  exact ⟨_, rfl, rfl⟩

theorem takeBulk_some {b : Entry} {bs : List Entry} (hc : q.chain = b :: bs) (sv : Serving) :
    ∃ r, q.takeBulk pool sv = some r ∧ r.e = b ∧ r.q.rEpoch = q.rEpoch := by
  have hsome : ∃ r, q.takeBulk pool sv = some r ∧ r.e = b := by
    unfold Queue.takeBulk
    rw [hc]
    exact ⟨_, rfl, rfl⟩
  obtain ⟨r, hr, he⟩ := hsome
  obtain ⟨-, -, -, -, hepoch⟩ := takeBulk_lanes hr
  exact ⟨r, hr, he, hepoch⟩

/-! ### Within a packet, and between packets -/

theorem sieveNext_serving_bulk (hs : q.servingNow = .bulk) {r : Taken} (h : q.sieveNext pool = some r) : r.lane = .bulk := by
  cases hc : q.chain.isEmpty
  · rw [sieveNext_bulk (by unfold Queue.pick; rw [hs]; dsimp only; rw [hc]; rfl)] at h
    exact (takeBulk_lanes h).1
  · rw [sieveNext_nothing (by unfold Queue.pick; rw [hs]; dsimp only; rw [hc]; rfl)] at h
    cases h

theorem sieveNext_serving_urgent {u : Entry} {us : List Entry} (hu : q.urg = u :: us) (hs : q.servingNow = .urgent) {r : Taken}
    (h : q.sieveNext pool = some r) : r.lane = .urgent := by
  rw [sieveNext_urgent (by unfold Queue.pick; rw [hs]; dsimp only; rw [hu]; rfl)] at h
  exact (takeUrgent_lanes h).1

/-- What the head of the settling chain lets the Sieve take between packets, `waits` saying that an urgent item of the read
epoch waits. -/
def Queue.pickChain (q : Queue) (waits : Bool) : Pick :=
  match q.chain with
  | [] => .nothing
  | b :: _ => if b.item.barrier then (if waits then .nothing else .barrier) else .lane .bulk

theorem pickChain_nil (h : q.chain = []) (waits : Bool) : q.pickChain waits = .nothing := by
  unfold Queue.pickChain
  rw [h]
theorem pickChain_cons {b : Entry} {bs : List Entry} (h : q.chain = b :: bs) (waits : Bool) :
    q.pickChain waits = if b.item.barrier then (if waits then .nothing else .barrier) else .lane .bulk := by
  unfold Queue.pickChain
  rw [h]

theorem pick_between {u : Entry} {us : List Entry} (hu : q.urg = u :: us) (hs : q.servingNow = .none)
    (hpin : ¬ (q.pinValid = true ∧ q.bulkLeft = q.pinPos)) : q.pick =
    if (u.tag == q.rEpoch && !u.pinned && q.headClosed) = true then .lane .urgent
    else q.pickChain (u.tag == q.rEpoch) := by
  have hat : q.atPin = false := by
    unfold Queue.atPin
    cases hv : q.pinValid
    · rfl
    · rw [Bool.true_and, beq_eq_false_iff_ne]
      exact fun heq => hpin ⟨hv, heq⟩
  have hhead : q.headOfEpoch = (u.tag == q.rEpoch) := by
    unfold Queue.headOfEpoch
    rw [hu]
  have htake : (q.urg.take 1).any (fun e => e.pinned) = u.pinned := by
    rw [hu]
    exact Bool.or_false _
  unfold Queue.pick
  rw [hs]
  dsimp only
  rw [hat, hhead, htake, Bool.false_and, if_neg Bool.false_ne_true]
  rfl

/-- Between packets: the urgent packet of the read epoch goes first, and none ahead of the barrier that opens its epoch. -/
theorem sieveNext_between {u : Entry} {us : List Entry} (hu : q.urg = u :: us) (hs : q.servingNow = .none)
    (hpin : ¬ (q.pinValid = true ∧ q.bulkLeft = q.pinPos)) :
    (u.tag = q.rEpoch → u.pinned = false → q.headClosed = true → ∃ r, q.sieveNext pool = some r ∧ r.lane = .urgent) ∧
      (u.tag ≠ q.rEpoch → ∀ r, q.sieveNext pool = some r → r.lane = .bulk) ∧
      (∀ b bs, q.chain = b :: bs → b.item.barrier = true →
        (u.tag = q.rEpoch → (u.pinned = true ∨ q.headClosed = false) → q.sieveNext pool = none) ∧
        (u.tag ≠ q.rEpoch → ∃ r, q.sieveNext pool = some r ∧ r.e = b ∧ r.q.rEpoch = q.rEpoch + 1)) := by
  have hpick := pick_between hu hs hpin
  refine ⟨fun htag hpinned hclosed => ?_, fun htag r hr => ?_, fun b bs hc hb => ⟨fun htag hwait => ?_, fun htag => ?_⟩⟩
  · have h : q.pick = .lane .urgent := hpick.trans (if_pos (by rw [htag, hpinned, hclosed]; simp))
    rw [sieveNext_urgent h]
    exact takeUrgent_some hu _
  · rw [beq_eq_false_iff_ne.mpr htag, Bool.false_and, Bool.false_and, if_neg Bool.false_ne_true] at hpick
    cases hc : q.chain with
    | nil =>
      rw [pickChain_nil hc] at hpick
      rw [sieveNext_nothing hpick] at hr
      cases hr
    | cons b bs =>
      rw [pickChain_cons hc] at hpick
      cases hb : b.item.barrier
      · rw [hb, if_neg Bool.false_ne_true] at hpick
        rw [sieveNext_bulk hpick] at hr
        exact (takeBulk_lanes hr).1
      · rw [hb, if_pos rfl, if_neg Bool.false_ne_true] at hpick
        rw [sieveNext_barrier hpick] at hr
        exact (takeBulk_lanes hr).1
  · have hnot : (u.tag == q.rEpoch && !u.pinned && q.headClosed) = false := by
      obtain hp | hcl := hwait
      · rw [hp]; simp
      · rw [hcl, Bool.and_false]
    rw [hnot, if_neg Bool.false_ne_true, pickChain_cons hc, hb, if_pos rfl, htag, if_pos (beq_self_eq_true _)] at hpick
    exact sieveNext_nothing hpick
  · rw [beq_eq_false_iff_ne.mpr htag, Bool.false_and, Bool.false_and, if_neg Bool.false_ne_true,
      pickChain_cons hc, hb, if_pos rfl, if_neg Bool.false_ne_true] at hpick
    rw [sieveNext_barrier hpick]
    exact takeBulk_some (q := { q with rEpoch := q.rEpoch + 1 }) hc .none

end

/-! ### What an item's way in and out leaves of a queue's record -/

theorem enter_aside {q : Queue} {f : QFmt} {guard pool : Nat} {i : Item} {urgent : Bool} {notes : List Note} {order : Option Nat}
    {r : Entered} (h : q.enter f guard pool i urgent notes order = some r) : r.q.aside = q.aside := by
  cases hlane : q.takesUrgent f i urgent
  · have hfree : i.cells ≤ q.freeCells pool := by
      by_contra hfull
      rw [enter_full hlane (Nat.lt_of_not_le hfull)] at h
      cases h
    obtain ⟨r', hr, -, -, haside⟩ := enter_bulk (guard := guard) (notes := notes) (order := order) hlane hfree
    obtain rfl := Option.some.inj (h.symm.trans hr)
    exact haside
  · obtain ⟨r', hr, -, -, haside⟩ := enter_urgent (guard := guard) (pool := pool) (notes := notes) (order := order) hlane
    obtain rfl := Option.some.inj (h.symm.trans hr)
    exact haside

theorem takeBulk_aside {q : Queue} {pool : Nat} {sv : Serving} {r : Taken} (h : q.takeBulk pool sv = some r) :
    r.q.aside = q.aside := by
  unfold Queue.takeBulk at h
  cases hc : q.chain with
  | nil => rw [hc] at h; cases h
  | cons e es =>
    rw [hc] at h
    obtain rfl := Option.some.inj h
    have haside : ((q.headGone es).refill pool).1.aside = (q.headGone es).aside :=
      aside_of_bulkless (refill_bulkless (q.headGone es) pool)
    exact haside

theorem takeUrgent_aside {q : Queue} {pool : Nat} {sv : Serving} {r : Taken} (h : q.takeUrgent pool sv = some r) :
    r.q.aside = q.aside := by
  unfold Queue.takeUrgent at h
  cases hu : q.urg with
  | nil => rw [hu] at h; cases h
  | cons e es =>
    rw [hu] at h
    obtain rfl := Option.some.inj h
    exact queue_if (π := Queue.aside) rfl (queue_if (π := Queue.aside) rfl rfl)

theorem sieveNext_aside {q : Queue} {pool : Nat} {r : Taken} (h : q.sieveNext pool = some r) : r.q.aside = q.aside := by
  cases hp : q.pick with
  | nothing => rw [sieveNext_nothing hp] at h; cases h
  | barrier =>
    rw [sieveNext_barrier hp] at h
    exact takeBulk_aside (q := { q with rEpoch := q.rEpoch + 1 }) h
  | lane sv => cases sv with
    | urgent => rw [sieveNext_urgent hp] at h; exact takeUrgent_aside h
    | pinned => rw [sieveNext_pinned hp] at h; exact takeUrgent_aside h
    | bulk => rw [sieveNext_bulk hp] at h; exact takeBulk_aside h
    | none => rw [sieveNext_none hp] at h; exact takeBulk_aside h

/-- What the data window of a queue holds (R209). -/
def Queue.window (q : Queue) : Queue := { popExt := q.popExt, lastPop := q.lastPop }

theorem window_of_aside {q r : Queue} (h : r.aside = q.aside) : r.window = q.window := by
  obtain ⟨-, hrest⟩ := Prod.mk.inj h
  obtain ⟨-, hrest⟩ := Prod.mk.inj hrest
  obtain ⟨-, hrest⟩ := Prod.mk.inj hrest
  obtain ⟨hext, hlast⟩ := Prod.mk.inj hrest
  unfold Queue.window
  rw [hext, hlast]

end Sys2Proof.Machine
end

section
/-! SUPPORT. What the operations on one port can reach, whatever is looked at. A view of the state that shows nothing of the
queues, the holding register and the event bits of a port, nor of the tie groups, the attention unit and the counters, shows
no operation on the port's items (`ItemBlind`); one that shows nothing of the port at all shows no operation on its line
(`Blind`). One lemma per operation, in the order of their definitions. -/

namespace Sys2Proof.Machine

/-- A port but for what the operations on its items move: its queues, its holding register, its event bits, the losses and
the progress they count, and its place in a tie round. -/
def Port.hull (x : Port) : Port :=
  { x with
    outage := 0
    line := { x.line with lineEvents := 0, reported := {}, lfDiscard := false }
    rx := { x.rx with holding := none, charEvents := 0, overruns := 0 }
    af := { x.af with events := 0 }
    flow := { x.flow with events := 0, tieWait := none }
    rxq := {}, txq := {}, rxCheck := {}, txCheck := {}, unseen := Vector.replicate 4 0
    rxqEvents := 0, txqEvents := 0, qFaults := 0, txLoss := 0, txLossUnknown := false, lossFrom := none
    resetsRx := 0, resetsTx := 0, entered := 0, gaps := 0, placed := 0 }

theorem hide_hull {f : Port → Port} (hf : ∀ x, (f x).hull = x.hull) (k : Fin 4) (b : Nat) (x : Port) :
    (f (x.hide k b)).hull = x.hull := by
  rw [hf]
  unfold Port.hide
  split <;> rfl

/-- Write one LINE mark in the lane of the packet in which it falls (R127). -/
def State.lineMarkTo (p : PortId) (m : BitVec 2 × Nat) (t : State) : State := t.offerLine p m.1 m.2 (t.port p).markLane

/-- A port's hull with its whole line, what the host counts on, and what its data windows hold. -/
def Port.stock (x : Port) : Port :=
  { x.hull with line := x.line, entered := x.entered, placed := x.placed, rxq := x.rxq.window, txq := x.txq.window }

theorem hull_of_stock {x y : Port} (h : x.stock = y.stock) : x.hull = y.hull := by
  have hh : x.stock.hull = y.stock.hull := congrArg Port.hull h
  exact hh

theorem passBarrier_window (q : Queue) : q.passBarrier.window = q.window := by
  unfold Queue.passBarrier
  split <;> rfl

theorem hide_stock {f : Port → Port} (hf : ∀ x, (f x).stock = x.stock) (k : Fin 4) (b : Nat) (x : Port) :
    (f (x.hide k b)).stock = x.stock := by
  rw [hf]
  unfold Port.hide
  split <;> rfl

/-- The view `π` shows nothing of port `p` but its stock, and nothing of its region, the tie groups and the events that an
operation on its items raises. -/
structure StockBlind (p : PortId) {α : Type} (π : State → α) : Prop where
  stock : ∀ (s : State) (f : Port → Port), (f (s.port p)).stock = (s.port p).stock → π (s.modPort p f) = π s
  modRegion : ∀ s f, (∀ y : Region, (f y).frozen = y.frozen) → π (s.modRegion (regionOf p) f) = π s
  modTie : ∀ s g f, π (s.modTie g f) = π s
  portEvent : ∀ k s, π (s.attEvent (portSrc p k)) = π s
  tieEvent : ∀ g s, π (s.attEvent (tieSrc g)) = π s
  tieFall : ∀ g s, π (s.attFall (tieSrc g)) = π s
  count : ∀ code s, π (s.count code) = π s
  hostError : ∀ s, π (s.hostError 4) = π s

open Classical in
/-- A view that shows no change which keeps a port's hull shows none that keeps its stock. -/
theorem stock_of_hull {α : Type} {p : PortId} {π : State → α}
    (keep : ∀ s f, (∀ x : Port, (f x).hull = x.hull) → π (s.modPort p f) = π s) (s : State) (f : Port → Port)
    (h : (f (s.port p)).stock = (s.port p).stock) : π (s.modPort p f) = π s := by
  have hsame : s.modPort p f = s.modPort p (fun x => if x = s.port p then f x else x) :=
    congrArg (s.setPort p) (if_pos rfl).symm
  rw [hsame]
  refine keep s _ fun x => ?_
  split
  · next hx =>
    subst hx
    exact hull_of_stock h
  · rfl

/-- The view `π` shows nothing of port `p` but its hull, and nothing of its region, the tie groups and the events that an
operation on its items raises. -/
structure ItemBlind (p : PortId) {α : Type} (π : State → α) : Prop extends StockBlind p π where
  keep : ∀ s f, (∀ x : Port, (f x).hull = x.hull) → π (s.modPort p f) = π s
  stock := stock_of_hull keep

/-- The view `π` shows nothing of port `p`, its region and the tie groups, and no event that an operation on its line
raises. -/
structure Blind (p : PortId) {α : Type} (π : State → α) : Prop extends ItemBlind p π where
  modPort : ∀ s f, π (s.modPort p f) = π s
  shortsEvent : ∀ s, π (s.powerEvent 4) = π s

section
variable {α : Type} {p : PortId} {π : State → α} (hb : StockBlind p π)
include hb

theorem StockBlind.still (s : State) (f : Port → Port) (h : ∀ x : Port, (f x).stock = x.stock) : π (s.modPort p f) = π s :=
    hb.stock s f (h _)
theorem StockBlind.setQueue {d : Dir} {q : Queue} {s : State} (h : q.window = (s.queue p d).window) : π (s.setQueue p d q) = π s := by
  refine hb.stock s _ ?_
  cases d
  · exact congrArg (fun w => { (s.port p).stock with rxq := w }) h
  · exact congrArg (fun w => { (s.port p).stock with txq := w }) h
theorem StockBlind.portCount (e s) : π (State.portCount e p s) = π s := hb.count ..
theorem StockBlind.markChar (b s) : π (State.markChar b p s) = π s := by
  unfold State.markChar
  exact (hb.portCount ..).trans (hb.still _ _ (by exact fun x => hide_stock (fun _ => rfl) 2 b.val x))
theorem StockBlind.tell (n s) : π (State.tell p n s) = π s :=
  (hb.portEvent ..).trans (hb.still _ _ (by exact fun _ => rfl))
theorem StockBlind.tellAll (ns s) : π (State.tellAll p ns s) = π s :=
    forEach_keeps (fun n _ t => hb.tell n t) s
theorem StockBlind.charEvent (b s) : π (State.charEvent b p s) = π s := (hb.tell ..).trans (hb.markChar ..)
theorem StockBlind.markAf (b s) : π (State.markAf b p s) = π s := by
  unfold State.markAf
  exact (hb.portCount ..).trans (hb.still _ _ (by exact fun x => hide_stock (fun _ => rfl) 3 b.val x))
theorem StockBlind.afEvent (b s) : π (State.afEvent b p s) = π s := (hb.tell ..).trans (hb.markAf ..)
theorem StockBlind.flowEvent (b s) : π (State.flowEvent b p s) = π s := by
  unfold State.flowEvent
  exact (hb.portEvent ..).trans ((hb.portCount ..).trans (hb.still _ _ (by exact fun _ => rfl)))
theorem StockBlind.markRxq (b s) : π (State.markRxq b p s) = π s := by
  unfold State.markRxq
  exact (hb.portCount ..).trans (hb.still _ _ (by exact fun x => hide_stock (fun _ => rfl) 1 b.val x))
theorem StockBlind.rxqEvent (b s) : π (State.rxqEvent b p s) = π s := by
  unfold State.rxqEvent
  simp only [↓hb.tell, ↓hb.markRxq, ↓apply_ite π, ite_self]
theorem StockBlind.txqEvent (b s) : π (State.txqEvent b p s) = π s := by
  unfold State.txqEvent
  have hset := (hb.portCount (40 + b) _).trans
    (hb.still s (fun x => { x with txqEvents := x.txqEvents ||| oneBit 5 b }) fun _ => rfl)
  exact keeps_if hset ((hb.portEvent ..).trans hset)
theorem StockBlind.qFaultEvent (b s) : π (State.qFaultEvent b p s) = π s := by
  unfold State.qFaultEvent
  exact (hb.portEvent ..).trans ((hb.portCount ..).trans (hb.still _ _ (by exact fun _ => rfl)))
theorem StockBlind.setPool (n s) : π (State.setPool p n s) = π s := by
  unfold State.setPool
  extract_lets r old s1 s2
  have h1 : π s1 = π s := hb.modRegion _ _ (by exact fun _ => rfl)
  have h2 : π s2 = π s := (hb.modRegion _ _ (by exact fun _ => rfl)).trans h1
  exact keeps_if ((hb.count ..).trans h2) h2
theorem StockBlind.putQueue {d : Dir} {q : Queue} {s : State} (h : q.window = (s.queue p d).window) (n : Nat) :
    π (s.putQueue p d q n) = π s := (hb.setPool ..).trans (hb.setQueue h)
theorem StockBlind.modQueue (d : Dir) {f : Queue → Queue} (s : State) (h : ∀ q, (f q).window = q.window) :
    π (s.modQueue p d f) = π s := hb.setQueue (h _)
theorem StockBlind.deliver (s) : π (State.deliver p s) = π s :=
    (hb.tellAll ..).trans (hb.setQueue rfl)
theorem StockBlind.addLoss (d reason count notes s) : π (State.addLoss p d reason count notes s) = π s :=
    hb.modQueue d s (by exact fun _ => rfl)
theorem StockBlind.addHeldLoss (s) : π (State.addHeldLoss p s) = π s := hb.modQueue .rx s (by exact fun _ => rfl)
theorem StockBlind.lossSince (o s) : π (State.lossSince p o s) = π s := hb.still _ _ (by exact fun _ => rfl)
theorem StockBlind.enterItem {d i u ns o} {s t : State} (h : s.enterItem p d i u ns o = some t) : π t = π s := by
  unfold State.enterItem at h
  dsimp only at h
  split at h
  · exact absurd h (by simp)
  split at h
  · exact absurd h (by simp)
  · rename_i r hr
    cases h
    have hq : r.q.window = (s.queue p d).window := window_of_aside (enter_aside hr)
    have hput := hb.putQueue (s := s) hq r.pool
    cases d
    · refine keeps_if ((hb.markRxq ..).trans ?_) ?_
      all_goals exact keeps_if ((hb.markRxq ..).trans hput) hput
    · refine keeps_if ((hb.txqEvent ..).trans ?_) ?_
      all_goals exact keeps_if ((hb.txqEvent ..).trans hput) hput
theorem StockBlind.noteTxGap (r s) : π (State.noteTxGap p r s) = π s := by
  unfold State.noteTxGap
  refine (hb.txqEvent ..).trans (hb.still _ _ ?_)
  intro x
  split <;> rfl
theorem StockBlind.writeGap (d s) : π (State.writeGap p d s) = π s := by
  unfold State.writeGap
  split
  · rfl
  · dsimp only
    split
    · rfl
    · have h2 := (hb.enterItem ‹_›).trans (hb.modQueue d s (by exact fun _ => rfl))
      cases d
      · exact keeps_if ((hb.addHeldLoss ..).trans ((hb.markRxq ..).trans h2)) ((hb.markRxq ..).trans h2)
      · exact (hb.noteTxGap ..).trans h2
theorem StockBlind.payFlush (d n s) : π (State.payFlush p d n s) = π s := by
  induction n generalizing s with
  | zero => rfl
  | succ n ih =>
    unfold State.payFlush
    split
    · rfl
    · exact (ih _).trans ((hb.modQueue d _ (by exact fun _ => rfl)).trans (hb.enterItem ‹_›))
theorem StockBlind.tryGap (d force s) : π (State.tryGap p d force s) = π s := by
  unfold State.tryGap
  dsimp only
  refine keeps_if rfl ?_
  cases d
  · exact (hb.deliver ..).trans ((hb.payFlush ..).trans (hb.writeGap ..))
  · exact (hb.payFlush ..).trans (hb.writeGap ..)
theorem StockBlind.takeItem {d e l} {s t : State} (h : s.takeItem p d = some (e, l, t)) : π t = π s := by
  unfold State.takeItem at h
  split at h
  · exact absurd h (by simp)
  split at h
  · exact absurd h (by simp)
  · rename_i r hr
    cases h
    exact hb.putQueue (window_of_aside (sieveNext_aside hr)) _
theorem StockBlind.tieReady (g s) : π (State.tieReady g s) = π s := by
  unfold State.tieReady
  simp only [↓hb.modTie, ↓hb.tieEvent, ↓hb.tieFall, ↓apply_ite π, ite_self]
theorem StockBlind.tieLeave (p' g s) : π (State.tieLeave p' g s) = π s := hb.modTie ..
theorem StockBlind.tieOpen (g s) : π (State.tieOpen g s) = π s := by
  unfold State.tieOpen
  exact hb.modTie ..
theorem StockBlind.tieSync (s) : π (State.tieSync p s) = π s := by
  unfold State.tieSync
  dsimp only
  refine (forEach_keeps (fun g _ t => (hb.tieReady g _).trans (hb.tieOpen g t)) _).trans ?_
  refine keeps_if rfl ?_
  split
  · exact (hb.tieLeave ..).trans (hb.still _ _ (by exact fun _ => rfl))
  · exact hb.still _ _ (by exact fun _ => rfl)
theorem StockBlind.passTie (s) : π (State.passTie p s) = π s := by
  unfold State.passTie
  refine keeps_if (keeps_if (hb.modQueue .tx s passBarrier_window) rfl) ?_
  split
  · exact hb.takeItem ‹_›
  · rfl
theorem StockBlind.endWait (s) : π (State.endWait p s) = π s :=
  (hb.still _ _ (by exact fun _ => rfl)).trans (hb.passTie ..)
theorem StockBlind.leaveTie (s) : π (State.leaveTie p s) = π s := by
  unfold State.leaveTie
  dsimp only
  refine (hb.tieSync _).trans ((forEach_keeps (fun g _ t => hb.modTie t g _) _).trans ?_)
  split
  · exact (hb.tieLeave ..).trans (hb.endWait ..)
  · rfl
theorem StockBlind.finishFlush (d s) : π (State.finishFlush p d s) = π s := by
  unfold State.finishFlush
  split
  · refine (hb.tieSync ..).trans ((hb.tryGap ..).trans ((hb.modQueue d _ (by exact fun _ => rfl)).trans ?_))
    exact keeps_if rfl (hb.addLoss ..)
  · rfl
theorem StockBlind.atBoundary (d s) : π (State.atBoundary p d s) = π s := keeps_if (hb.finishFlush ..) rfl
theorem StockBlind.boundaryBefore (d i s) : π (State.boundaryBefore p d i s) = π s :=
    keeps_if (hb.finishFlush ..) rfl
theorem StockBlind.takeFlush (reason s) : π (State.takeFlush p reason s) = π s := by
  unfold State.takeFlush
  dsimp only
  split
  · rfl
  · exact hb.modQueue .tx s (by exact fun _ => rfl)
  · exact (hb.modQueue .tx _ (by exact fun _ => rfl)).trans (keeps_if rfl (hb.addLoss ..))
theorem StockBlind.flushDiscard (d i notes s) : π (State.flushDiscard p d i notes s) = π s :=
    (hb.atBoundary ..).trans (hb.modQueue d s fun q => by dsimp only; split <;> rfl)
theorem StockBlind.rxEntered (h s) : π (State.rxEntered p h s) = π s := by
  unfold State.rxEntered
  simp only [↓hb.portCount, ↓hb.markChar, ↓apply_ite π, ite_self]
  cases h.af
  · rfl
  · exact hb.markAf ..
theorem StockBlind.clearHolding (s) : π (State.clearHolding p s) = π s := hb.still _ _ (by exact fun _ => rfl)
theorem StockBlind.drain (s) : π (State.drain p s) = π s := by
  unfold State.drain
  dsimp only
  have h1 := (hb.tryGap .rx false _).trans (hb.atBoundary .rx s)
  split
  · exact (hb.tieSync ..).trans h1
  · rename_i h _
    have h2 := (hb.boundaryBefore .rx h.item _).trans h1
    have h3 := (hb.clearHolding _).trans h2
    refine keeps_if ?_ (keeps_if ((hb.tieSync ..).trans h2) ?_)
    · exact (hb.tieSync ..).trans ((hb.flushDiscard ..).trans ((hb.rxEntered ..).trans h3))
    · split
      · exact (hb.tieSync ..).trans h2
      · exact (hb.tieSync ..).trans ((hb.deliver ..).trans ((hb.rxEntered ..).trans
          ((hb.enterItem ‹_›).trans h3)))
theorem StockBlind.loseItem (d reason i notes s) : π (State.loseItem p d reason i notes s) = π s := by
  unfold State.loseItem
  exact (hb.modQueue d _ (by exact fun _ => rfl)).trans (hb.addLoss ..)
theorem StockBlind.offer (h s) : π (State.offer p h s) = π s := by
  unfold State.offer
  refine (hb.drain _).trans ((hb.still _ _ (by exact fun _ => rfl)).trans ?_)
  split
  · exact hb.drain s
  · exact (hb.markChar ..).trans ((hb.still _ _ (by exact fun _ => rfl)).trans ((hb.loseItem ..).trans (hb.drain s)))
theorem StockBlind.offerMark (i lane s) : π (State.offerMark p i lane s) = π s := by
  unfold State.offerMark
  simp only [↓hb.offer]
theorem StockBlind.discardHolding (reason s) : π (State.discardHolding p reason s) = π s := by
  unfold State.discardHolding
  dsimp only
  have h : ∀ c : Bool, π (if c then s else s.drain p) = π s := fun c => keeps_if rfl (hb.drain ..)
  split
  · exact h _
  · exact (hb.loseItem ..).trans ((hb.clearHolding ..).trans (h _))
theorem StockBlind.cancelFlush (d s) : π (State.cancelFlush p d s) = π s := by
  unfold State.cancelFlush
  refine (hb.modQueue d _ (by exact fun _ => rfl)).trans ?_
  split
  · exact keeps_if rfl (hb.addLoss ..)
  · rfl

end

section
variable {α : Type} {p : PortId} {π : State → α} (hb : ItemBlind p π)
include hb

theorem ItemBlind.setQueue (d q s) : π (State.setQueue s p d q) = π s := hb.keep _ _ (by exact fun x => by cases d <;> rfl)
theorem ItemBlind.markLine (c s) : π (State.markLine c p s) = π s :=
  hb.keep _ _ fun x => hide_hull (fun _ => rfl) 0 (c - 1) x
theorem ItemBlind.putQueue (d q n s) : π (State.putQueue p d q n s) = π s :=
    (hb.setPool ..).trans (hb.setQueue ..)
theorem ItemBlind.modQueue (d f s) : π (State.modQueue p d f s) = π s := hb.setQueue ..
theorem ItemBlind.offerLine (scope c lane s) : π (State.offerLine p scope c lane s) = π s := by
  unfold State.offerLine
  simp only [↓hb.markLine, ↓hb.offer]
theorem ItemBlind.emptyQueue (d reason known extra s) : π (State.emptyQueue p d reason known extra s) = π s := by
  unfold State.emptyQueue
  extract_lets q n r s1 s2 notes s3 rg s4 s5
  have h1 : π s1 = π s := (hb.setPool ..).trans (hb.keep _ _ (by exact fun x => by cases d <;> rfl))
  have h2 : π s2 = π s := by
    cases d
    · exact h1
    · exact (hb.lossSince ..).trans h1
  have h3 : π s3 = π s := keeps_if ((hb.addLoss ..).trans h2) (keeps_if h2 ((hb.addLoss ..).trans h2))
  have h4 : π s4 = π s := keeps_if h3 ((hb.count ..).trans ((hb.modRegion _ _ (by exact fun _ => rfl)).trans h3))
  have h5 : π s5 = π s := (hb.tryGap ..).trans h4
  cases d
  · exact (hb.drain _).trans h5
  · exact (hb.tieSync _).trans ((hb.keep _ _ (by exact fun _ => rfl)).trans h5)
theorem ItemBlind.resetQueue (d reason known extra s) :
    π (State.resetQueue p d reason known extra s) = π s := (hb.emptyQueue ..).trans (hb.cancelFlush ..)
theorem ItemBlind.divertTags (d n m s) : π (State.divertTags p d n m s) = π s := hb.modQueue ..
theorem ItemBlind.renewPool (s) : π (State.renewPool (regionOf p) s) = π s := hb.modRegion _ _ fun _ => rfl
theorem ItemBlind.faultReset (d c q s) : π (State.faultReset p d c q s) = π s := by
  unfold State.faultReset
  extract_lets ptr s1 s2 s3
  have h1 : π s1 = π s := (hb.divertTags ..).trans ((hb.resetQueue ..).trans (hb.renewPool ..))
  clear_value s1
  have h2 : π s2 = π s := by
    refine (hb.keep _ _ ?_).trans h1
    intro x
    cases d <;> simp only [Port.hull]
  have h3 : π s3 = π s := keeps_if ((hb.qFaultEvent ..).trans h2) h2
  exact keeps_if ((hb.qFaultEvent ..).trans h3) h3
theorem ItemBlind.resetParted (d s) : π (State.resetParted p d s) = π s := keeps_if rfl (hb.faultReset ..)
theorem ItemBlind.crossFlush (d s) : π (State.crossFlush p d s) = π s := by
  unfold State.crossFlush
  extract_lets x q whole r s1 fl s2
  have h1 : π s1 = π s := by
    dsimp only [s1]; split
    · rfl
    · exact hb.lossSince ..
  have h2 : π s2 = π s := (hb.putQueue ..).trans h1
  refine keeps_if ((hb.tieSync ..).trans (keeps_if ?_ ?_)) ((hb.faultReset ..).trans h2)
  · exact (hb.takeFlush ..).trans h2
  · exact (hb.atBoundary ..).trans h2
theorem ItemBlind.discardQueue (d reason s) : π (State.discardQueue p d reason s) = π s := by
  unfold State.discardQueue
  extract_lets q whole r t1 t2
  have h1 : π t1 = π s := hb.putQueue ..
  have h2 : π t2 = π s := by
    dsimp only [t2]; repeat' split
    · exact h1
    · exact (hb.addLoss ..).trans h1
    · exact (hb.addLoss ..).trans ((hb.lossSince ..).trans h1)
  exact keeps_if h2 ((hb.faultReset ..).trans h2)
theorem ItemBlind.txLost (reason i o s) : π (State.txLost p reason i o s) = π s :=
    (hb.keep _ _ (by exact fun _ => rfl)).trans ((hb.loseItem ..).trans (hb.lossSince ..))
theorem ItemBlind.txOver (i o s) : π (State.txOver p i o s) = π s :=
    keeps_if (hb.txLost ..) ((hb.hostError ..).trans (hb.txLost ..))
theorem ItemBlind.txEnter (i urgent o s) : π (State.txEnter p i urgent o s) = π s := by
  unfold State.txEnter
  dsimp only
  have h0 := hb.keep s (fun x => { x with placed := x.placed + BitVec.ofNat 24 i.cells }) fun _ => rfl
  have h1 := (hb.boundaryBefore .tx i _).trans h0
  have h2 := (hb.tryGap .tx false _).trans h1
  refine keeps_if ((hb.txLost ..).trans h0) (keeps_if ((hb.txLost ..).trans h0) (keeps_if ?_ (keeps_if ?_ ?_)))
  · exact (hb.keep _ _ (by exact fun _ => rfl)).trans ((hb.flushDiscard ..).trans ((hb.lossSince ..).trans h1))
  · exact (hb.txOver ..).trans h2
  · split
    · exact (hb.txOver ..).trans h2
    · exact (hb.tieSync ..).trans ((hb.keep _ _ (by exact fun _ => rfl)).trans ((hb.enterItem ‹_›).trans h2))
theorem ItemBlind.lineMarkTo (m s) : π (State.lineMarkTo p m s) = π s := hb.offerLine ..
theorem ItemBlind.writeLineMarks (s) : π (State.writeLineMarks p s) = π s := by
  unfold State.writeLineMarks
  split
  · rfl
  · change π (forEach (s.port p).line.dueMarks (State.lineMarkTo p) (s.modLine p LineSt.report)) = π s
    exact (forEach_keeps (fun m _ t => hb.lineMarkTo m t) _).trans (hb.keep s _ (by exact fun _ => rfl))
end

section
variable {α : Type} {p : PortId} {π : State → α} (hb : Blind p π)
include hb

theorem Blind.actFlowCode (ch s) : π (State.actFlowCode p ch s) = π s := by
  unfold State.actFlowCode
  simp only [↓hb.modPort, ↓hb.portCount, ↓hb.tieSync, ↓apply_ite π, ite_self]
theorem Blind.useGrant (s) : π (State.useGrant p s) = π s := by
  unfold State.useGrant
  simp only [↓hb.tieSync, ↓hb.modPort, ↓hb.flowEvent, ↓apply_ite π, ite_self]
theorem Blind.modAf (f s) : π (State.modAf p f s) = π s := by
  unfold State.modAf
  simp only [↓hb.modPort]
theorem Blind.muteDiscard (s) : π (State.muteDiscard p s) = π s := by
  unfold State.muteDiscard
  simp only [↓hb.tieSync, ↓hb.portCount, ↓hb.modAf]
theorem Blind.addrChar (cond ch s) : π (State.addrChar p cond ch s) = π s := by
  unfold State.addrChar
  simp only [↓hb.offer, ↓hb.modAf, ↓hb.muteDiscard, ↓apply_ite π, ite_self]
  repeat' (first | (with_reducible rfl) | split | (simp only [↓hb.offer, ↓hb.modAf, ↓hb.muteDiscard]))
theorem Blind.frameErr (code s) : π (State.frameErr p code s) = π s := by
  unfold State.frameErr
  simp only [↓hb.offer, ↓hb.modAf]
theorem Blind.frameErrIfOpen (code s) : π (State.frameErrIfOpen p code s) = π s := by
  unfold State.frameErrIfOpen
  simp only [↓hb.frameErr, ↓apply_ite π, ite_self]
theorem Blind.frameEnd (s) : π (State.frameEnd p s) = π s := by
  unfold State.frameEnd
  simp only [↓hb.portCount, ↓hb.offerMark, ↓hb.modAf]
theorem Blind.frameStart (s) : π (State.frameStart p s) = π s := by
  unfold State.frameStart
  simp only [↓hb.offerMark, ↓hb.modAf, ↓hb.frameEnd, ↓apply_ite π, ite_self]
theorem Blind.frameChar (cond ch s) : π (State.frameChar p cond ch s) = π s := by
  unfold State.frameChar
  simp only []
  repeat' (first | (with_reducible rfl) | split | (simp only [↓hb.offer, ↓hb.modAf, ↓hb.frameErr, ↓hb.frameEnd, ↓hb.frameStart]))
theorem Blind.enterChar (cond ch s) : π (State.enterChar p cond ch s) = π s := by
  unfold State.enterChar
  simp only [↓hb.offer, ↓hb.actFlowCode, ↓hb.useGrant, ↓hb.addrChar, ↓hb.frameChar, ↓apply_ite π, ite_self]
theorem Blind.modLine (f s) : π (State.modLine p f s) = π s := by
  unfold State.modLine
  simp only [↓hb.modPort]

theorem Blind.enterLineFault (s) : π (State.enterLineFault p s) = π s := by
  unfold State.enterLineFault
  simp only [↓hb.modPort, ↓hb.leaveTie, ↓hb.drain, ↓hb.addLoss, ↓apply_ite π, ite_self]
theorem Blind.leaveLineFault (s) : π (State.leaveLineFault p s) = π s := by
  unfold State.leaveLineFault
  simp only [↓hb.modPort, ↓hb.tryGap, ↓hb.tieSync]
theorem Blind.lineChange (mid f s) : π (State.lineChange p mid f s) = π s := by
  unfold State.lineChange
  simp only [↓hb.modPort, ↓hb.shortsEvent, ↓hb.tieSync, ↓hb.frameErrIfOpen, ↓hb.enterLineFault, ↓hb.leaveLineFault, ↓apply_ite π, ite_self]
  repeat' (first | (with_reducible rfl) | split | (simp only [↓hb.modPort, ↓hb.offerMark, ↓hb.discardHolding, ↓hb.enterChar, ↓hb.writeLineMarks]))
theorem Blind.pairCause (pr mid f s) : π (State.pairCause p pr mid f s) = π s := by
  unfold State.pairCause
  simp only [↓hb.lineChange]
theorem Blind.startSense (prs s) : π (State.startSense p prs s) = π s := by
  unfold State.startSense
  simp only [↓hb.modLine, ↓apply_ite π, ite_self]
end

/-! ### The two views that are looked at most -/

theorem port_of_attEvent (i : SrcId) (s : State) (q : PortId) : (s.attEvent i).port q = s.port q := by
  obtain ⟨a, e, h⟩ := attEvent_form i s
  rw [h]
  rfl
theorem port_of_count (code : Nat) (s : State) (q : PortId) : (s.count code).port q = s.port q := by
  obtain ⟨a, c, e, h⟩ := count_form code s
  rw [h]
  rfl
theorem port_of_hostError (b : Fin 6) (s : State) (q : PortId) : (s.hostError b).port q = s.port q := by
  obtain ⟨a, c, e, h⟩ := hostError_form b s
  rw [h]
  rfl
theorem port_of_powerEvent (b : Fin 7) (s : State) (q : PortId) : (s.powerEvent b).port q = s.port q := by
  obtain ⟨a, c, e, h⟩ := powerEvent_form b s
  rw [h]
  rfl

/-- The operations on a port's items keep its hull. -/
theorem hull_blind (p : PortId) : ItemBlind p (fun s => (s.port p).hull) where
  keep s f h := by
    rw [State.port_modPort]
    exact h _
  modRegion _ _ _ := rfl
  modTie _ _ _ := rfl
  portEvent _ s := congrArg Port.hull (port_of_attEvent _ s p)
  tieEvent _ s := congrArg Port.hull (port_of_attEvent _ s p)
  tieFall _ _ := rfl
  count code s := congrArg Port.hull (port_of_count code s p)
  hostError s := congrArg Port.hull (port_of_hostError 4 s p)

/-- The operations on the line of one port keep every other port. -/
theorem port_blind {p q : PortId} (h : q ≠ p) : Blind p (fun s => s.port q) where
  keep s f _ := State.port_modPort_ne s f h
  modPort s f := State.port_modPort_ne s f h
  modRegion _ _ _ := rfl
  modTie _ _ _ := rfl
  portEvent _ s := port_of_attEvent _ s q
  tieEvent _ s := port_of_attEvent _ s q
  tieFall _ _ := rfl
  count code s := port_of_count code s q
  hostError s := port_of_hostError 4 s q
  shortsEvent s := port_of_powerEvent 4 s q

end Sys2Proof.Machine
end

section
/-! SUPPORT. Temperature (12 R347; 10 R293, R294): a sensor's reading, its warning, and Protection of the ports it holds. -/

namespace Sys2Proof.Machine

/-! ### What the operations on a line leave of the conditions -/

/-- The device's conditions, its bedrock but for the events that wait, and THERM_CRIT: what no operation on a line moves. -/
def State.conditions (s : State) : Power × Bool × Boot × Dev :=
  ({ s.pw with events := 0 }, s.pw.events.getLsbD 3, { s.boot with early := [] }, s.dev)

theorem conditions_of_attEvent (i : SrcId) (s : State) : (s.attEvent i).conditions = s.conditions := by
    obtain ⟨a, e, h⟩ := attEvent_form i s
    rw [h]
    rfl

theorem conditions_blind (p : PortId) : Blind p State.conditions where
  modPort _ _ := rfl
  keep _ _ _ := rfl
  modRegion _ _ _ := rfl
  modTie _ _ _ := rfl
  portEvent _ s := conditions_of_attEvent _ s
  tieEvent _ s := conditions_of_attEvent _ s
  tieFall _ _ := rfl
  count code s := by
    obtain ⟨a, c, e, h⟩ := count_form code s
    rw [h]
    rfl
  hostError s := by
    obtain ⟨a, c, e, h⟩ := hostError_form 4 s
    rw [h]
    rfl
  shortsEvent s := by
    obtain ⟨a, c, e, h⟩ := powerEvent_form 4 s
    rw [h]
    simp [State.conditions, oneBit]

section
variable {s t : State} (h : t.conditions = s.conditions)
include h
theorem serving_of_conditions : t.serving = s.serving :=
  congrArg (fun v : Power × Bool × Boot × Dev => v.2.2.1.stage == .released && v.1.inputOn && !(v.2.2.2.st == .deep)) h
theorem protHeld_of_conditions (p : PortId) : t.protHeld p = s.protHeld p :=
  congrArg (fun v : Power × Bool × Boot × Dev => (List.finRange 7).any (fun i => v.1.crit.getLsbD i.val && sensorHolds i p)) h
end

theorem port_of_apart {s t : State} {p q : PortId} (h : t.apart p = s.apart p) (hq : q ≠ p) : t.port q = s.port q := by
  have hport := congrArg (fun u : State => u.ports[q]) h
  have hne : p.val ≠ q.val := fun heq => hq (Fin.ext heq.symm)
  simpa [State.apart, State.port, hne] using hport

theorem prot_of_steady {s t : State} (h : t.steady = s.steady) (p : PortId) :
    (t.port p).line.a.prot = (s.port p).line.a.prot ∧ (t.port p).line.b.prot = (s.port p).line.b.prot := by
  have hport := congrArg (fun v => v[p]) h
  simp only [State.steady, Fin.getElem_fin, Vector.getElem_map] at hport
  have ha := congrArg (fun x : Port => x.line.a.prot) hport
  have hb := congrArg (fun x : Port => x.line.b.prot) hport
  exact ⟨ha, hb⟩

/-! ### Protection follows the critical sensors (R293) -/

theorem followProt_of_serving {s : State} (hs : s.serving = true) (mid : Mid) (p : PortId) :
    s.followProt mid p =
      if s.protHeld p && !((s.port p).line.a.prot && (s.port p).line.b.prot) then
        (s.lineChange p mid (fun l => l.modBoth (fun q => { q with prot := s.protHeld p }))).leaveTie p
      else s.lineChange p mid (fun l => l.modBoth (fun q => { q with prot := s.protHeld p })) :=
  if_pos hs

theorem followProt_conditions {s : State} (hs : s.serving = true) (mid : Mid) (p : PortId) :
    (s.followProt mid p).conditions = s.conditions := by
  rw [followProt_of_serving hs]
  exact keeps_if (((conditions_blind p).leaveTie _).trans ((conditions_blind p).lineChange ..)) ((conditions_blind p).lineChange ..)

theorem followProt_apart {s : State} (hs : s.serving = true) (mid : Mid) (p : PortId) :
    (s.followProt mid p).apart p = s.apart p := by
  rw [followProt_of_serving hs]
  exact keeps_if ((leaveTie_apart ..).trans (lineChange_apart ..)) (lineChange_apart ..)

/-- Both pairs of the port take condition 7 as the sensors hold them, or leave it. -/
theorem followProt_prot {s : State} (hs : s.serving = true) (mid : Mid) (p : PortId) :
    ((s.followProt mid p).port p).line.a.prot = s.protHeld p ∧ ((s.followProt mid p).port p).line.b.prot = s.protHeld p := by
  have hline := lineChange_steady p mid (fun l => l.modBoth (fun q => { q with prot := s.protHeld p })) s
  have hsteady : (s.followProt mid p).steady =
      (s.modPort p (fun x => x.withLine (x.line.modBoth (fun q => { q with prot := s.protHeld p })))).steady := by
    rw [followProt_of_serving hs]
    split
    · exact (leaveTie_steady ..).trans hline
    · exact hline
  obtain ⟨ha, hb⟩ := prot_of_steady hsteady p
  rw [ha, hb, State.port_modPort]
  exact ⟨rfl, rfl⟩

theorem releaseProt_conditions {s : State} (hs : s.serving = true) (p : PortId) :
    (s.releaseProt p).conditions = s.conditions :=
  keeps_if rfl (((conditions_blind p).startSense ..).trans (followProt_conditions hs ..))

theorem releaseProt_apart {s : State} (hs : s.serving = true) (p : PortId) :
    (s.releaseProt p).apart p = s.apart p :=
  keeps_if rfl ((startSense_apart ..).trans (followProt_apart hs ..))

/-- A port that no sensor holds any more leaves condition 7. -/
theorem releaseProt_prot {s : State} (hs : s.serving = true) {p : PortId} (hfree : s.protHeld p = false) :
    ((s.releaseProt p).port p).line.a.prot = false ∧ ((s.releaseProt p).port p).line.b.prot = false := by
  have hrelease : s.releaseProt p = (s.followProt .idle p).startSense p [.a, .b] := if_neg (by simp [hfree])
  obtain ⟨ha, hb⟩ := prot_of_steady (startSense_steady p [.a, .b] (s.followProt .idle p)) p
  rw [hrelease, ha, hb, ← hfree]
  exact followProt_prot hs .idle p

/-! ### A sensor's reading and its warning (R347) -/

@[simp] theorem getLsbD_oneBit (w i j : Nat) : (oneBit w i).getLsbD j = decide (j = i ∧ j < w) := by
  simp only [oneBit, BitVec.getLsbD_shiftLeft, BitVec.getLsbD_one]
  by_cases hji : j = i <;> simp [hji] <;> omega

@[simp] theorem getElem_oneBit {w i j : Nat} (hj : j < w) : (oneBit w i)[j] = decide (j = i) := by
  rw [← BitVec.getLsbD_eq_getElem hj, getLsbD_oneBit]
  simp [hj]

theorem getLsbD_or_oneBit {n i : Nat} (hi : i < n) (v : BitVec n) : (v ||| oneBit n i).getLsbD i = true := by
  rw [BitVec.getLsbD_or, getLsbD_oneBit]
  simp [hi]

theorem or_oneBit_of_set {n : Nat} {v : BitVec n} {i : Nat} (h : v.getLsbD i = true) : v ||| oneBit n i = v := by
  apply BitVec.eq_of_getLsbD_eq
  intro j hj
  rw [BitVec.getLsbD_or, getLsbD_oneBit]
  by_cases hji : j = i
  · simp [hji, h]
  · simp [hji]

/-- A sensor's warning (R347): its bit is set, and THERM_WARN where its die had none. -/
theorem enterWarn_form {s : State} (hreg : s.boot.regulated = true) (i : Fin 7) : ∃ a c e ev,
    s.enterWarn i = { s with
      att := a, cnt := c, boot := { s.boot with early := e }
      pw := { s.pw with warn := s.pw.warn ||| oneBit 7 i.val, events := ev } } ∧
    (s.pw.warn.getLsbD i.val = false →
      ev = if s.pw.warn &&& dieMask i = 0 then s.pw.events ||| oneBit 7 2 else s.pw.events) := by
  cases hset : s.pw.warn.getLsbD i.val with
  | true =>
    refine ⟨s.att, s.cnt, s.boot.early, s.pw.events, (if_pos hset).trans ?_, nofun⟩
    rw [or_oneBit_of_set hset]
  | false =>
    have hnew : ¬ s.pw.warn.getLsbD i.val = true := ne_true_of_eq_false hset
    by_cases hfirst : s.pw.warn &&& dieMask i = 0
    · have hev : (s.pw.warn &&& dieMask i == 0 && s.boot.regulated) = true := by simp [hfirst, hreg]
      obtain ⟨a, c, e, hform⟩ := powerEvent_form 2 { s with pw := { s.pw with warn := s.pw.warn ||| oneBit 7 i.val } }
      exact ⟨a, c, e, _, (if_neg hnew).trans ((if_pos hev).trans hform), fun _ => (if_pos hfirst).symm⟩
    · have hev : ¬ (s.pw.warn &&& dieMask i == 0 && s.boot.regulated) = true := by
        simp only [Bool.and_eq_true, beq_iff_eq]
        exact fun h => hfirst h.1
      exact ⟨s.att, s.cnt, s.boot.early, s.pw.events, (if_neg hnew).trans (if_neg hev), fun _ => (if_neg hfirst).symm⟩

/-! ### Thermal critical (R293, R347) -/

/-- The sensor that has been read is critical, THERM_CRIT where its die was not, before its ports follow. -/
def State.reachCritical (i : Fin 7) (temp : Byte) (s : State) : State :=
  let u := (s.setTemp ⟨i, temp⟩).enterWarn i
  let v : State := { u with pw := { u.pw with crit := u.pw.crit ||| oneBit 7 i.val } }
  if u.pw.crit &&& dieMask i == 0 && v.boot.regulated then v.powerEvent 3 else v

theorem reachCritical_form {s : State} (hreg : s.boot.regulated = true) (i : Fin 7) (temp : Byte) : ∃ a c e ev,
    s.reachCritical i temp = { s with
      att := a, cnt := c, boot := { s.boot with early := e }
      pw := { s.pw with
        temps := s.pw.temps.set i temp, warn := s.pw.warn ||| oneBit 7 i.val, crit := s.pw.crit ||| oneBit 7 i.val
        events := ev } } ∧ (s.pw.crit &&& dieMask i = 0 → ev.getLsbD 3 = true) := by
  obtain ⟨a, c, e, ev, hwarn, -⟩ := enterWarn_form (s := s.setTemp ⟨i, temp⟩) hreg i
  unfold State.reachCritical
  rw [hwarn]
  dsimp only
  by_cases hfirst : s.pw.crit &&& dieMask i = 0
  · rw [if_pos (by simpa [State.setTemp, hreg] using hfirst)]
    obtain ⟨a', c', e', hform⟩ := powerEvent_form 3 { s with
      att := a, cnt := c, boot := { s.boot with early := e }
      pw := { s.pw with
        temps := s.pw.temps.set i temp, warn := s.pw.warn ||| oneBit 7 i.val, crit := s.pw.crit ||| oneBit 7 i.val
        events := ev } }
    exact ⟨a', c', e', ev ||| oneBit 7 3, hform, fun _ => by simp⟩
  · rw [if_neg (by simpa [State.setTemp, hreg] using hfirst)]
    exact ⟨a, c, e, ev, rfl, fun h => absurd h hfirst⟩

/-- The ports of a sensor, each with its shifter, follow Protection in ascending order. -/
def State.followAll (i : Fin 7) (mids : List Mid) (s : State) : State :=
  forEach (s.sensorPorts i).zipIdx (fun x t => t.followProt (mids.getD x.2 .idle) x.1) s

theorem mem_sensorPorts {s : State} {i : Fin 7} {p : PortId} (hp : s.present p = true) (hi : 4 ≤ i.val ∨ i.val = p.val / 4) :
    p ∈ s.sensorPorts i :=
  List.mem_filter.mpr ⟨mem_presentPorts hp, by simpa [sensorHolds] using hi⟩

/-- A step over the ports that keeps the conditions keeps serving with them. -/
theorem conditions_step {s t u : State} (hs : s.serving = true) (ht : t.conditions = s.conditions)
    (hstep : t.serving = true → u.conditions = t.conditions) : u.conditions = s.conditions :=
  (hstep ((serving_of_conditions ht).trans hs)).trans ht

theorem followAll_conditions {s : State} (hs : s.serving = true) (i : Fin 7) (mids : List Mid) :
    (s.followAll i mids).conditions = s.conditions :=
  forEach_upholds (I := fun t => t.conditions = s.conditions)
    (fun _ _ _ ht => conditions_step hs ht fun h => followProt_conditions h ..) rfl

theorem conditions_driveFault (s : State) : s.driveFault.pw.temps = s.pw.temps ∧ s.driveFault.pw.crit = s.pw.crit ∧
    s.driveFault.pw.warn = s.pw.warn ∧ s.driveFault.pw.events = s.pw.events ∧
    s.driveFault.pw.faultN = (s.boot.regulated && s.pw.inputOn && s.faultWanted) ∧
    s.driveFault.ports = s.ports := by
  obtain ⟨a, c, e, n, hform⟩ := driveFault_form s
  rw [hform]
  exact ⟨rfl, rfl, rfl, rfl, rfl, rfl⟩

/-- A reading of 135 °C or more of a sensor that was not critical. -/
theorem exec_thermalCritical {s : State} {i : Fin 7} {temp : Byte} (hs : s.serving = true)
    (hreg : s.boot.regulated = true) (hhot : 135 ≤ temp.toNat) (hcold : s.pw.crit.getLsbD i.val = false) (mids : List Mid) :
    exec (.thermalCritical ⟨i, temp⟩ mids) s = .next ((s.reachCritical i temp).followAll i mids).driveFault := by
  have hgo : ¬ (temp.toNat < 135 || s.pw.crit.getLsbD i.val) = true := by rw [hcold]; simpa using hhot
  have hrel : (s.reachCritical i temp).released = true := by
    obtain ⟨a, c, e, ev, hform, -⟩ := reachCritical_form hreg i temp
    simp only [State.serving, Bool.and_eq_true] at hs
    rw [hform]
    exact hs.1.1
  exact congrArg Host.Outcome.next ((if_neg hgo).trans (congrArg State.driveFault (if_pos hrel)))

/-- The ports of the sensors that are critical in a state show condition 7 once they have followed. -/
theorem followAll_prot {s : State} (hs : s.serving = true) {i : Fin 7} {p : PortId} (hp : p ∈ s.sensorPorts i)
    (hheld : s.protHeld p = true) (mids : List Mid) :
    ((s.followAll i mids).port p).line.a.prot = true ∧ ((s.followAll i mids).port p).line.b.prot = true := by
  refine port_forEach_of_mem (key := Prod.fst) (I := fun t => t.conditions = s.conditions)
    (P := fun x => x.line.a.prot = true ∧ x.line.b.prot = true)
    (fun _ _ ht => conditions_step hs ht fun h => followProt_conditions h ..)
    (fun x t ht hne => port_of_apart (followProt_apart ((serving_of_conditions ht).trans hs) ..) hne) ?_ ?_ rfl
  · rintro x t ht rfl
    have hheld' : t.protHeld x.1 = true := (protHeld_of_conditions ht x.1).trans hheld
    obtain ⟨ha, hb⟩ := followProt_prot ((serving_of_conditions ht).trans hs) (mids.getD x.2 .idle) x.1
    exact ⟨ha.trans hheld', hb.trans hheld'⟩
  · obtain ⟨n, hn, hget⟩ := List.mem_iff_getElem.mp hp
    exact ⟨(p, n), List.mk_mem_zipIdx_iff_getElem?.mpr (List.getElem?_eq_some_iff.mpr ⟨hn, hget⟩), rfl⟩

theorem protHeld_of_sensor {s : State} {i : Fin 7} {p : PortId} (hcrit : s.pw.crit.getLsbD i.val = true)
    (hi : 4 ≤ i.val ∨ i.val = p.val / 4) : s.protHeld p = true :=
  List.any_eq_true.mpr ⟨i, List.mem_finRange i, by
    rw [hcrit]
    simpa [sensorHolds] using hi⟩

theorem protHeld_of_no_sensor {s : State} {p : PortId}
    (h : ∀ j : Fin 7, s.pw.crit.getLsbD j.val = true → ¬ (4 ≤ j.val ∨ j.val = p.val / 4)) : s.protHeld p = false := by
  refine List.any_eq_false.mpr fun j _ hj => ?_
  obtain ⟨hcrit, hholds⟩ := Bool.and_eq_true_iff.mp hj
  exact h j hcrit (by simpa [sensorHolds] using hholds)

/-! ### The end of thermal critical (R293, R294) -/

/-- The sensor that has been read is critical no more, before its ports follow. -/
def State.leaveCritical (i : Fin 7) (temp : Byte) (s : State) : State :=
  { s with pw := { s.pw with temps := s.pw.temps.set i temp, crit := s.pw.crit &&& ~~~(oneBit 7 i.val) } }

theorem exec_thermalCriticalEnd {s : State} {i : Fin 7} {temp : Byte} (hs : s.serving = true)
    (hcool : temp.toNat < 125) (hcrit : s.pw.crit.getLsbD i.val = true) :
    exec (.thermalCriticalEnd ⟨i, temp⟩) s =
      .next (forEach ((s.leaveCritical i temp).sensorPorts i) State.releaseProt (s.leaveCritical i temp)).driveFault := by
  have hgo : (temp.toNat < 125 && s.pw.crit.getLsbD i.val) = true := by rw [hcrit]; simpa using hcool
  have hrel : (s.leaveCritical i temp).released = true := by
    simp only [State.serving, Bool.and_eq_true] at hs
    exact hs.1.1
  exact congrArg Host.Outcome.next ((if_pos hgo).trans (congrArg State.driveFault (if_pos hrel)))

theorem releaseAll_conditions {s : State} (hs : s.serving = true) (ps : List PortId) :
    (forEach ps State.releaseProt s).conditions = s.conditions :=
  forEach_upholds (I := fun t => t.conditions = s.conditions)
    (fun _ _ _ ht => conditions_step hs ht fun h => releaseProt_conditions h _) rfl

theorem releaseAll_prot {s : State} (hs : s.serving = true) {ps : List PortId} {p : PortId} (hp : p ∈ ps)
    (hfree : s.protHeld p = false) :
    ((forEach ps State.releaseProt s).port p).line.a.prot = false ∧
    ((forEach ps State.releaseProt s).port p).line.b.prot = false := by
  refine port_forEach_of_mem (key := id) (I := fun t => t.conditions = s.conditions)
    (P := fun x => x.line.a.prot = false ∧ x.line.b.prot = false)
    (fun _ _ ht => conditions_step hs ht fun h => releaseProt_conditions h _)
    (fun x t ht hne => port_of_apart (releaseProt_apart ((serving_of_conditions ht).trans hs) _) hne) ?_ ⟨p, hp, rfl⟩ rfl
  rintro x t ht (rfl : x = p)
  exact releaseProt_prot ((serving_of_conditions ht).trans hs) ((protHeld_of_conditions ht x).trans hfree)

/-- FAULT_N over a state of known conditions: low where the bedrock is up, the input on, and a condition of R23 holds. -/
theorem faultN_of_conditions {s t : State} (h : t.conditions = s.conditions) (hreg : s.boot.regulated = true)
    (hs : s.serving = true) : t.driveFault.pw.faultN = s.faultWanted := by
  obtain ⟨-, -, -, -, hfault, -⟩ := conditions_driveFault t
  have hregulated : t.boot.regulated = s.boot.regulated := congrArg (fun v : Power × Bool × Boot × Dev => v.2.2.1.regulated) h
  have hinput : t.pw.inputOn = s.pw.inputOn := congrArg (fun v : Power × Bool × Boot × Dev => v.1.inputOn) h
  have hwanted : t.faultWanted = s.faultWanted :=
    congrArg (fun v : Power × Bool × Boot × Dev => v.2.2.1.kilnHalt || v.1.crit != 0 || !v.1.inRange || v.1.mgmtFailed) h
  have hon : s.pw.inputOn = true := by
    simp only [State.serving, Bool.and_eq_true] at hs
    exact hs.1.2
  rw [hfault, hregulated, hinput, hwanted, hreg, hon]
  rfl

theorem or_oneBit_ne_zero {n i : Nat} (hi : i < n) (v : BitVec n) : v ||| oneBit n i ≠ 0 := fun h => by
  have hbit := getLsbD_or_oneBit hi v
  simp [h] at hbit

/-- Settles O25. -/
theorem thermalSensorsAct : Obligations.ThermalSensorsAct := by
  refine ⟨fun s i temp hreg => ⟨fun hwarm hnew => ?_, fun hcool => ?_, fun hcool hcold => ?_, fun hwarm => ?_⟩,
    fun s i temp mids hreg hs => ⟨fun hhot hcold => ?_, fun hcool hcrit => ?_⟩⟩
  · obtain ⟨a, c, e, ev, hform, hev⟩ := enterWarn_form (s := s.setTemp ⟨i, temp⟩) hreg i
    exact ⟨_, congrArg Host.Outcome.next ((if_pos hwarm).trans hform), rfl, rfl, hev hnew, rfl, rfl⟩
  · exact congrArg Host.Outcome.next (if_neg (Nat.not_le.mpr hcool))
  · have hgo : ¬ (105 ≤ temp.toNat || s.pw.crit.getLsbD i.val) = true := by rw [hcold]; simpa using hcool
    exact congrArg Host.Outcome.next (if_neg hgo)
  · have hstay : (105 ≤ temp.toNat || s.pw.crit.getLsbD i.val) = true := by simp [hwarm]
    exact congrArg Host.Outcome.next (if_pos hstay)
  · obtain ⟨a, c, e, ev, hform, hev⟩ := reachCritical_form hreg i temp
    have hexec := exec_thermalCritical hs hreg hhot hcold mids
    generalize s.reachCritical i temp = u at hform hexec
    have hu : u.serving = true := by rw [hform]; exact hs
    have hcond := followAll_conditions hu i mids
    obtain ⟨htemps, hcrit, hwarn, hevents, -, hports⟩ := conditions_driveFault (u.followAll i mids)
    refine ⟨_, hexec, htemps.trans ?_, hcrit.trans ?_, hwarn.trans ?_, ?_, fun hfirst => ?_, fun p hp hi => ?_⟩
    · exact (congrArg (fun v : Power × Bool × Boot × Dev => v.1.temps) hcond).trans (congrArg (fun t : State => t.pw.temps) hform)
    · exact (congrArg (fun v : Power × Bool × Boot × Dev => v.1.crit) hcond).trans (congrArg (fun t : State => t.pw.crit) hform)
    · exact (congrArg (fun v : Power × Bool × Boot × Dev => v.1.warn) hcond).trans (congrArg (fun t : State => t.pw.warn) hform)
    · have hwanted : u.faultWanted = true := by
        have hset : (u.pw.crit != 0) = true := bne_iff_ne.mpr (by rw [hform]; exact or_oneBit_ne_zero i.isLt _)
        simp only [State.faultWanted, hset, Bool.or_true, Bool.true_or]
      exact (faultN_of_conditions hcond (by rw [hform]; exact hreg) hu).trans hwanted
    · rw [hevents]
      exact (congrArg (fun v : Power × Bool × Boot × Dev => v.2.1) hcond).trans (by rw [hform]; exact hev hfirst)
    · have hheld : u.protHeld p = true := protHeld_of_sensor (i := i) (by rw [hform]; exact getLsbD_or_oneBit i.isLt _) hi
      have hmem : p ∈ u.sensorPorts i := mem_sensorPorts (by rw [hform]; exact hp) hi
      have hport : (u.followAll i mids).driveFault.port p = (u.followAll i mids).port p := congrArg (fun v => v[p]) hports
      rw [hport]
      exact followAll_prot hu hmem hheld mids
  · have hexec := exec_thermalCriticalEnd hs hcool hcrit
    have hu : (s.leaveCritical i temp).serving = true := hs
    have hcond := releaseAll_conditions hu ((s.leaveCritical i temp).sensorPorts i)
    obtain ⟨htemps, hcrit', hwarn, -, -, hports⟩ :=
      conditions_driveFault (forEach ((s.leaveCritical i temp).sensorPorts i) State.releaseProt (s.leaveCritical i temp))
    have hcritical := hcrit'.trans (congrArg (fun v : Power × Bool × Boot × Dev => v.1.crit) hcond)
    refine ⟨_, hexec, htemps.trans ?_, hcritical, hwarn.trans ?_, ?_, fun p hp hi hnone => ?_⟩
    · exact congrArg (fun v : Power × Bool × Boot × Dev => v.1.temps) hcond
    · exact congrArg (fun v : Power × Bool × Boot × Dev => v.1.warn) hcond
    · rw [hcritical]
      exact faultN_of_conditions hcond hreg hu
    · rw [hcritical] at hnone
      have hfree : (s.leaveCritical i temp).protHeld p = false := protHeld_of_no_sensor hnone
      have hmem : p ∈ (s.leaveCritical i temp).sensorPorts i := mem_sensorPorts hp hi
      obtain hall := releaseAll_prot hu hmem hfree
      generalize forEach ((s.leaveCritical i temp).sensorPorts i) State.releaseProt (s.leaveCritical i temp) = t at hall hports ⊢
      have hport : t.driveFault.port p = t.port p := congrArg (fun v => v[p]) hports
      rw [hport]
      exact hall

end Sys2Proof.Machine
end

section
/-! SUPPORT. What the building of trunk blocks leaves (08 R244 to R247): everything but the replay buffer, the control queue
and what counts and raises events; with the start of a retrain that was due, the link and the disturbance of the ties
too. One lemma per operation. -/

namespace Sys2Proof.Machine

/-- The trunk but for its replay buffer, control queue and event bits. -/
def Trunk.unbuilt (t : Trunk) : Trunk :=
  { t with stored := [], txNext := 0, waitBlk := none, ctlQ := [], stalled := false, trkEvents := 0, stubs := 0 }

/-- A port but for the losses of stubbed blocks (Table 8.21). -/
def Port.unlost (x : Port) : Port := { x with portLoss := 0 }

/-- Everything that the building of a block leaves alone. -/
def State.unbuilt (s : State) : State :=
  { s with ports := s.ports.map Port.unlost, tr := s.tr.unbuilt, att := {}, cnt := {}, boot := { s.boot with early := [] } }

/-- Everything that the building of a block leaves alone, and the start of a retrain that was due. -/
def State.served (s : State) : State :=
  { s.unbuilt with
    tr := { s.tr.unbuilt with link := .down, retrains := 0, markMissed := 0 }
    dev := { s.dev with changeDue := false }
    ties := s.ties.map (fun g => { g with disturbed := false }) }

theorem served_of_unbuilt {s t : State} (h : t.unbuilt = s.unbuilt) : t.served = s.served := by
  have hserved : ∀ u : State, u.served = { u.unbuilt with
      tr := { u.unbuilt.tr with link := .down, retrains := 0, markMissed := 0 }
      dev := { u.unbuilt.dev with changeDue := false }
      ties := u.unbuilt.ties.map (fun g => { g with disturbed := false }) } := fun _ => rfl
  rw [hserved, hserved, h]

theorem count_unbuilt (c s) : (State.count c s).unbuilt = s.unbuilt := by
  obtain ⟨a, c, e, h⟩ := count_form c s
  rw [h]
  rfl
theorem countN_unbuilt (c n s) : (State.countN c n s).unbuilt = s.unbuilt :=
  forEach_keeps (π := State.unbuilt) (fun c _ t => count_unbuilt c t) s
theorem trkEvent_unbuilt (b s) : (State.trkEvent b s).unbuilt = s.unbuilt := by
  obtain ⟨a, c, e, h⟩ := trkEvent_form b s
  rw [h]
  rfl

theorem modPort_unbuilt {f : Port → Port} (h : ∀ x, (f x).unlost = x.unlost) (s : State) (p : PortId) :
    (s.modPort p f).unbuilt = s.unbuilt := by
  have hports : (s.modPort p f).ports.map Port.unlost = s.ports.map Port.unlost := by
    apply Vector.ext
    intro i hi
    simp only [State.modPort, State.setPort, State.port, Vector.getElem_map, Vector.getElem_set]
    split
    · next e => subst e; exact h _
    · rfl
  exact congrArg (fun v => { s.unbuilt with ports := v }) hports

theorem trkLoss_unbuilt (p n s) : (State.trkLoss p n s).unbuilt = s.unbuilt :=
  modPort_unbuilt (f := fun x => { x with portLoss := satAdd x.portLoss n }) (fun _ => rfl) s p
theorem modTr_unbuilt {f : Trunk → Trunk} (h : ∀ t, (f t).unbuilt = t.unbuilt) (s : State) :
    (s.modTr f).unbuilt = s.unbuilt :=
  congrArg (fun v => { s.unbuilt with tr := v }) (h s.tr)
theorem stubOldest_unbuilt {s t : State} (h : s.stubOldest = some t) : t.unbuilt = s.unbuilt := by
  unfold State.stubOldest at h
  split at h
  · cases h
  · cases h
    refine (trkEvent_unbuilt ..).trans ((forEach_keeps (π := State.unbuilt) (fun c _ t => trkLoss_unbuilt ..) _).trans ?_)
    exact modTr_unbuilt (fun _ => rfl) s
theorem storeBlk_unbuilt (b s) : (State.storeBlk b s).unbuilt = s.unbuilt :=
  keeps_if ((count_unbuilt ..).trans (modTr_unbuilt (fun _ => rfl) s)) (modTr_unbuilt (fun _ => rfl) s)
theorem placeBlk_unbuilt (b n s) : (State.placeBlk b n s).unbuilt = s.unbuilt := by
  induction n generalizing s with
  | zero => rfl
  | succ n ih =>
    unfold State.placeBlk
    refine keeps_if (storeBlk_unbuilt b s) (keeps_if ?_ (keeps_if rfl (trkEvent_unbuilt ..)))
    split
    · exact (ih _).trans (stubOldest_unbuilt ‹_›)
    · rfl
theorem place_unbuilt (b s) : (State.place b s).unbuilt = s.unbuilt := placeBlk_unbuilt ..
theorem pumpN_unbuilt (n s) : (State.pumpN n s).unbuilt = s.unbuilt := by
  induction n generalizing s with
  | zero => rfl
  | succ n ih =>
    unfold State.pumpN
    refine keeps_if rfl ?_
    split
    · exact keeps_if (place_unbuilt ..) ((ih _).trans (place_unbuilt ..))
    · split
      · rfl
      · exact keeps_if rfl ((ih _).trans (place_unbuilt ..))
theorem rewind_unbuilt (s) : (State.rewind s).unbuilt = s.unbuilt :=
  (countN_unbuilt ..).trans ((countN_unbuilt ..).trans ((trkEvent_unbuilt ..).trans (modTr_unbuilt (fun _ => rfl) s)))

/-- No change waits: nothing but blocks is built. -/
theorem dueChange_of_none {s : State} (h : s.dev.changeDue = false) : s.dueChange = s := by
  unfold State.dueChange
  rw [if_neg (by simp [h])]
theorem pump_unbuilt {s : State} (h : s.dev.changeDue = false) : s.pump.unbuilt = s.unbuilt := by
  have hpump := pumpN_unbuilt (s.tr.ctlQ.length + 2) s
  have hdue : (s.pumpN (s.tr.ctlQ.length + 2)).dev.changeDue = false :=
    (congrArg (fun u : State => u.dev.changeDue) hpump).trans h
  exact (congrArg State.unbuilt (dueChange_of_none hdue)).trans hpump

theorem beginRetrain_served (s) : (State.beginRetrain s).served = s.served := by
  simp [State.beginRetrain, State.modTr, State.served, State.unbuilt, Trunk.unbuilt]
theorem dueChange_served (s) : (State.dueChange s).served = s.served :=
  keeps_if ((beginRetrain_served _).trans rfl) rfl
theorem pump_served (s) : (State.pump s).served = s.served :=
  (dueChange_served ..).trans (served_of_unbuilt (pumpN_unbuilt ..))

/-! ### What is read off those views -/

theorem port_of_served {s t : State} (h : t.served = s.served) (p : PortId) : (t.port p).unlost = (s.port p).unlost := by
  have hport := congrArg (fun u : State => u.ports[p]) h
  simpa [State.served, State.unbuilt, State.port] using hport

theorem port_of_unbuilt {s t : State} (h : t.unbuilt = s.unbuilt) (p : PortId) : (t.port p).unlost = (s.port p).unlost :=
  port_of_served (served_of_unbuilt h) p

end Sys2Proof.Machine
end

section
/-! SUPPORT. The release (13 R369; 03 R73): what the loads and the store's start keep of the device, what LINK_UP at the end
of start-up leaves, and the calibration under load that ends it. -/

namespace Sys2Proof.Machine

/-! ### What the loads and the store's start keep -/

/-- Everything but the ports, the regions, attention, the counters and the configuration registers of the bedrock. -/
def State.afar (s : State) : State :=
  { s with
    ports := Vector.replicate 16 {}, regions := Vector.replicate 4 {}, att := {}, cnt := {}
    boot := { s.boot with early := [], cfgBad := [], frames := Vector.replicate 64 0, trkCfg := 0, imgDevice := 0 } }

theorem modPort_afar (s : State) (p f) : (s.modPort p f).afar = s.afar := rfl
theorem loaded_afar (mine bad) (s : State) : (s.loaded mine bad).afar = s.afar := rfl
theorem count_afar (code s) : (State.count code s).afar = s.afar := by
  obtain ⟨a, c, e, h⟩ := count_form code s
  rw [h]
  rfl
theorem loadProfile_afar (p s) : (State.loadProfile p s).afar = s.afar := rfl
theorem loadResvRegs_afar (p s) : (State.loadResvRegs p s).afar = s.afar := rfl
theorem loadThresh_afar (p s) : (State.loadThresh p s).afar = s.afar := rfl
theorem setPool_afar (p n s) : (State.setPool p n s).afar = s.afar := by
  unfold State.setPool
  exact keeps_if (count_afar ..) rfl
theorem setResv_afar (p d n s) : (State.setResv p d n s).afar = s.afar := (setPool_afar ..).trans rfl
theorem loadResv_afar (p s) : (State.loadResv p s).afar = s.afar :=
  (loaded_afar ..).trans ((setResv_afar ..).trans (setResv_afar ..))
theorem loadAll_afar (s : State) : s.loadAll.afar = s.afar :=
  (forEach_keeps (π := State.afar) (fun p _ t => loadThresh_afar p t) _).trans
    ((forEach_keeps (π := State.afar) (fun p _ t => (loadResvRegs_afar p _).trans (loadProfile_afar p t)) _).trans rfl)
theorem initStore_afar (s : State) : s.initStore.afar = s.afar := by
  unfold State.initStore
  change (forEach _ _ _ : State).afar = s.afar
  exact (forEach_keeps (π := State.afar) (fun p _ t => (loadResv_afar p _).trans (modPort_afar ..)) _).trans rfl

/-! ### Release -/

/-- A port after its release line check has begun (R73). -/
structure ReleaseBegun (p : PortId) (x : Port) : Prop where
  commanded : x.commanded = .ready
  trans : x.trans = some { target := .ready, source := .off, byCmd := false, supply := false, checked := false }
  checking : x.line.checking = decide (p.val % 4 < 2)

theorem port_beginRelease (p : PortId) (t : State) : ReleaseBegun p ((t.beginRelease p).port p) := by
  unfold State.beginRelease
  rw [State.port_modPort]
  exact ⟨rfl, rfl, rfl⟩

/-- A port takes Protection's condition as the sensors have it, and begins its release line check. -/
def State.releasePort (held : PortId → Bool) (now : Nat) (p : PortId) (t : State) : State :=
  (t.modPort p (fun x =>
    (x.withLine (x.line.modBoth (fun q => { q with prot := held p }))).chargeOutage now)).beginRelease p

/-- The state that release has loaded, with its Release values, before the ports begin (R369). -/
def State.releaseLoaded (ms : BitVec 8) (s : State) : State :=
  let s := s.loadAll.initStore
  { s with
    boot := { s.boot with stage := .released, releaseMs := ms, early := [] }
    dev := { s.dev with cmdWidth := BitVec.ofNat 3 (popcount s.tr.trained), changeDue := false }
    pw := { s.pw with events := 0 }
    att := { s.att with srcs := Vector.ofFn (fun i => s.srcDefault i {}) }
    cnt := { sels := s.boot.shadow.cnts.map (fun h => h.extractLsb' 0 10) } }

theorem release_eq (ms : BitVec 8) (s : State) : ∃ held now early,
    s.release ms = ((forEach (s.releaseLoaded ms).presentPorts (State.releasePort held now) (s.releaseLoaded ms)).attEvents
      early).svcEvent 0 := ⟨_, _, _, rfl⟩

theorem releasePort_afar (held now p s) : (State.releasePort held now p s).afar = s.afar := rfl

theorem port_releasePort_ne (held now) {p q : PortId} (t : State) (hne : q ≠ p) :
    (t.releasePort held now p).port q = t.port q :=
  (State.port_modPort_ne (t.modPort p _) _ hne).trans
    (State.port_modPort_ne t (fun x => (x.withLine (x.line.modBoth (fun q => { q with prot := held p }))).chargeOutage now) hne)

/-- What release leaves of the device (R369). -/
structure Released (ms : BitVec 8) (s t : State) : Prop where
  stage : t.boot.stage = .released ∧ t.boot.releaseMs = ms
  straps : t.boot.straps = s.boot.straps
  event : t.svc.events.getLsbD 0 = true
  power : t.pw.events = 0
  dev : t.dev = { s.dev with cmdWidth := BitVec.ofNat 3 (popcount s.tr.trained), changeDue := false }
  tr : t.tr = s.tr
  flash : t.flash = s.flash
  ports : ∀ p, s.present p = true → ReleaseBegun p (t.port p)

theorem release_released (ms : BitVec 8) (s : State) : Released ms s (s.release ms) := by
  obtain ⟨held, now, early, heq⟩ := release_eq ms s
  have hload : s.loadAll.initStore.afar = s.afar := (initStore_afar _).trans (loadAll_afar s)
  have hpresent : (s.releaseLoaded ms).presentPorts = s.presentPorts :=
    (congrArg State.presentPorts hload : s.loadAll.initStore.afar.presentPorts = s.afar.presentPorts)
  have hports : ∀ p, s.present p = true →
      ReleaseBegun p ((forEach s.presentPorts (State.releasePort held now) (s.releaseLoaded ms)).port p) := fun p hp =>
    port_forEach_of_mem (f := State.releasePort held now) (key := id) (I := fun _ => True) (P := ReleaseBegun p)
      (fun _ _ _ => trivial) (fun q t _ hne => port_releasePort_ne held now t hne)
      (by rintro q t - (rfl : q = p); exact port_beginRelease q _) ⟨p, mem_presentPorts hp, rfl⟩ trivial
  have hall : (forEach s.presentPorts (State.releasePort held now) (s.releaseLoaded ms)).afar = (s.releaseLoaded ms).afar :=
    forEach_keeps (fun p _ t => releasePort_afar held now p t) _
  rw [heq, hpresent]
  generalize forEach s.presentPorts (State.releasePort held now) (s.releaseLoaded ms) = u at hall hports
  obtain ⟨a, e, hearly⟩ := attEvents_form early u
  obtain ⟨a', c, e', n, hev, -⟩ := svcEvent_form 0 (u.attEvents early)
  have hu : ∀ {β : Type} (g : State → β), g u.afar = g (s.releaseLoaded ms).afar := fun g => congrArg g hall
  have hs : ∀ {β : Type} (g : State → β), g s.loadAll.initStore.afar = g s.afar := fun g => congrArg g hload
  have hkeep : u.attEvents early = { u with att := a, boot := { u.boot with early := e } } := hearly
  rw [hev, hkeep]
  exact {
    stage := ⟨hu fun v => v.boot.stage, hu fun v => v.boot.releaseMs⟩
    straps := (hu fun v => v.boot.straps).trans (hs fun v => v.boot.straps)
    event := getLsbD_or_oneBit (by decide) _
    power := hu fun v => v.pw.events
    dev := (hu fun v => v.dev).trans
      (hs fun v => { v.dev with cmdWidth := BitVec.ofNat 3 (popcount v.tr.trained), changeDue := false })
    tr := (hu fun v => v.tr).trans (hs fun v => v.tr)
    flash := (hu fun v => v.flash).trans (hs fun v => v.flash)
    ports := hports }

/-! ### LINK_UP at the end of start-up -/

/-- The commanded width is in force, and no Sleep and no exit goes on (R341). -/
theorem settle_form {s : State} (hdue : s.dev.changeDue = false) (hsleep : s.dev.toSleep = false)
    (hexit : s.dev.exiting = false) : ∃ a c e ev,
    s.settle = { s with
      att := a, cnt := c, boot := { s.boot with early := e }, pw := { s.pw with events := ev }
      dev := { s.dev with changing := false, byState := false } } ∧ (s.dev.byState = false → ev = s.pw.events) := by
  unfold State.settle
  rw [if_neg (by simp [hdue]), if_neg (by simp [hsleep]), if_neg (by simp [hexit])]
  cases hby : s.dev.byState with
  | true =>
    obtain ⟨a, c, e, h⟩ := powerEvent_form 5 { s with dev := { s.dev with changing := false, byState := false } }
    exact ⟨a, c, e, _, h, nofun⟩
  | false => exact ⟨s.att, s.cnt, s.boot.early, s.pw.events, rfl, fun _ => rfl⟩

/-- The release's link before the rewind: the lanes trained, the Release values loaded, and the width set. -/
def State.linkReleased (tn : Trained) (half : Bool) (ms : BitVec 8) (s : State) : State :=
  (((s.trainLanes tn half).release ms).clearErrs).setWidth

theorem exec_linkUp_release {s : State} {tn : Trained} {halfAttempt : Bool} {flags : Byte} (ms : BitVec 8)
    (hon : s.pw.inputOn = true) (hstage : s.boot.stage = .training) (hlink : s.tr.link = .training)
    (hst : s.dev.st = .awake) (hup : tn.pairUp ≠ 0) :
    let half := s.halfForced || halfAttempt || !flags.getLsbD 0 || flags.getLsbD 2
    let u := s.linkReleased tn half ms
    exec (.linkUp tn halfAttempt flags ms) s =
      .next (if s.tr.lostAll then u.trkEvent 8 else u).rewind.settle.pump := by
  have hgo : (s.pw.inputOn && s.tr.link == .training && tn.pairUp != 0) = true := by
    rw [hon, hlink, bne_iff_ne.mpr hup]
    rfl
  have hstart : (s.boot.stage == .training) = true := by rw [hstage]; rfl
  have hhalt : (s.boot.stage == .halted) = false := by rw [hstage]; rfl
  have hdeep : (s.dev.st == .deep) = false := by rw [hst]; rfl
  refine congrArg Host.Outcome.next ((if_pos hgo).trans ?_)
  simp only [hstart, hhalt, hdeep, Bool.not_true, Bool.false_and, Bool.or_false, if_true,
    Bool.false_eq_true, if_false]
  rfl

theorem trainLanes_form (tn : Trained) (half : Bool) (s : State) : ∃ r a c e,
    s.trainLanes tn half = { s with tr := r, att := a, cnt := c, boot := { s.boot with early := e } } ∧
    r.link = .up ∧ r.half = half ∧ r.trained = tn.pairUp := by
  unfold State.trainLanes State.measure
  dsimp only
  split
  · obtain ⟨a, c, e, h⟩ := trkEvent_form 9 (((s.modTr (fun r => { r with
      link := .up, half := half, holdover := false, order := laneOrder tn, alive := tn.pairUp, trained := tn.pairUp,
      pairInv := tn.pairInv, restoring := false, markMissed := 0, laneLocked := 0, freshDue := false, lostAll := false })).adaptLanes
      tn).modTr (fun r => { r with delay := tn.delay, delayValid := true }))
    exact ⟨_, a, c, e, h, rfl, rfl, rfl⟩
  · exact ⟨_, s.att, s.cnt, s.boot.early, rfl, rfl, rfl, rfl⟩

theorem bits_cleared (w : Word) : bits (w &&& 0xFFFFFF00#32) 0 8 = 0 := by
  unfold bits
  apply BitVec.eq_of_getLsbD_eq
  intro i hi
  have hlow : (0xFFFFFF00#32).getLsbD i = false := by
    interval_cases i <;> rfl
  simp [BitVec.getLsbD_extractLsb', hlow]

/-- What LINK_UP at the end of start-up leaves of the device (R369, R446). -/
structure LinkReleased (s : State) (tn : Trained) (half : Bool) (ms : BitVec 8) (t : State) : Prop where
  stage : t.boot.stage = .released ∧ t.boot.releaseMs = ms
  straps : t.boot.straps = s.boot.straps
  event : t.svc.events.getLsbD 0 = true
  power : s.dev.byState = false → t.pw.events = 0
  link : t.tr.link = .up ∧ t.tr.half = half
  errors : ∀ k : Fin 4, bits t.tr.lanes[k] 0 8 = 0
  width : t.dev.cmdWidth = BitVec.ofNat 3 (popcount tn.pairUp) ∧ t.dev.changing = false
  flash : t.flash = s.flash
  ports : ∀ p, s.present p = true → ReleaseBegun p (t.port p)

theorem releaseBegun_unlost {p : PortId} {x y : Port} (h : x.unlost = y.unlost) (hy : ReleaseBegun p y) : ReleaseBegun p x where
  commanded := (congrArg Port.commanded h : x.unlost.commanded = y.unlost.commanded).trans hy.commanded
  trans := (congrArg Port.trans h : x.unlost.trans = y.unlost.trans).trans hy.trans
  checking := (congrArg (fun z : Port => z.line.checking) h : x.unlost.line.checking = y.unlost.line.checking).trans hy.checking

theorem linkUp_released {s : State} (tn : Trained) (half lost : Bool) (ms : BitVec 8) (hsleep : s.dev.toSleep = false)
    (hexit : s.dev.exiting = false) : LinkReleased s tn half ms
      (if lost then (s.linkReleased tn half ms).trkEvent 8 else s.linkReleased tn half ms).rewind.settle.pump := by
  obtain ⟨r, a, c, e, hlanes, hrlink, hrhalf, hrtrained⟩ := trainLanes_form tn half s
  have hreleased := release_released ms (s.trainLanes tn half)
  rw [hlanes] at hreleased
  obtain ⟨⟨hstage, hms⟩, hstraps, hevent, hpower, hdev, htr, hflash, hports⟩ := hreleased
  unfold State.linkReleased
  rw [hlanes]
  generalize State.release ms _ = w at hstage hms hstraps hevent hpower hdev htr hflash hports ⊢
  have hlast : (if lost then w.clearErrs.setWidth.trkEvent 8 else w.clearErrs.setWidth).rewind.unbuilt =
      w.clearErrs.setWidth.unbuilt :=
    (rewind_unbuilt _).trans (keeps_if (trkEvent_unbuilt ..) rfl)
  generalize (if lost then w.clearErrs.setWidth.trkEvent 8 else w.clearErrs.setWidth).rewind = z at hlast ⊢
  have hz : ∀ {β : Type} (g : State → β), g z.unbuilt = g w.clearErrs.setWidth.unbuilt := fun g => congrArg g hlast
  have hzdev : z.dev = w.dev := hz fun v => v.dev
  obtain ⟨a, c, e, ev, hsettle, hev⟩ := settle_form (s := z) (by rw [hzdev, hdev]) (by rw [hzdev, hdev]; exact hsleep)
    (by rw [hzdev, hdev]; exact hexit)
  have hpump : z.settle.pump.unbuilt = z.settle.unbuilt := pump_unbuilt (by rw [hsettle]; exact congrArg Dev.changeDue (hzdev.trans hdev))
  generalize z.settle.pump = t at hpump ⊢
  rw [hsettle] at hpump
  have ht : ∀ {β : Type} (g : State → β), g t.unbuilt = g (State.unbuilt _) := fun g => congrArg g hpump
  exact {
    stage := ⟨(ht fun v => v.boot.stage).trans ((hz fun v => v.boot.stage).trans hstage),
      (ht fun v => v.boot.releaseMs).trans ((hz fun v => v.boot.releaseMs).trans hms)⟩
    straps := (ht fun v => v.boot.straps).trans ((hz fun v => v.boot.straps).trans hstraps)
    event := (ht fun v => v.svc.events.getLsbD 0).trans ((hz fun v => v.svc.events.getLsbD 0).trans hevent)
    power := fun hby => by
      have hzby : z.dev.byState = false := by rw [hzdev, hdev]; exact hby
      exact (ht fun v => v.pw.events).trans ((hev hzby).trans ((hz fun v => v.pw.events).trans hpower))
    link := ⟨(ht fun v => v.tr.link).trans ((hz fun v => v.tr.link).trans ((congrArg Trunk.link htr).trans hrlink)),
      (ht fun v => v.tr.half).trans ((hz fun v => v.tr.half).trans ((congrArg Trunk.half htr).trans hrhalf))⟩
    errors := fun k => by
      have hlane : t.tr.lanes[k] = w.tr.lanes[k] &&& 0xFFFFFF00#32 :=
        (ht fun v => v.tr.lanes[k]).trans ((hz fun v => v.tr.lanes[k]).trans (by simp [State.unbuilt, Trunk.unbuilt, State.setWidth, State.clearErrs, State.modTr]))
      rw [hlane, bits_cleared]
    width := by
      have hcmd : w.dev.cmdWidth = BitVec.ofNat 3 (popcount tn.pairUp) :=
        (congrArg Dev.cmdWidth hdev).trans (congrArg (fun v => BitVec.ofNat 3 (popcount v)) hrtrained)
      exact ⟨(ht fun v => v.dev.cmdWidth).trans ((hz fun v => v.dev.cmdWidth).trans hcmd), ht fun v => v.dev.changing⟩
    flash := (ht fun v => v.flash).trans ((hz fun v => v.flash).trans hflash)
    ports := fun p hp => by
      have hport : (t.port p).unlost = (w.port p).unlost := (port_of_unbuilt hpump p).trans (port_of_unbuilt hlast p)
      exact releaseBegun_unlost hport (hports p hp) }

end Sys2Proof.Machine
end

section
/-! SUPPORT. The course of the ports: their states, transitions and waiting commands (12 R334 to R340). An operation that
leads a port out of Run, to Off or into Run changes no port's course but by what it writes into it; one lemma per operation
says so of every view that shows of the ports their courses alone. -/

namespace Sys2Proof.Machine

/-- A port's course: its states, its transition and its waiting commands, its line check and its state events. -/
structure Course where
  commanded : PState
  st : PState
  trans : Option Trans
  queued : Option QueuedCmd
  deferred : Option QueuedCmd
  loaded : Bool
  checking : Bool
  stEvents : BitVec 2

/-- The course of a port. -/
def Port.course (x : Port) : Course :=
  ⟨x.commanded, x.st, x.trans, x.queued, x.deferred, x.line.loaded, x.line.checking, x.stEvents⟩

/-- The courses of all ports. -/
def State.courses (s : State) : PortId → Course := fun p => (s.port p).course

theorem course_of_hull {x y : Port} (h : x.hull = y.hull) : x.course = y.course :=
  (congrArg Port.course h : x.hull.course = y.hull.course)

/-- The view `π` shows of port `p` at most its course, and nothing of its region, the tie groups and the events that an
operation on its items raises. -/
structure RunBlind (p : PortId) {α : Type} (π : State → α) : Prop extends ItemBlind p π where
  move : ∀ s f, (∀ x : Port, (f x).course = x.course) → π (s.modPort p f) = π s

/-- Such a view that shows nothing of the free values, the upsets of the image shadow and the end of a freeze of the
port's region either. -/
structure CourseBlind (p : PortId) {α : Type} (π : State → α) : Prop extends RunBlind p π where
  loaded : ∀ mine bad s, π (State.loaded mine bad s) = π s
  upsetShadow : ∀ s : State, π s.upsetShadow = π s
  freezeFall : ∀ s, π (s.attFall 144) = π s
  endRegionFreeze : ∀ s, π (State.endRegionFreeze (regionOf p) s) = π s

section
variable {α : Type} {p : PortId} {π : State → α} (hr : RunBlind p π)
include hr

theorem RunBlind.frameErrIfOpen (code s) : π (State.frameErrIfOpen p code s) = π s := by
  unfold State.frameErrIfOpen
  refine keeps_if rfl ?_
  unfold State.frameErr State.modAf
  exact (hr.toItemBlind.offer ..).trans (hr.move _ _ (by exact fun _ => rfl))
theorem RunBlind.leaveFaultWithRun (s) : π (State.leaveFaultWithRun p s) = π s :=
  keeps_if ((hr.toItemBlind.modQueue ..).trans ((hr.toItemBlind.modQueue ..).trans (hr.move _ _ (by exact fun _ => rfl)))) rfl
theorem RunBlind.leaveRun (mid s) : π (State.leaveRun p mid s) = π s := by
  unfold State.leaveRun
  extract_lets x cut s1 s2 s3 s4 s5
  have h1 : π s1 = π s := hr.toItemBlind.leaveTie s
  have h2 : π s2 = π s := keeps_if ((hr.toItemBlind.drain _).trans ((hr.toItemBlind.addLoss ..).trans h1)) h1
  have h3 : π s3 = π s := keeps_if h2 ((hr.frameErrIfOpen ..).trans h2)
  have h4 : π s4 = π s := (hr.leaveFaultWithRun ..).trans h3
  have h5 : π s5 = π s := (hr.move _ _ (by exact fun _ => rfl)).trans h4
  exact keeps_if ((hr.toItemBlind.charEvent ..).trans ((hr.move _ _ (by exact fun _ => rfl)).trans h5)) h5
theorem RunBlind.enterLineFault (s) : π (State.enterLineFault p s) = π s := by
  unfold State.enterLineFault
  refine (hr.toItemBlind.leaveTie _).trans ((hr.move _ _ (by exact fun _ => rfl)).trans (keeps_if ?_ rfl))
  exact (hr.toItemBlind.drain _).trans ((hr.toItemBlind.addLoss ..).trans (hr.move _ _ (by exact fun _ => rfl)))
theorem RunBlind.freeRecords (s) : π (State.freeRecords p s) = π s := by
  unfold State.freeRecords
  exact (hr.toItemBlind.modQueue ..).trans (hr.toItemBlind.modQueue ..)
theorem RunBlind.entryFlow (s) : π (State.entryFlow p s) = π s := by
  unfold State.entryFlow State.modFlow
  exact (hr.modRegion _ _ (by exact fun _ => rfl)).trans (hr.move _ _ (by exact fun _ => rfl))
theorem RunBlind.chargeFreeze (s) : π (State.chargeFreeze p s) = π s := by
  refine hr.move _ _ fun x => ?_
  split <;> rfl
theorem RunBlind.runEntryItems (s) : π (State.runEntryItems p s) = π s := by
  unfold State.runEntryItems
  extract_lets s1 s2 s3 s4 x
  have h1 : π s1 = π s := keeps_if (hr.toItemBlind.addLoss ..) rfl
  have h2 : π s2 = π s := (hr.freeRecords ..).trans ((hr.move _ _ (by exact fun _ => rfl)).trans h1)
  have h3 : π s3 = π s := keeps_if ((hr.toItemBlind.discardHolding ..).trans h2) ((hr.toItemBlind.drain _).trans h2)
  have h4 : π s4 = π s := (hr.toItemBlind.writeLineMarks _).trans h3
  exact keeps_if ((hr.toItemBlind.offerMark ..).trans h4) h4
theorem RunBlind.enterRun (s) : π (State.enterRun p s) = π s := by
  unfold State.enterRun
  extract_lets s1 s2 s3 s4
  have h1 : π s1 = π s := hr.move _ _ (by exact fun _ => rfl)
  have h2 : π s2 = π s := keeps_if h1 ((hr.chargeFreeze ..).trans ((hr.runEntryItems ..).trans h1))
  have h3 : π s3 = π s := (hr.toItemBlind.tryGap ..).trans ((hr.entryFlow ..).trans h2)
  have h4 : π s4 = π s := keeps_if ((hr.enterLineFault ..).trans h3) h3
  exact (hr.toItemBlind.tieSync _).trans h4
theorem RunBlind.waited (s) : π (State.waited (regionOf p) s) = π s := (hr.count ..).trans (hr.modRegion _ _ (by exact fun _ => rfl))
end

section
variable {α : Type} {p : PortId} {π : State → α} (hc : CourseBlind p π)
include hc

theorem CourseBlind.loadProfile (s) : π (State.loadProfile p s) = π s := by
  unfold State.loadProfile
  refine (hc.loaded ..).trans (hc.move _ _ fun x => ?_)
  dsimp only [LineSt.forProfile]
  split
  · split <;> rfl
  · rfl
theorem CourseBlind.endPortFreeze (s) : π (State.endPortFreeze p s) = π s := by
  unfold State.endPortFreeze
  exact (hc.move _ _ (by exact fun _ => rfl)).trans (hc.loadProfile ..)
theorem CourseBlind.endFreeze (s) : π (State.endFreeze p s) = π s := by
  have h1 : π (s.upsetShadow.endPortFreeze p) = π s := (hc.endPortFreeze _).trans (hc.upsetShadow s)
  unfold State.endFreeze
  exact keeps_if rfl ((hc.freezeFall _).trans (keeps_if ((hc.endRegionFreeze _).trans h1) h1))
theorem CourseBlind.enterOff (s) : π (State.enterOff p s) = π s :=
  (hc.endFreeze _).trans ((hc.move _ _ (by exact fun _ => rfl)).trans ((hc.tieSync _).trans
    ((hc.discardQueue ..).trans (hc.takeFlush ..))))
end

end Sys2Proof.Machine
end

section
/-! SUPPORT. How a port command moves its port's course (12 R335, R340, R16), and the sequencer's start and a transition's end. -/

namespace Sys2Proof.Machine

theorem courses_modPort (s : State) (p : PortId) (f : Port → Port) :
    (s.modPort p f).courses = Function.update s.courses p (f (s.port p)).course := by
  funext q
  by_cases hq : q = p
  · subst hq
    simp [State.courses]
  · simp [State.courses, State.port_modPort_ne s f hq, Function.update_of_ne hq]

theorem courses_modPort_of_keep {f : Port → Port} (s : State) (p : PortId) (hf : ∀ x, (f x).course = x.course) :
    (s.modPort p f).courses = s.courses := by
  rw [courses_modPort, hf]
  exact Function.update_eq_self p s.courses

theorem courses_run (p : PortId) : RunBlind p State.courses where
  keep s _ h := courses_modPort_of_keep s p fun x => course_of_hull (h x)
  move s _ h := courses_modPort_of_keep s p h
  modRegion _ _ _ := rfl
  modTie _ _ _ := rfl
  portEvent _ s := funext fun q => congrArg Port.course (port_of_attEvent _ s q)
  tieEvent _ s := funext fun q => congrArg Port.course (port_of_attEvent _ s q)
  tieFall _ _ := rfl
  count code s := funext fun q => congrArg Port.course (port_of_count code s q)
  hostError s := funext fun q => congrArg Port.course (port_of_hostError 4 s q)

theorem loadResv_courses (p : PortId) (s : State) : (State.loadResv p s).courses = s.courses := by
  have hset (d n) (t : State) : (State.setResv p d n t).courses = t.courses := by
    unfold State.setResv
    exact ((courses_run p).putQueue ..).trans ((courses_run p).move _ _ (by exact fun x => by cases d <;> rfl))
  have hloaded (t : State) : (State.resvLoaded p t).courses = t.courses := rfl
  unfold State.loadResv
  rw [hloaded, hset, hset]

theorem courses_blind (p : PortId) : CourseBlind p State.courses where
  toRunBlind := courses_run p
  loaded _ _ _ := rfl
  upsetShadow _ := rfl
  freezeFall _ := rfl
  endRegionFreeze s := by
    unfold State.endRegionFreeze
    extract_lets ps s1
    have h1 : s1.courses = s.courses := forEach_keeps (fun q _ t => loadResv_courses q t) s
    refine keeps_if h1 (Eq.trans (forEach_keeps (π := State.courses) (fun q _ t => ?_) s1) h1)
    exact courses_modPort_of_keep t q fun _ => rfl

/-- The transition of a port from the state `st` to `target`. -/
def transTo (st target : PState) (byCmd : Bool) : Trans :=
  { target := target, source := st, byCmd := byCmd, supply := raisesSupply st target, checked := st != .off }

/-- A course as a transition to `target` begins on it. -/
def Course.begun (c : Course) (target : PState) (byCmd : Bool) : Course :=
  { c with trans := some (transTo c.st target byCmd), queued := none, checking := c.st == .off }

theorem course_of_courses {s t : State} {p : PortId} (h : t.courses = s.courses) : (t.port p).course = (s.port p).course :=
  congrFun h p

theorem beginTransition_courses (p target byCmd mid s) :
    (State.beginTransition p target byCmd mid s).courses =
      Function.update s.courses p ((s.port p).course.begun target byCmd) := by
  unfold State.beginTransition
  extract_lets x s1 t s2 s3
  have h1 : s1.courses = s.courses :=
    keeps_if ((courses_blind p).leaveRun ..) (keeps_if rfl ((courses_blind p).leaveTie s))
  have h2 : s2.courses = Function.update s.courses p ((s.port p).course.begun target byCmd) := by
    rw [← h1, ← course_of_courses h1]
    refine (courses_modPort ..).trans (congrArg (Function.update s1.courses p) ?_)
    have hst : x.st = (s1.port p).st := (congrArg Course.st (course_of_courses (p := p) h1)).symm
    simp only [Port.course, Course.begun, transTo, t, hst]
  have h3 : s3.courses = s2.courses := keeps_if ((courses_blind p).enterOff _) rfl
  exact ((courses_blind p).tieSync _).trans (h3.trans h2)

theorem waited_courses (r s) : (State.waited r s).courses = s.courses :=
  funext fun q => congrArg Port.course (port_of_count _ _ q)

/-- What a command that may start now makes of its port's course (R16). -/
def Course.started (c : Course) (target : PState) (order : Nat) (wait : Bool) : Course :=
  if c.st == target then { c with queued := none }
  else if raisesSupply c.st target && wait then { c with queued := some { target := target, order := order } }
  else c.begun target true

theorem startCmd_courses (p target order mid s) :
    (State.startCmd p target order mid s).courses =
      Function.update s.courses p ((s.port p).course.started target order (s.mustWait (regionOf p) order)) := by
  unfold State.startCmd Course.started
  have hcourse : (s.port p).course.st = (s.port p).st := rfl
  rw [hcourse]
  by_cases hst : ((s.port p).st == target) = true
  · rw [if_pos hst, if_pos hst]
    exact courses_modPort ..
  by_cases hw : (raisesSupply (s.port p).st target && s.mustWait (regionOf p) order) = true
  · rw [if_neg hst, if_neg hst, if_pos hw, if_pos hw]
    dsimp only
    split
    · exact (waited_courses ..).trans (courses_modPort ..)
    · exact courses_modPort ..
  · rw [if_neg hst, if_neg hst, if_neg hw, if_neg hw]
    exact beginTransition_courses ..

/-- A course as a command names its target. -/
def Course.named (c : Course) (target : PState) : Course := { c with commanded := target, deferred := none }

/-- The place of a command in the order of acceptance: that of the queued command that it replaces, if any (R335). -/
def Course.order (c : Course) (accepted : Nat) : Nat :=
  match c.queued with
  | some q => q.order
  | none => accepted

/-- What a port command makes of its port's course (R335, R340, R16). -/
def Course.command (c : Course) (target : PState) (accepted : Nat) (asleep : Bool) (wait : Nat → Bool) : Course :=
  if asleep && (target == .ready || target == .run) then
    { c.named target with queued := none, deferred := some { target := target, order := accepted } }
  else match c.trans with
    | some t =>
      if t.target == target && c.queued.isNone then c.named target
      else { c.named target with queued := some { target := target, order := c.order accepted } }
    | none => (c.named target).started target (c.order accepted) (wait (c.order accepted))

theorem eligible_modPort (s : State) (p : PortId) (f : Port → Port) (ht : ∀ x, (f x).trans = x.trans)
    (hq : ∀ x, (f x).queued = x.queued) (r : RegionId) : (s.modPort p f).eligible r = s.eligible r := by
  have htrans (q : PortId) : ((s.modPort p f).port q).trans = (s.port q).trans := by
    by_cases h : q = p
    · subst h; rw [State.port_modPort, ht]
    · rw [State.port_modPort_ne s f h]
  have hqueued (q : PortId) : ((s.modPort p f).port q).queued = (s.port q).queued := by
    by_cases h : q = p
    · subst h; rw [State.port_modPort, hq]
    · rw [State.port_modPort_ne s f h]
  unfold State.eligible
  simp only [htrans, hqueued]
  rfl

theorem mustWait_modPort (s : State) (p : PortId) (f : Port → Port) (ht : ∀ x, (f x).trans = x.trans)
    (hq : ∀ x, (f x).queued = x.queued) (r : RegionId) (order : Nat) :
    (s.modPort p f).mustWait r order = s.mustWait r order := by
  have htrans (q : PortId) : ((s.modPort p f).port q).trans = (s.port q).trans := by
    by_cases h : q = p
    · subst h; rw [State.port_modPort, ht]
    · rw [State.port_modPort_ne s f h]
  unfold State.mustWait State.powerCount
  rw [eligible_modPort s p f ht hq]
  simp only [htrans]
  rfl

theorem portCommand_courses (p target mid s) :
    (State.portCommand p target mid s).courses = Function.update s.courses p
      ((s.port p).course.command target s.host.accepted (s.dev.st == .sleep) (s.mustWait (regionOf p))) := by
  unfold State.portCommand
  extract_lets x order u
  have hu : u.courses = Function.update s.courses p (x.course.named target) := courses_modPort ..
  have hup : (u.port p).course = x.course.named target := congrArg Port.course (State.port_modPort ..)
  have hinto (c : Course) : Function.update u.courses p c = Function.update s.courses p c := by
    rw [hu, Function.update_idem]
  have hasleep : (u.dev.st == DState.sleep) = (s.dev.st == DState.sleep) := rfl
  have hwait : u.mustWait (regionOf p) order = s.mustWait (regionOf p) order :=
    mustWait_modPort s p (fun x => { x with commanded := target, deferred := none }) (fun _ => rfl) (fun _ => rfl) _ order
  have hqueued (c : QueuedCmd) : (u.modPort p (fun x => { x with queued := some c })).courses =
      Function.update s.courses p { x.course.named target with queued := some c } := by
    rw [courses_modPort, hinto, ← hup]
    rfl
  unfold Course.command
  rw [hasleep]
  by_cases ha : (s.dev.st == .sleep && (target == .ready || target == .run)) = true
  · rw [if_pos ha, if_pos ha, courses_modPort, hinto, ← hup]
    rfl
  rw [if_neg ha, if_neg ha]
  rcases htr : x.trans with _ | t
  · rw [show (s.port p).course.trans = none from htr]
    dsimp only
    rw [startCmd_courses, hwait, hinto, hup]
    rfl
  · rw [show (s.port p).course.trans = some t from htr]
    dsimp only
    by_cases hsame : (t.target == target && x.queued.isNone) = true
    · exact (congrArg State.courses (if_pos hsame)).trans (hu.trans (congrArg _ (if_pos hsame).symm))
    · exact (congrArg State.courses (if_neg hsame)).trans ((hqueued _).trans (congrArg _ (if_neg hsame).symm))

/-- A course as its transition `t` ends. -/
def Course.ended (c : Course) (t : Trans) : Course :=
  { c with st := t.target, trans := none, stEvents := if t.byCmd then c.stEvents ||| oneBit 2 1 else c.stEvents }

/-- A course whose transition has ended, as its queued command starts where it raises no supply. -/
def Course.moved (c : Course) : Course :=
  match c.queued with
  | none => c
  | some q => if raisesSupply c.st q.target then c else c.started q.target q.order false

theorem started_of_lowers {c : Course} {target : PState} (h : raisesSupply c.st target = false) (order : Nat) (w : Bool) :
    c.started target order w = c.started target order false := by
  unfold Course.started
  rw [h, Bool.false_and, Bool.false_and]

/-- A transition as it ends, before its events and the queued command. -/
def State.arrive (p : PortId) (t : Trans) (sa sb : PairSense) (s : State) : State :=
  if t.target == .run then
    (if t.source == .off then s else s.modPort p (fun x => { x with line := x.line.assign x.multidrop sa sb })).enterRun p
  else s

/-- A port as its transition `t` reaches its target. -/
def Port.reach (t : Trans) (x : Port) : Port :=
  { x with st := t.target, trans := none, missed := x.missed || t.target == .off || t.target == .retain }

/-- The queued command of a port whose transition has ended (R16). -/
def State.moveOn (p : PortId) (s : State) : State :=
  match (s.port p).queued with
  | none => s
  | some q =>
    if !(raisesSupply (s.port p).st q.target) then s.startCmd p q.target q.order .idle
    else if s.mustWait (regionOf p) q.order then s.waited (regionOf p) else s

/-- The transition's event, where a command began it. -/
def State.reached (p : PortId) (t : Trans) (s : State) : State := if t.byCmd then s.pstateEvent 1 p else s

/-- A transition as it ends, before the queued command. -/
def State.landed (p : PortId) (t : Trans) (sa sb : PairSense) (s : State) : State :=
  ((s.modPort p (Port.reach t)).arrive p t sa sb).reached p t

theorem endTransition_eq (p t sa sb s) :
    State.endTransition p t sa sb s = ((s.landed p t sa sb).moveOn p).tieSync p := rfl

theorem assign_loaded (l : LineSt) (multidrop : Bool) (sa sb : PairSense) :
    (l.assign multidrop sa sb).loaded = l.loaded ∧ (l.assign multidrop sa sb).checking = l.checking := by
  unfold LineSt.assign
  split
  · cases l.rxRole <;> exact ⟨rfl, rfl⟩
  · dsimp only
    split <;> exact ⟨rfl, rfl⟩

theorem arrive_courses (p t sa sb s) : (State.arrive p t sa sb s).courses = s.courses := by
  refine keeps_if (((courses_blind p).enterRun _).trans (keeps_if rfl ((courses_blind p).move _ _ fun x => ?_))) rfl
  obtain ⟨hloaded, hchecking⟩ := assign_loaded x.line x.multidrop sa sb
  simp only [Port.course, hloaded, hchecking]

theorem pstateEvent_courses (b p s) : (State.pstateEvent b p s).courses =
    Function.update s.courses p { (s.port p).course with stEvents := (s.port p).course.stEvents ||| oneBit 2 b } := by
  unfold State.pstateEvent
  exact ((courses_blind p).portEvent ..).trans (courses_modPort ..)

theorem landed_courses (p t sa sb s) : (State.landed p t sa sb s).courses =
    Function.update s.courses p ((s.port p).course.ended t) := by
  have hreach : (s.modPort p (Port.reach t)).courses =
      Function.update s.courses p { (s.port p).course with st := t.target, trans := none } := courses_modPort ..
  let v := (s.modPort p (Port.reach t)).arrive p t sa sb
  have hv : v.courses = Function.update s.courses p { (s.port p).course with st := t.target, trans := none } :=
    (arrive_courses ..).trans hreach
  have hvp : (v.port p).course = { (s.port p).course with st := t.target, trans := none } := by
    rw [show (v.port p).course = v.courses p from rfl, hv, Function.update_self]
  by_cases hcmd : t.byCmd = true
  · refine (congrArg State.courses (if_pos hcmd)).trans ((pstateEvent_courses ..).trans ?_)
    rw [hv, hvp, Function.update_idem, Course.ended, if_pos hcmd]
    rfl
  · refine (congrArg State.courses (if_neg hcmd)).trans (hv.trans ?_)
    rw [Course.ended, if_neg hcmd]

theorem landed_course (p t sa sb s) : ((State.landed p t sa sb s).port p).course = (s.port p).course.ended t := by
  rw [show ((State.landed p t sa sb s).port p).course = (State.landed p t sa sb s).courses p from rfl, landed_courses,
    Function.update_self]

theorem moveOn_courses (p s) : (State.moveOn p s).courses = Function.update s.courses p (s.port p).course.moved := by
  unfold State.moveOn Course.moved
  have hkeep : Function.update s.courses p (s.port p).course = s.courses := Function.update_eq_self p s.courses
  rw [show (s.port p).course.queued = (s.port p).queued from rfl]
  cases (s.port p).queued with
  | none => exact hkeep.symm
  | some q =>
    dsimp only
    rw [show (s.port p).course.st = (s.port p).st from rfl]
    by_cases hraise : raisesSupply (s.port p).st q.target = true
    · rw [if_pos hraise, hkeep, hraise, Bool.not_true, if_neg Bool.false_ne_true]
      exact keeps_if (π := State.courses) (waited_courses ..) rfl
    · have hlow : raisesSupply (s.port p).st q.target = false := eq_false_of_ne_true hraise
      rw [if_neg hraise, hlow, Bool.not_false, if_pos rfl, startCmd_courses, started_of_lowers hlow]

theorem endTransition_courses (p t sa sb s) : (State.endTransition p t sa sb s).courses =
    Function.update s.courses p ((s.port p).course.ended t).moved := by
  rw [endTransition_eq]
  refine ((courses_blind p).tieSync _).trans ((moveOn_courses p _).trans ?_)
  rw [landed_courses, landed_course, Function.update_idem]

end Sys2Proof.Machine
end

section
/-! SUPPORT. The resets of a Run entry (12 R339), and the obligation on the states of the ports. -/

namespace Sys2Proof.Machine

/-- The flow, pacer, identifier and edge registers of a port as its Run begins (R446). -/
def Port.RunCleared (x : Port) : Prop :=
  x.flow.held = false ∧ x.flow.holdSent = false ∧ x.flow.rxOutstanding = 0 ∧ x.flow.txCredit = 0 ∧ x.tx.paceCount = 0 ∧
    x.missed = false ∧ x.af.rxPid = 0 ∧ x.af.txPid = 0 ∧ x.line.edgeMin = 0

/-- Whether the registers of the Run entry of port `p` are clear. -/
def State.RunCleared (p : PortId) (s : State) : Prop := (s.port p).RunCleared

theorem runCleared_blind (p : PortId) : ItemBlind p (State.RunCleared p) where
  keep s f h := (congrArg Port.RunCleared ((hull_blind p).keep s f h) :)
  modRegion _ _ _ := rfl
  modTie _ _ _ := rfl
  portEvent _ s := congrArg Port.RunCleared (port_of_attEvent _ s p)
  tieEvent _ s := congrArg Port.RunCleared (port_of_attEvent _ s p)
  tieFall _ _ := rfl
  count code s := congrArg Port.RunCleared (port_of_count code s p)
  hostError s := congrArg Port.RunCleared (port_of_hostError 4 s p)

theorem runCleared_modPort (s : State) {p : PortId} {f : Port → Port} (hf : ∀ x, (f x).RunCleared = x.RunCleared) :
    (s.modPort p f).RunCleared p = s.RunCleared p := by
  unfold State.RunCleared
  rw [State.port_modPort, hf]

theorem enterLineFault_runCleared (p s) : (State.enterLineFault p s).RunCleared p = s.RunCleared p := by
  have hb := runCleared_blind p
  unfold State.enterLineFault
  refine (hb.leaveTie _).trans ((runCleared_modPort _ (by exact fun _ => rfl)).trans (keeps_if (π := State.RunCleared p) ?_ rfl))
  exact (hb.drain _).trans ((hb.addLoss ..).trans (runCleared_modPort _ (by exact fun _ => rfl)))

theorem entryFlow_runCleared (p s) : (State.entryFlow p s).RunCleared p = s.RunCleared p := by
  unfold State.entryFlow State.modFlow
  exact ((runCleared_blind p).modRegion _ _ (by exact fun _ => rfl)).trans (runCleared_modPort _ (by exact fun _ => rfl))

theorem chargeFreeze_runCleared (p s) : (State.chargeFreeze p s).RunCleared p = s.RunCleared p := by
  refine runCleared_modPort _ fun x => ?_
  split <;> rfl

/-- A port whose losses of Retain and Off are said. -/
def Port.told (x : Port) : Port := { x with missed := false }

/-- Run's items leave no losses of Retain or Off unsaid, and the rest of the port's hull as it was. -/
theorem runEntryItems_hull (p s) :
    ((State.runEntryItems p s).port p).hull = (s.port p).hull.told := by
  have hb := hull_blind p
  unfold State.runEntryItems
  extract_lets s1 s2 s3 s4 x
  have h1 : (s1.port p).hull = (s.port p).hull :=
    keeps_if (π := fun s : State => (s.port p).hull) (hb.addLoss ..) rfl
  have h2 : (s2.port p).hull = (s.port p).hull.told := by
    have hfree : (s2.port p).hull = ((s1.modPort p Port.told).port p).hull := by
      unfold s2 State.freeRecords
      exact (hb.modQueue ..).trans (hb.modQueue ..)
    rw [hfree, ← h1, State.port_modPort]
    rfl
  have h3 : (s3.port p).hull = (s2.port p).hull :=
    keeps_if (π := fun s : State => (s.port p).hull) (hb.discardHolding ..) (hb.drain _)
  have h4 : (s4.port p).hull = (s.port p).hull.told := (hb.writeLineMarks _).trans (h3.trans h2)
  exact (keeps_if (π := fun s : State => (s.port p).hull) (hb.offerMark ..) rfl).trans h4

/-- A Run entry clears them on a port that is not frozen. -/
theorem enterRun_runCleared {p : PortId} {s : State} (hf : (s.port p).frozen = false) : (State.enterRun p s).RunCleared p := by
  unfold State.enterRun
  extract_lets s1 s2 s3 s4
  have hstart : s1.port p = (s.port p).runStart s.fastDisable := State.port_modPort ..
  have h2 : s2.RunCleared p := by
    have hfrozen : ¬ (s1.port p).frozen = true := by
      rw [hstart]
      exact ne_true_of_eq_false hf
    have heq : s2 = (s1.runEntryItems p).chargeFreeze p := if_neg hfrozen
    rw [heq, chargeFreeze_runCleared]
    have hhull : Port.RunCleared ((State.runEntryItems p s1).port p).hull := by
      rw [runEntryItems_hull, hstart]
      exact ⟨rfl, rfl, rfl, rfl, rfl, rfl, rfl, rfl, rfl⟩
    exact hhull
  have h3 : s3.RunCleared p := by
    rw [show s3.RunCleared p = s2.RunCleared p from ((runCleared_blind p).tryGap ..).trans (entryFlow_runCleared ..)]
    exact h2
  have h4 : s4.RunCleared p = s3.RunCleared p := keeps_if (π := State.RunCleared p) (enterLineFault_runCleared ..) rfl
  rw [show (State.tieSync p s4).RunCleared p = s4.RunCleared p from (runCleared_blind p).tieSync _, h4]
  exact h3

/-- A transition to Run that no command follows clears them too. -/
theorem endTransition_runCleared {p : PortId} {t : Trans} {sa sb : PairSense} {s : State} (ht : t.target = .run)
    (hf : (s.port p).frozen = false) (hq : (s.port p).queued = none) : (State.endTransition p t sa sb s).RunCleared p := by
  have hb := runCleared_blind p
  have hland : (s.landed p t sa sb).RunCleared p := by
    let v := (s.modPort p (Port.reach t)).arrive p t sa sb
    have hreach : ((s.modPort p (Port.reach t)).port p).frozen = false := by
      rw [State.port_modPort]
      exact hf
    have hv : v.RunCleared p := by
      have hrun : (t.target == PState.run) = true := by rw [ht]; rfl
      rw [show v = _ from if_pos hrun]
      refine enterRun_runCleared ?_
      split
      · exact hreach
      · rw [State.port_modPort]
        exact hreach
    have hevent : (v.pstateEvent 1 p).RunCleared p = v.RunCleared p :=
      (hb.portEvent ..).trans (runCleared_modPort _ (by exact fun _ => rfl))
    have hreached : (s.landed p t sa sb).RunCleared p = v.RunCleared p := keeps_if (π := State.RunCleared p) hevent rfl
    rw [hreached]
    exact hv
  have hqueued : ((s.landed p t sa sb).port p).queued = none :=
    (congrArg Course.queued (landed_course p t sa sb s)).trans hq
  have hmove : (s.landed p t sa sb).moveOn p = s.landed p t sa sb := by
    unfold State.moveOn
    rw [hqueued]
  rw [endTransition_eq, hmove, show (State.tieSync p _).RunCleared p = _ from hb.tieSync _]
  exact hland

/-! ### The commands -/

theorem exec_sequencerStart {s : State} {r : RegionId} {p : PortId} {target : PState} (hs : s.serving = true)
    (hn : s.powerCount r < 2) (hq : s.nextQueued r = some (p, target)) :
    exec (.sequencerStart r) s = .next (s.beginTransition p target true .idle) := by
  have hgo : (s.serving && decide (s.powerCount r < 2)) = true := by rw [hs, decide_eq_true hn]; rfl
  refine congrArg Host.Outcome.next ((if_pos hgo).trans ?_)
  rw [hq]

theorem exec_portTransitionEnd {s : State} {p : PortId} {t : Trans} (sa sb : PairSense) (hs : s.serving = true)
    (hp : s.present p = true) (ht : (s.port p).trans = some t) (hcmd : t.byCmd = true)
    (hchecked : t.checked = true ∨ t.target = .off) :
    exec (.portTransitionEnd p sa sb) s = .next (s.endTransition p t sa sb) := by
  have hgo : (s.serving && s.present p && t.byCmd && (t.checked || t.target == .off)) = true := by
    rw [hs, hp, hcmd]
    rcases hchecked with h | h <;> simp [h]
  refine congrArg Host.Outcome.next ?_
  rw [ht]
  exact if_pos hgo

theorem portCommand_course (p target mid s) : ((State.portCommand p target mid s).port p).course =
    (s.port p).course.command target s.host.accepted (s.dev.st == .sleep) (s.mustWait (regionOf p)) := by
  rw [show ((State.portCommand p target mid s).port p).course = (State.portCommand p target mid s).courses p from rfl,
    portCommand_courses, Function.update_self]

theorem portCommand_course_ne {p q : PortId} (h : q ≠ p) (target mid s) :
    ((State.portCommand p target mid s).port q).course = (s.port q).course := by
  rw [show ((State.portCommand p target mid s).port q).course = (State.portCommand p target mid s).courses q from rfl,
    portCommand_courses, Function.update_of_ne h]
  rfl

theorem started_commanded (c : Course) (target : PState) (order : Nat) (w : Bool) :
    (c.started target order w).commanded = c.commanded ∧ (c.started target order w).st = c.st ∧
      (c.started target order w).stEvents = c.stEvents ∧ (c.started target order w).deferred = c.deferred := by
  unfold Course.started
  split
  · exact ⟨rfl, rfl, rfl, rfl⟩
  split <;> exact ⟨rfl, rfl, rfl, rfl⟩

theorem moved_commanded (c : Course) :
    c.moved.commanded = c.commanded ∧ c.moved.st = c.st ∧ c.moved.stEvents = c.stEvents := by
  unfold Course.moved
  split
  · exact ⟨rfl, rfl, rfl⟩
  split
  · exact ⟨rfl, rfl, rfl⟩
  · obtain ⟨hcommanded, hst, hevents, -⟩ := started_commanded c ‹QueuedCmd›.target ‹QueuedCmd›.order false
    exact ⟨hcommanded, hst, hevents⟩

section
variable (c : Course) (target : PState) (accepted : Nat) (wait : Nat → Bool)

/-- A command names its target and leaves the state that the port is in. -/
theorem command_names (asleep : Bool) : (c.command target accepted asleep wait).commanded = target ∧
    (c.command target accepted asleep wait).st = c.st := by
  unfold Course.command
  split
  · exact ⟨rfl, rfl⟩
  split
  · split <;> exact ⟨rfl, rfl⟩
  · obtain ⟨hcommanded, hst, -⟩ := started_commanded (c.named target) target (c.order accepted) (wait (c.order accepted))
    exact ⟨hcommanded, hst⟩

theorem command_asleep (h : target = .ready ∨ target = .run) : c.command target accepted true wait =
    { c.named target with queued := none, deferred := some { target := target, order := accepted } } := by
  refine if_pos ?_
  rcases h with rfl | rfl <;> rfl

theorem command_still (h : c.trans = none) : c.command target accepted false wait =
    (c.named target).started target (c.order accepted) (wait (c.order accepted)) := by
  unfold Course.command
  rw [h]
  rfl

theorem command_moving {t : Trans} (h : c.trans = some t) (hother : t.target ≠ target ∨ c.queued ≠ none) :
    c.command target accepted false wait =
      { c.named target with queued := some { target := target, order := c.order accepted } } := by
  unfold Course.command
  rw [h, Bool.false_and, if_neg Bool.false_ne_true]
  refine if_neg ?_
  rcases hother with ht | hq
  · simp [ht]
  · simp [Option.isNone_iff_eq_none, hq]

theorem command_deferred : (c.command target accepted false wait).deferred = none := by
  unfold Course.command
  rw [Bool.false_and, if_neg Bool.false_ne_true]
  split
  · split <;> rfl
  · exact (started_commanded (c.named target) ..).2.2.2
end

theorem started_of_reached {c : Course} {target : PState} (h : c.st = target) (order : Nat) (w : Bool) :
    c.started target order w = { c with queued := none } := if_pos (by rw [h]; exact beq_self_eq_true target)

theorem started_of_wait {c : Course} {target : PState} (h : c.st ≠ target) (hraise : raisesSupply c.st target = true)
    (order : Nat) : c.started target order true = { c with queued := some { target := target, order := order } } := by
  unfold Course.started
  rw [if_neg (by simpa using h), hraise]
  rfl

theorem started_of_go {c : Course} {target : PState} {w : Bool} (h : c.st ≠ target)
    (hgo : ¬ (raisesSupply c.st target = true ∧ w = true)) (order : Nat) :
    c.started target order w = c.begun target true := by
  unfold Course.started
  rw [if_neg (by simpa using h), if_neg (by simpa using hgo)]

theorem endTransition_course (p t sa sb s) :
    ((State.endTransition p t sa sb s).port p).course = ((s.port p).course.ended t).moved := by
  rw [show ((State.endTransition p t sa sb s).port p).course = (State.endTransition p t sa sb s).courses p from rfl,
    endTransition_courses, Function.update_self]

theorem beginTransition_course (p target byCmd mid s) :
    ((State.beginTransition p target byCmd mid s).port p).course = (s.port p).course.begun target byCmd := by
  rw [show ((State.beginTransition p target byCmd mid s).port p).course =
    (State.beginTransition p target byCmd mid s).courses p from rfl, beginTransition_courses, Function.update_self]

/-- What a transition of a command leaves of its port's course, whatever command follows (R334, R335). -/
theorem course_reaches {x y : Port} {t : Trans} (hy : y.course = (x.course.ended t).moved) (hcmd : t.byCmd = true) :
    y.st = t.target ∧ y.stEvents.getLsbD 1 = true ∧ y.commanded = x.commanded ∧
      (x.queued = none → y.trans = none ∧ y.queued = none) := by
  obtain ⟨hcommanded, hst, hevents⟩ := moved_commanded (x.course.ended t)
  rw [← hy] at hcommanded hst hevents
  have hbit : y.stEvents = x.stEvents ||| oneBit 2 1 := hevents.trans (if_pos hcmd)
  refine ⟨hst, ?_, hcommanded, fun hq => ?_⟩
  · rw [hbit]
    simp
  · have hmoved : (x.course.ended t).moved = x.course.ended t := by
      unfold Course.moved Course.ended
      rw [show x.course.queued = none from hq]
    rw [hmoved] at hy
    exact ⟨congrArg Course.trans hy, (congrArg Course.queued hy).trans hq⟩

/-- A port command of a device that is awake, to a port in no transition (R16, R335). -/
theorem portCommand_still (p : PortId) (target : PState) (mid : Mid) (s : State) (ha : s.dev.st ≠ .sleep)
    (ht : (s.port p).trans = none) :
    ((State.portCommand p target mid s).port p).course = ((s.port p).course.named target).started target
      ((s.port p).course.order s.host.accepted) (s.mustWait (regionOf p) ((s.port p).course.order s.host.accepted)) := by
  rw [portCommand_course, show (s.dev.st == .sleep) = false from by simpa using ha]
  exact command_still _ _ _ _ ht

/-- Settles O43. Each clause is the course of the port that `portCommand_courses`, `beginTransition_courses` and
`endTransition_courses` give; the registers of the Run entry are clear by `endTransition_runCleared`. -/
theorem portStatesMove : Obligations.PortStatesMove := by
  unfold Obligations.PortStatesMove
  refine ⟨?_, ?_, ?_⟩
  · intro s p target mid x t y order ahead waits
    have hy : y.course = x.course.command target s.host.accepted (s.dev.st == .sleep) (s.mustWait (regionOf p)) :=
      portCommand_course ..
    have hawake (h : s.dev.st ≠ .sleep) : (s.dev.st == .sleep) = false := by simpa using h
    obtain ⟨hcommanded, hst⟩ := command_names x.course target s.host.accepted (s.mustWait (regionOf p)) (s.dev.st == .sleep)
    rw [← hy] at hcommanded hst
    refine ⟨hcommanded, hst, ?_, ?_, ?_, ?_, ?_, ?_, ?_⟩
    · intro hsleep htarget
      rw [hsleep, beq_self_eq_true, command_asleep _ _ _ _ htarget] at hy
      exact ⟨congrArg Course.deferred hy, congrArg Course.trans hy, congrArg Course.queued hy⟩
    · intro ha
      rw [hawake ha] at hy
      exact (congrArg Course.deferred hy).trans (command_deferred ..)
    · intro ha ht hreached
      have h := portCommand_still p target mid s ha ht
      rw [started_of_reached (c := (s.port p).course.named target) hreached] at h
      exact ⟨(congrArg Course.trans h).trans ht, congrArg Course.queued h⟩
    · intro ha ht hother hwaits
      obtain ⟨hraise, htwo⟩ := hwaits
      have h := portCommand_still p target mid s ha ht
      rw [show s.mustWait (regionOf p) ((s.port p).course.order s.host.accepted) = true from decide_eq_true htwo,
        started_of_wait (c := (s.port p).course.named target) hother hraise] at h
      exact ⟨(congrArg Course.trans h).trans ht, congrArg Course.queued h⟩
    · intro ha ht hother hgo
      have h := portCommand_still p target mid s ha ht
      have hfree : ¬ (raisesSupply (s.port p).st target = true ∧
          s.mustWait (regionOf p) ((s.port p).course.order s.host.accepted) = true) :=
        fun hw => hgo ⟨hw.1, of_decide_eq_true hw.2⟩
      rw [started_of_go (c := (s.port p).course.named target) hother hfree] at h
      exact ⟨congrArg Course.queued h, congrArg Course.trans h⟩
    · intro tr ha ht hother
      rw [hawake ha, command_moving x.course target s.host.accepted _ ht hother] at hy
      exact ⟨(congrArg Course.trans hy).trans ht, congrArg Course.queued hy⟩
    · intro o ho
      have h := portCommand_course_ne ho target mid s
      exact ⟨congrArg Course.st h, congrArg Course.trans h, congrArg Course.queued h, congrArg Course.commanded h⟩
  · intro s r p target hs hn hq
    have h := beginTransition_course p target true .idle s
    refine ⟨_, exec_sequencerStart hs hn hq, ?_⟩
    generalize State.beginTransition p target true .idle s = v at h ⊢
    exact ⟨congrArg Course.queued h, congrArg Course.st h, congrArg Course.trans h⟩
  · intro s p t sa sb hs hp ht hcmd hchecked
    obtain ⟨hst, hevent, hcommanded, hdone⟩ := course_reaches (endTransition_course p t sa sb s) hcmd
    have hclear := fun hq htarget hf => endTransition_runCleared (sa := sa) (sb := sb) (t := t) (p := p) (s := s) htarget hf hq
    refine ⟨_, exec_portTransitionEnd sa sb hs hp ht hcmd hchecked, ?_⟩
    generalize State.endTransition p t sa sb s = v at hst hevent hcommanded hdone hclear ⊢
    exact ⟨hst, hevent, hcommanded, hdone, hclear⟩

end Sys2Proof.Machine
end

section
/-! SUPPORT. A transition of one port leaves every other port that has not begun one to Off; the obligation on the release. -/

namespace Sys2Proof.Machine

theorem port_run {p q : PortId} (h : q ≠ p) : RunBlind p (fun s => s.port q) where
  toItemBlind := (port_blind h).toItemBlind
  move s f _ := (port_blind h).modPort s f

/-- The view `π` shows nothing of the ports, the regions, the tie groups and the events, nor of the loads of the image
shadow. -/
structure PortsBlind {α : Type} (π : State → α) : Prop where
  modPort : ∀ s p f, π (s.modPort p f) = π s
  modRegion : ∀ s r f, π (s.modRegion r f) = π s
  modTie : ∀ s g f, π (s.modTie g f) = π s
  attEvent : ∀ i s, π (s.attEvent i) = π s
  attFall : ∀ i s, π (s.attFall i) = π s
  count : ∀ code s, π (s.count code) = π s
  hostError : ∀ b s, π (s.hostError b) = π s
  loaded : ∀ mine bad s, π (State.loaded mine bad s) = π s
  upsetShadow : ∀ s : State, π s.upsetShadow = π s

section
variable {α : Type} {π : State → α} (hv : PortsBlind π)
include hv

theorem PortsBlind.run (p : PortId) : RunBlind p π where
  keep s f _ := hv.modPort s p f
  move s f _ := hv.modPort s p f
  modRegion s f _ := hv.modRegion s _ f
  modTie := hv.modTie
  portEvent _ := hv.attEvent _
  tieEvent _ := hv.attEvent _
  tieFall _ := hv.attFall _
  count := hv.count
  hostError := hv.hostError 4

theorem PortsBlind.loadResv (p s) : π (State.loadResv p s) = π s := by
  have hset (d n) (t : State) : π (State.setResv p d n t) = π t := by
    unfold State.setResv
    exact ((hv.run p).putQueue ..).trans (hv.modPort ..)
  unfold State.loadResv State.resvLoaded
  rw [hv.loaded, hset, hset]

theorem PortsBlind.blind (p : PortId) : CourseBlind p π where
  toRunBlind := hv.run p
  loaded := hv.loaded
  upsetShadow := hv.upsetShadow
  freezeFall := hv.attFall 144
  endRegionFreeze s := by
    unfold State.endRegionFreeze
    extract_lets ps s1
    have h1 : π s1 = π s := forEach_keeps (fun q _ t => hv.loadResv q t) s
    refine keeps_if h1 ((hv.modRegion ..).trans (Eq.trans (forEach_keeps (fun q _ t => ?_) s1) h1))
    exact hv.modPort ..

theorem PortsBlind.beginTransition (p target byCmd mid s) : π (State.beginTransition p target byCmd mid s) = π s := by
  have hc := hv.blind p
  unfold State.beginTransition
  extract_lets x s1 t s2 s3
  have h1 : π s1 = π s := keeps_if (hc.leaveRun ..) (keeps_if rfl (hc.leaveTie s))
  have h2 : π s2 = π s1 := hv.modPort ..
  have h3 : π s3 = π s2 := keeps_if (hc.enterOff _) rfl
  exact (hc.tieSync _).trans (h3.trans (h2.trans h1))

theorem PortsBlind.startCmd (p target order mid s) : π (State.startCmd p target order mid s) = π s := by
  unfold State.startCmd
  dsimp only
  split
  · exact hv.modPort ..
  split
  · split
    · exact ((hv.run p).waited _).trans (hv.modPort ..)
    · exact hv.modPort ..
  · exact hv.beginTransition ..

theorem PortsBlind.portCommand (p target mid s) : π (State.portCommand p target mid s) = π s := by
  unfold State.portCommand
  extract_lets x order u
  have hu : π u = π s := hv.modPort ..
  refine Eq.trans ?_ hu
  split
  · exact hv.modPort ..
  split
  · exact keeps_if rfl (hv.modPort ..)
  · exact hv.startCmd ..

theorem PortsBlind.arrive (p t sa sb s) : π (State.arrive p t sa sb s) = π s :=
  keeps_if (((hv.run p).enterRun _).trans (keeps_if rfl (hv.modPort ..))) rfl

theorem PortsBlind.landed (p t sa sb s) : π (State.landed p t sa sb s) = π s := by
  unfold State.landed State.reached
  refine Eq.trans (keeps_if ?_ rfl) ((hv.arrive ..).trans (hv.modPort ..))
  unfold State.pstateEvent
  exact (hv.attEvent ..).trans (hv.modPort ..)

theorem PortsBlind.moveOn (p s) : π (State.moveOn p s) = π s := by
  unfold State.moveOn
  split
  · rfl
  split
  · exact hv.startCmd ..
  · exact keeps_if ((hv.run p).waited _) rfl

theorem PortsBlind.endTransition (p t sa sb s) : π (State.endTransition p t sa sb s) = π s := by
  rw [endTransition_eq]
  exact ((hv.run p).tieSync _).trans ((hv.moveOn ..).trans (hv.landed ..))
end

theorem presentMask_blind : PortsBlind State.presentMask where
  modPort _ _ _ := rfl
  modRegion _ _ _ := rfl
  modTie _ _ _ := rfl
  attEvent i s := by
    obtain ⟨a, e, h⟩ := attEvent_form i s
    rw [h]
    rfl
  attFall _ _ := rfl
  count code s := by
    obtain ⟨a, c, e, h⟩ := count_form code s
    rw [h]
    rfl
  hostError b s := by
    obtain ⟨a, c, e, h⟩ := hostError_form b s
    rw [h]
    rfl
  loaded _ _ _ := rfl
  upsetShadow _ := rfl

theorem port_of_loadResv {p q : PortId} (h : q ≠ p) (s : State) : (State.loadResv p s).port q = s.port q := by
  have hset (d n) (t : State) : (State.setResv p d n t).port q = t.port q := by
    unfold State.setResv
    exact ((port_run h).putQueue ..).trans (State.port_modPort_ne _ _ h)
  have hloaded (t : State) : (State.resvLoaded p t).port q = t.port q := rfl
  unfold State.loadResv
  rw [hloaded, hset, hset]

/-- The end of a region's freeze leaves the ports of the other regions. -/
theorem port_of_endRegionFreeze {r : RegionId} {q : PortId} (h : q ∉ regionPorts r) (s : State) :
    (State.endRegionFreeze r s).port q = s.port q := by
  unfold State.endRegionFreeze
  extract_lets ps s1
  have hne (p) (hp : p ∈ ps) : q ≠ p := fun he => h (he ▸ (List.mem_filter.mp hp).1)
  have h1 : s1.port q = s.port q := forEach_keeps (π := fun s : State => s.port q) (fun p hp t => port_of_loadResv (hne p hp) t) s
  refine (keeps_if (π := fun s : State => s.port q) rfl ?_).trans h1
  exact forEach_keeps (π := fun s : State => s.port q) (fun p hp t => State.port_modPort_ne t _ (hne p hp)) s1

theorem port_of_endFreeze {p q : PortId} (h : q ≠ p) {s : State} (hq : s.present q = true)
    (hoff : (s.port q).offBegun = false) : (State.endFreeze p s).port q = s.port q := by
  unfold State.endFreeze
  extract_lets r s1 s2
  refine keeps_if (π := fun s : State => s.port q) rfl ?_
  have h1 : s1.port q = s.port q := by
    unfold s1 State.endPortFreeze
    refine (State.port_modPort_ne _ _ h).trans ?_
    exact (port_loaded ..).trans (State.port_modPort_ne _ _ h)
  have hpres : s1.present q = true := hq
  have h2 : s2.port q = s1.port q := by
    by_cases hmem : q ∈ regionPorts r
    · have hall : ¬ ((s1.region r).frozen && ((regionPorts r).filter s1.present).all (fun q => (s1.port q).offBegun)) = true := by
        intro hc
        rw [Bool.and_eq_true] at hc
        have hbegun := List.all_eq_true.mp hc.2 q (List.mem_filter.mpr ⟨hmem, hpres⟩)
        rw [h1, hoff] at hbegun
        cases hbegun
      exact congrArg (fun s : State => s.port q) (if_neg hall)
    · exact keeps_if (π := fun s : State => s.port q) (port_of_endRegionFreeze hmem s1) rfl
  exact h2.trans h1

theorem port_of_enterOff {p q : PortId} (h : q ≠ p) {s : State} (hq : s.present q = true)
    (hoff : (s.port q).offBegun = false) : (State.enterOff p s).port q = s.port q := by
  have hr := port_run h
  have hm := presentMask_blind.run p
  unfold State.enterOff
  extract_lets s1 s2
  have h2 : s2.port q = s.port q := (State.port_modPort_ne _ _ h).trans ((hr.tieSync _).trans
    ((hr.discardQueue ..).trans (hr.takeFlush ..)))
  have hmask : s2.presentMask = s.presentMask := (hm.move _ _ (by exact fun _ => rfl)).trans ((hm.tieSync _).trans
    ((hm.discardQueue ..).trans (hm.takeFlush ..)))
  have hpres : s2.present q = true := by
    unfold State.present at hq ⊢
    rw [hmask]
    exact hq
  exact (port_of_endFreeze h hpres (by rw [h2]; exact hoff)).trans h2

theorem port_of_beginTransition {p q : PortId} (h : q ≠ p) (target byCmd mid) {s : State} (hq : s.present q = true)
    (hoff : (s.port q).offBegun = false) : (State.beginTransition p target byCmd mid s).port q = s.port q := by
  have hr := port_run h
  have hm := presentMask_blind.run p
  unfold State.beginTransition
  extract_lets x s1 t s2 s3
  have h1 : s1.port q = s.port q :=
    keeps_if (π := fun s : State => s.port q) (hr.leaveRun ..) (keeps_if (π := fun s : State => s.port q) rfl (hr.leaveTie s))
  have hmask : s1.presentMask = s.presentMask := keeps_if (hm.leaveRun ..) (keeps_if rfl (hm.leaveTie s))
  have h2 : s2.port q = s.port q := (State.port_modPort_ne _ _ h).trans h1
  have hpres : s2.present q = true := by
    have hmask2 : s2.presentMask = s.presentMask := hmask
    unfold State.present at hq ⊢
    rw [hmask2]
    exact hq
  have h3 : s3.port q = s2.port q :=
    keeps_if (π := fun s : State => s.port q) (port_of_enterOff h hpres (by rw [h2]; exact hoff)) rfl
  exact (hr.tieSync _).trans (h3.trans h2)

/-! ### Another port through a transition -/

theorem port_of_startCmd {p q : PortId} (h : q ≠ p) (target order mid) {s : State} (hq : s.present q = true)
    (hoff : (s.port q).offBegun = false) : (State.startCmd p target order mid s).port q = s.port q := by
  unfold State.startCmd
  dsimp only
  split
  · exact State.port_modPort_ne _ _ h
  split
  · split
    · exact ((port_run h).waited _).trans (State.port_modPort_ne _ _ h)
    · exact State.port_modPort_ne _ _ h
  · exact port_of_beginTransition h _ _ _ hq hoff

theorem port_of_landed {p q : PortId} (h : q ≠ p) (t sa sb) (s : State) : (State.landed p t sa sb s).port q = s.port q := by
  have hr := port_run h
  have harrive (u : State) : (State.arrive p t sa sb u).port q = u.port q :=
    keeps_if (π := fun s : State => s.port q)
      ((hr.enterRun _).trans (keeps_if (π := fun s : State => s.port q) rfl (State.port_modPort_ne _ _ h))) rfl
  unfold State.landed State.reached
  refine Eq.trans (keeps_if (π := fun s : State => s.port q) ?_ rfl) ((harrive _).trans (State.port_modPort_ne _ _ h))
  unfold State.pstateEvent
  exact (hr.portEvent ..).trans (State.port_modPort_ne _ _ h)

theorem present_of_presentMask {s t : State} (h : t.presentMask = s.presentMask) (q : PortId) : t.present q = s.present q := by
  unfold State.present
  rw [h]

/-- The end of one port's transition leaves every other present port that has not begun one to Off. -/
theorem port_of_endTransition {p q : PortId} (h : q ≠ p) (t sa sb) {s : State} (hq : s.present q = true)
    (hoff : (s.port q).offBegun = false) : (State.endTransition p t sa sb s).port q = s.port q := by
  have hr := port_run h
  have hland := port_of_landed h t sa sb s
  have hpres : (s.landed p t sa sb).present q = true := (present_of_presentMask (presentMask_blind.landed ..) q).trans hq
  rw [endTransition_eq]
  refine (hr.tieSync _).trans (Eq.trans ?_ hland)
  unfold State.moveOn
  split
  · rfl
  split
  · exact port_of_startCmd h _ _ _ hpres (by rw [hland]; exact hoff)
  · exact keeps_if (π := fun s : State => s.port q) (hr.waited _) rfl

/-! ### The calibration of the release -/

/-- A port's share of the calibration's end. -/
def State.endCalibration (p : PortId) (t : State) : State :=
  match (t.port p).trans with
  | some tr => (t.calibrate p).endTransition p tr quietPair quietPair
  | none => t

theorem exec_releaseLoadCalibration {s : State} (h : s.loadRound = true) :
    exec .releaseLoadCalibration s = .next (forEach s.releasingPorts State.endCalibration s) :=
  congrArg Host.Outcome.next (if_pos h)

theorem endCalibration_presentMask (p s) : (State.endCalibration p s).presentMask = s.presentMask := by
  unfold State.endCalibration
  split
  · exact presentMask_blind.endTransition ..
  · rfl

theorem port_of_endCalibration {p q : PortId} (h : q ≠ p) {s : State} (hq : s.present q = true)
    (hoff : (s.port q).offBegun = false) : (State.endCalibration p s).port q = s.port q := by
  have hcal : (s.calibrate p).port q = s.port q := State.port_modPort_ne _ _ h
  have hcaloff : ((s.calibrate p).port q).offBegun = false := by
    rw [hcal]
    exact hoff
  have hcalpres : (s.calibrate p).present q = true := hq
  unfold State.endCalibration
  split
  · rw [port_of_endTransition h _ _ _ hcalpres hcaloff, hcal]
  · rfl

theorem course_of_endCalibration {p q : PortId} (h : q ≠ p) (s : State) :
    ((State.endCalibration p s).port q).course = (s.port q).course := by
  have hcal : (s.calibrate p).port q = s.port q := State.port_modPort_ne _ _ h
  unfold State.endCalibration
  split
  · rw [show ((State.endTransition p _ quietPair quietPair (s.calibrate p)).port q).course =
      (State.endTransition p _ quietPair quietPair (s.calibrate p)).courses q from rfl, endTransition_courses,
      Function.update_of_ne h]
    exact congrArg Port.course hcal
  · rfl

theorem moved_loaded (c : Course) : c.moved.loaded = c.loaded := by
  unfold Course.moved Course.started
  split
  · rfl
  split
  · rfl
  · split
    · rfl
    split <;> rfl

/-- The calibration leaves its port in the target of its transition, with LOADED set where the port drove. -/
theorem endCalibration_course {p : PortId} {s : State} {t : Trans} (ht : (s.port p).trans = some t) :
    ((State.endCalibration p s).port p).course.st = t.target ∧
      ((State.endCalibration p s).port p).course.loaded = ((s.port p).line.loaded || (s.port p).trainsLoaded) := by
  have hform : State.endCalibration p s = (s.calibrate p).endTransition p t quietPair quietPair := by
    unfold State.endCalibration
    rw [ht]
  have hcal : ((s.calibrate p).port p).course.loaded = ((s.port p).line.loaded || (s.port p).trainsLoaded) :=
    congrArg (fun x : Port => x.line.loaded) (State.port_modPort ..)
  rw [hform, endTransition_course]
  obtain ⟨-, hst, -⟩ := moved_commanded (((s.calibrate p).port p).course.ended t)
  exact ⟨hst, (moved_loaded _).trans hcal⟩

theorem forEach_course_of_notMem {q : PortId} {xs : List PortId} (h : q ∉ xs) (s : State) :
    ((forEach xs State.endCalibration s).port q).course = (s.port q).course :=
  forEach_keeps (π := fun s : State => (s.port q).course)
    (fun _ hx t => course_of_endCalibration (by rintro rfl; exact h hx) t) s

/-- Each port of the calibration ends in its target, whatever ports come before and after it. -/
theorem calibration_course {q : PortId} {xs : List PortId} (hxs : xs.Nodup) (hmem : q ∈ xs) {s : State} {t : Trans}
    (hq : s.present q = true) (ht : (s.port q).trans = some t) (hoff : t.target ≠ .off) :
    ((forEach xs State.endCalibration s).port q).course.st = t.target ∧
      ((forEach xs State.endCalibration s).port q).course.loaded = ((s.port q).line.loaded || (s.port q).trainsLoaded) := by
  induction xs generalizing s with
  | nil => cases hmem
  | cons x xs ih =>
    obtain ⟨hx, hxs⟩ := List.nodup_cons.mp hxs
    rw [forEach_cons]
    by_cases hqx : q = x
    · subst hqx
      rw [forEach_course_of_notMem hx]
      exact endCalibration_course ht
    · have hbegun : (s.port q).offBegun = false := by
        unfold Port.offBegun
        rw [ht]
        simpa using hoff
      have hport := port_of_endCalibration hqx hq hbegun
      have hpres : (State.endCalibration x s).present q = true :=
        (present_of_presentMask (endCalibration_presentMask ..) q).trans hq
      have h := ih hxs ((List.mem_cons.mp hmem).resolve_left hqx) (s := State.endCalibration x s) hpres (by rw [hport]; exact ht)
      rw [hport] at h
      exact h

theorem mem_releasingPorts {s : State} {p : PortId} :
    p ∈ s.releasingPorts ↔ s.present p = true ∧ (s.port p).releasing = true := by
  unfold State.releasingPorts
  rw [List.mem_filter]
  exact ⟨fun h => ⟨(List.mem_filter.mp h.1).2, h.2⟩, fun h => ⟨mem_presentPorts h.1, h.2⟩⟩

/-- The calibration runs once every line check of the release has ended. -/
theorem loadRound_of {s : State} (hs : s.serving = true) (hsome : ∃ p, s.present p = true ∧ (s.port p).releasing = true)
    (hall : ∀ p, s.present p = true → (s.port p).releasing = true →
      ∃ t, (s.port p).trans = some t ∧ t.checked = true ∧ t.target = .ready) : s.loadRound = true := by
  obtain ⟨p, hp⟩ := hsome
  have hne : s.releasingPorts.isEmpty = false := by
    rw [List.isEmpty_eq_false_iff_exists_mem]
    exact ⟨p, mem_releasingPorts.mpr hp⟩
  have hchecked : s.releasingPorts.all (fun p => (s.port p).trans.any (fun t => t.checked)) = true := by
    rw [List.all_eq_true]
    intro q hq
    obtain ⟨hpres, hrel⟩ := mem_releasingPorts.mp hq
    obtain ⟨t, ht, hc, -⟩ := hall q hpres hrel
    rw [ht]
    exact hc
  unfold State.loadRound
  rw [hs, hne, hchecked]
  rfl

/-- In the calibration a good transmit-role pair is driven, and its port's other pair is not. -/
theorem driverOn_of_calibration {s : State} {p : PortId} {pr : PairId} (hround : s.loadRound = true)
    (hp : s.present p = true) (hrel : (s.port p).releasing = true) (hst : (s.port p).st = .off)
    (hlight : (s.port p).lightTrain = false) (hfrozen : (s.port p).frozen = false)
    (ha : (s.port p).line.a.prot = false) (hb : (s.port p).line.b.prot = false)
    (hpr : pr = (s.port p).line.txRole (s.port p).multidrop) (hcond : ((s.port p).line.pair pr).cond = 0#4) :
    s.driverOn p pr = true ∧ s.driverOn p (otherPair pr) = false := by
  have hunits : s.lineUnitsOn p = false := by
    unfold State.lineUnitsOn
    rw [hst]
    simp
  have hloads : (s.port p).trainsLoaded = true := by
    unfold Port.trainsLoaded
    rw [hlight, hfrozen, ha, hb]
    rfl
  have hother : (otherPair pr == pr) = false := by cases pr <;> rfl
  unfold State.driverOn State.drivesPrbs PairSt.mayTrain
  dsimp only
  rw [hunits, hround, hp, hrel, hloads, hst, ← hpr, hcond, hother, beq_self_eq_true]
  exact ⟨by rw [beq_self_eq_true pr]; rfl, by simp⟩

/-- Settles O22: the release is `linkUp_released`, the calibration's end `calibration_course` for each port of its round. -/
theorem linkUpReleases : Obligations.LinkUpReleases := by
  unfold Obligations.LinkUpReleases
  constructor
  · intro s tn halfAttempt flags ms hon hstage hlink hst hsleep hexit hup
    have hrun := exec_linkUp_release ms hon hstage hlink hst hup (halfAttempt := halfAttempt) (flags := flags)
    have h := linkUp_released tn (s.halfForced || halfAttempt || !flags.getLsbD 0 || flags.getLsbD 2) s.tr.lostAll ms hsleep hexit
    refine ⟨_, hrun, ?_⟩
    generalize State.pump _ = t at h ⊢
    obtain ⟨⟨hs, hms⟩, hstraps, hevent, hpower, ⟨hup, hhalf⟩, herrors, ⟨hwidth, hchanging⟩, hflash, hports⟩ := h
    exact ⟨hs, hms, hevent, hpower, hup, herrors, hhalf, hwidth, hchanging,
      fun p hp => ⟨(hports p hp).commanded, (hports p hp).trans, (hports p hp).checking⟩, hstraps, hflash⟩
  · intro s hs hsome hall
    have hround := loadRound_of hs hsome hall
    refine ⟨fun p pr hp hrel hst hlight hfrozen ha hb hpr hcond =>
      driverOn_of_calibration hround hp hrel hst hlight hfrozen ha hb hpr hcond, _, exec_releaseLoadCalibration hround, ?_⟩
    intro p hp hrel
    obtain ⟨t, ht, -, htarget⟩ := hall p hp hrel
    obtain ⟨hst, hloaded⟩ := calibration_course ((presentPorts_nodup s).filter _) (mem_releasingPorts.mpr ⟨hp, hrel⟩) hp ht
      (by rw [htarget]; decide)
    exact ⟨hst.trans htarget, hloaded⟩

end Sys2Proof.Machine
end

section
/-! SUPPORT. A write of one word to a register of a device that serves the host (09 R258, R472), and the commands of the ports
(09 R277). -/

namespace Sys2Proof.Machine

/-! ### Fields of a word -/

theorem bits_fld_or_low {n m : Nat} (lo : Nat) (a : BitVec n) (b : BitVec m) (h : m ≤ lo) (hm : m ≤ 32) :
    bits (fld lo a ||| fld 0 b) 0 m = b := by
  refine BitVec.eq_of_getLsbD_eq fun i hi => ?_
  have h32 : i < 32 := by omega
  have hlo : i < lo := by omega
  simp [bits, fld, hi, h32, hlo]

theorem bits_fld_or_high {n m : Nat} (lo : Nat) (a : BitVec n) (b : BitVec m) (h : m ≤ lo) (hn : lo + n ≤ 32) :
    bits (fld lo a ||| fld 0 b) lo n = a := by
  refine BitVec.eq_of_getLsbD_eq fun i hi => ?_
  have h32 : lo + i < 32 := by omega
  have hb : b.getLsbD (lo + i) = false := BitVec.getLsbD_of_ge b _ (by omega)
  simp [bits, fld, hi, h32, hb]

theorem bits_fld_zero {n : Nat} (a : BitVec n) (hn : n ≤ 32) : bits (fld 0 a) 0 n = a := by
  refine BitVec.eq_of_getLsbD_eq fun i hi => ?_
  have h32 : i < 32 := by omega
  simp [bits, fld, hi, h32]

/-! ### The registers of the blocks -/

theorem regAt_cmd {o : Nat} (h : o < 0x1000) (h4 : o % 4 = 0) : regAt (0x6000 + o) = cmdReg o := by
  have hword : (0x6000 + o) / 4 * 4 = 0x6000 + o := by omega
  have hlow : ∀ k ≤ 0x6000, ¬ 0x6000 + o < k := by omega
  have hhigh : 0x6000 + o < 0x7000 := by omega
  simp [regAt, hword, hlow, hhigh]

theorem regAt_att {k : Nat} (h : k < 1024) : regAt (0x4000 + 4 * k) = attReg k := by
  have hword : (0x4000 + 4 * k) / 4 * 4 = 0x4000 + 4 * k := by omega
  have hlow : ∀ j ≤ 0x4000, ¬ 0x4000 + 4 * k < j := by omega
  have hhigh : 0x4000 + 4 * k < 0x5000 := by omega
  have hoff : (0x4000 + 4 * k - 0x4000) / 4 = k := by omega
  simp [regAt, hword, hlow, hhigh]

theorem regAt_cnt {k : Nat} (h : k < 1024) : regAt (0x5000 + 4 * k) = cntReg k := by
  have hword : (0x5000 + 4 * k) / 4 * 4 = 0x5000 + 4 * k := by omega
  have hlow : ∀ j ≤ 0x5000, ¬ 0x5000 + 4 * k < j := by omega
  have hhigh : 0x5000 + 4 * k < 0x6000 := by omega
  simp [regAt, hword, hlow, hhigh]

theorem regAt_low {a : Nat} (h : a < 0x1000) (h4 : a % 4 = 0) : regAt a = lowReg a := by
  have hword : a / 4 * 4 = a := by omega
  simp [regAt, hword, h]

theorem regAt_portStateCmd : regAt 0x6004 = some .portStateCmd := regAt_cmd (o := 0x04) (by decide) rfl
theorem regAt_rateCmd : regAt 0x6008 = some .rateCmd := regAt_cmd (o := 0x08) (by decide) rfl
theorem regAt_deviceStateCmd : regAt 0x600C = some .deviceStateCmd := regAt_cmd (o := 0x0C) (by decide) rfl
theorem regAt_trkWidthCmd : regAt 0x6010 = some .trkWidthCmd := regAt_cmd (o := 0x10) (by decide) rfl
theorem regAt_deviceIndex : regAt 0x6000 = some .deviceIndex := regAt_cmd (o := 0x00) (by decide) rfl
theorem regAt_tieCmd : regAt 0x6054 = some .tieCmd := regAt_cmd (o := 0x54) (by decide) rfl
theorem regAt_queueCmd : regAt 0x6060 = some .queueCmd := regAt_cmd (o := 0x60) (by decide) rfl
theorem regAt_cntClear : regAt 0x5204 = some .cntClear := regAt_cnt (k := 129) (by decide)
theorem regAt_attProc : regAt 0x4100 = some .attProc := regAt_att (k := 64) (by decide)
theorem regAt_imgWinCtl : regAt 0x300 = some .imgWinCtl := regAt_low (by decide) rfl

/-! ### One word written -/

/-- How the write of a word at `addr` completes, the beat done (R472, R263). -/
def State.wordDone (q : Req) (addr : BitVec 16) (t : State) : BeatRes → State
  | .ok => t.complete q 0 0 0 []
  | .ignored false => t.complete q 4 1 0 []
  | .ignored true => ((t.recordErr q addr).hostError 1).complete q 4 1 0 []
  | .refused d acted => t.complete q 2 (if acted then 0 else 1) d []

theorem doWrite_word {s : State} {q : Req} {addr : BitVec 16} {v : Word} {mids : List Mid} {r : Reg}
    (halign : addr.toNat % 4 = 0) (hreg : regAt addr.toNat = some r) :
    s.doWrite q 2 addr [v] mids =
      ((s.writeReg q addr r v mids).1.wordDone q addr (s.writeReg q addr r v mids).2).beginChange s.dev.changing := by
  have haddr : BitVec.ofNat 16 (addr.toNat / 4 * 4) = addr := by
    rw [Nat.div_mul_cancel (Nat.dvd_of_mod_eq_zero halign), BitVec.ofNat_toNat, BitVec.setWidth_eq]
  have haddr' : BitVec.ofNat 16 addr.toNat = addr := by rw [BitVec.ofNat_toNat, BitVec.setWidth_eq]
  unfold State.doWrite
  rw [List.zipIdx_singleton, List.foldl_cons, List.foldl_nil]
  unfold State.writeBeat beatAddr
  dsimp only
  rw [Nat.mul_zero, Nat.add_zero, hreg, haddr, haddr']
  have hword : narrowWrite 2 addr.toNat v = v := rfl
  rcases hx : s.writeReg q addr r v mids with ⟨t, res⟩
  simp only [hword, hx]
  rcases res with _ | flagged | ⟨d, acted⟩
  · simp [State.wordDone, BurstRes.status]
  · cases flagged <;> simp [State.wordDone, BurstRes.status]
  · cases acted <;> simp [State.wordDone, BurstRes.status]

/-- The host's word for address `b` reaches its register: blocks flow, and the state of the device refuses no such write (R261). -/
def State.takes (s : State) (b : Nat) : Prop := s.blocksFlow = true ∧ s.acceptBlk.blockRefused true b = false

theorem takes_of_hostReady {s : State} (h : s.hostReady) (b : Nat) : s.takes b := ⟨h.1, blockRefused_acceptBlk h ..⟩

/-- The command registers take words in Sleep too. -/
theorem takes_of_released {s : State} (hflow : s.blocksFlow = true) (hstage : s.boot.stage = .released) {b : Nat}
    (hb : 0x6000 ≤ b ∧ b < 0x7000) : s.takes b := by
  refine ⟨hflow, ?_⟩
  have hstage' : s.acceptBlk.boot.stage = .released := (stage_of_offTrunk (acceptBlk_offTrunk s)).trans hstage
  unfold State.blockRefused
  rw [hstage', if_neg (by decide), decide_eq_false (by omega), decide_eq_false (by omega)]
  exact Bool.and_false _

theorem write1_takes {s : State} {q : Req} {addr : BitVec 16} {v : Word} {mids : List Mid} {r : Reg} (h : s.takes addr.toNat)
    (halign : addr.toNat % 4 = 0) (hreg : regAt addr.toNat = some r)
    (hok : s.acceptBlk.regRefuses q true true 2 v r = false) :
    s.write1 q addr v mids = ((s.acceptBlk.writeReg q addr r v mids).1.wordDone q addr
      (s.acceptBlk.writeReg q addr r v mids).2).beginChange s.dev.changing := by
  have hnone : s.acceptBlk.refusal q true 2 addr 1 [v] = none := refusal_word_eq_none h.2 halign hreg hok
  have hrun : s.write1 q addr v mids = s.acceptBlk.doWrite q 2 addr [v] mids := by
    rw [State.write1, hostCtl_of_blocksFlow _ h.1, State.writeReq, hnone]
    rfl
  rw [hrun, doWrite_word halign hreg,
    show s.acceptBlk.dev.changing = s.dev.changing from devChanging_of_offTrunk (acceptBlk_offTrunk s)]

theorem beginChange_of_changing {was : Bool} {t : State} (h : t.dev.changing = was) : t.beginChange was = t := by
  refine if_pos ?_
  rw [h]
  cases was <;> rfl

theorem hostError_dev (b : Fin 6) (s : State) : (s.hostError b).dev = s.dev := by
  obtain ⟨a, c, e, h⟩ := hostError_form b s
  rw [h]

theorem complete_changing (q st n d w) (t : State) : (State.complete q st n d w t).dev.changing = t.dev.changing :=
  devChanging_of_offTrunk (complete_offTrunk ..)

theorem wordDone_changing (q addr) (t : State) (res : BeatRes) : (t.wordDone q addr res).dev.changing = t.dev.changing := by
  rcases res with _ | flagged | ⟨d, acted⟩
  · exact complete_changing ..
  · cases flagged
    · exact complete_changing ..
    · exact (complete_changing ..).trans (congrArg Dev.changing (hostError_dev ..))
  · exact complete_changing ..

/-- A word that begins no change of the device's state, written to a register that all origins see. -/
theorem write1_takes_still {s t : State} {q : Req} {addr : BitVec 16} {v : Word} {mids : List Mid} {r : Reg} {res : BeatRes}
    (h : s.takes addr.toNat) (halign : addr.toNat % 4 = 0) (hreg : regAt addr.toNat = some r)
    (hok : s.acceptBlk.regRefuses q true true 2 v r = false) (hw : s.acceptBlk.writeReg q addr r v mids = (t, res))
    (hd : t.dev.changing = s.dev.changing) : s.write1 q addr v mids = t.wordDone q addr res := by
  rw [write1_takes h halign hreg hok, hw]
  exact beginChange_of_changing ((wordDone_changing ..).trans hd)

theorem write1_still {s t : State} {q : Req} {addr : BitVec 16} {v : Word} {mids : List Mid} {r : Reg} {res : BeatRes}
    (h : s.hostReady) (halign : addr.toNat % 4 = 0) (hreg : regAt addr.toNat = some r)
    (hok : s.acceptBlk.regRefuses q true true 2 v r = false) (hw : s.acceptBlk.writeReg q addr r v mids = (t, res))
    (hd : t.dev.changing = s.dev.changing) : s.write1 q addr v mids = t.wordDone q addr res :=
  write1_takes_still (takes_of_hostReady h _) halign hreg hok hw hd

theorem acceptBlk_changing (s : State) : s.acceptBlk.dev.changing = s.dev.changing :=
  devChanging_of_offTrunk (acceptBlk_offTrunk s)

/-! ### The commands of the ports -/

theorem dev_blind : PortsBlind State.dev where
  modPort _ _ _ := rfl
  modRegion _ _ _ := rfl
  modTie _ _ _ := rfl
  attEvent i s := by
    obtain ⟨a, e, h⟩ := attEvent_form i s
    rw [h]
  attFall _ _ := rfl
  count code s := by
    obtain ⟨a, c, e, h⟩ := count_form code s
    rw [h]
  hostError := hostError_dev
  loaded _ _ _ := rfl
  upsetShadow _ := rfl

theorem stateOf_code (st : PState) : stateOf st.code = st := by cases st <;> rfl

/-- The ports of a list take their commands, in order. -/
def State.commandAll (ps : List PortId) (target : PState) (mids : List Mid) (s : State) : State :=
  forEach ps.zipIdx (fun x t => t.portCommand x.1 target (mids.getD x.2 .idle)) s

theorem commandAll_dev (ps target mids s) : (State.commandAll ps target mids s).dev = s.dev :=
  forEach_keeps (π := State.dev) (fun _ _ t => dev_blind.portCommand _ _ _ t) s

/-- A register that all origins see is written (R262, R448). -/
theorem hidden_of_open (s : State) (q : Req) {r : Reg} (hsec : r.isSec = false) (habsent : s.regAbsent r = false) :
    s.hidden q r = false := by
  unfold State.hidden
  rw [hsec, habsent]
  rfl

/-- A PORT_STATE_CMD (R277). -/
theorem stateCmdReq_eq {s : State} (h : s.takes 0x6004) (q : Req) (st : PState) (ports : BitVec 16) (mids : List Mid) :
    let u := s.acceptBlk
    let held := st == .run && u.runHeld && !(u.portsOf ports).isEmpty
    s.stateCmdReq q st ports mids = (u.commandAll (u.portsOf ports) (if held then .ready else st) mids).wordDone q 0x6004
      (if held then .refused (ports &&& u.presentMask) true else .ok) := by
  intro u held
  refine write1_takes_still h rfl regAt_portStateCmd rfl ?_
    ((congrArg Dev.changing (commandAll_dev ..)).trans (acceptBlk_changing s))
  refine (if_neg (ne_true_of_eq_false (hidden_of_open u q rfl rfl))).trans ?_
  have hports : bits (fld 16 st.code ||| fld 0 ports) 0 16 = ports := bits_fld_or_low 16 _ _ (by decide) (by decide)
  have hwant : stateOf (bits (fld 16 st.code ||| fld 0 ports) 16 2) = st := by
    rw [bits_fld_or_high 16 _ _ (by decide) (by decide), stateOf_code]
  dsimp only [State.portStateCmd]
  rw [hports, hwant]
  rfl

theorem runHeld_acceptBlk (s : State) : s.acceptBlk.runHeld = s.runHeld := by
  have h := congrArg State.runHeld (acceptBlk_offTrunk s)
  exact h

theorem portsOf_acceptBlk (s : State) (m : BitVec 16) : s.acceptBlk.portsOf m = s.portsOf m := by
  have h := congrArg (fun t : State => t.portsOf m) (acceptBlk_offTrunk s)
  exact h

theorem presentMask_acceptBlk (s : State) : s.acceptBlk.presentMask = s.presentMask := by
  have h := congrArg State.presentMask (acceptBlk_offTrunk s)
  exact h

theorem rateCommand_dev (p e s) : (State.rateCommand p e s).dev = s.dev := by
  unfold State.rateCommand State.modRate
  dsimp only
  split
  · rfl
  split <;> rfl

/-- A RATE_CMD (R115, R277). -/
theorem exec_rateCmd {s : State} (h : s.hostReady) (q : Req) (e : BitVec 2) (ports : BitVec 16) :
    exec (.rateCmd q e ports) s =
      .next ((forEach (s.acceptBlk.portsOf ports) (fun p t => t.rateCommand p e) s.acceptBlk).complete q 0 0 0 []) := by
  have hdev := forEach_keeps (π := State.dev) (xs := s.acceptBlk.portsOf ports) (f := fun p t => State.rateCommand p e t)
    (fun p _ t => rateCommand_dev p e t) s.acceptBlk
  refine congrArg Host.Outcome.next (write1_still h rfl regAt_rateCmd rfl (res := .ok) ?_
    ((congrArg Dev.changing hdev).trans (acceptBlk_changing s)))
  refine (if_neg (ne_true_of_eq_false (hidden_of_open _ q rfl rfl))).trans ?_
  dsimp only [State.rateCmd]
  rw [bits_fld_or_low 16 _ _ (by decide) (by decide), bits_fld_or_high 16 _ _ (by decide) (by decide)]

/-- What a rate command makes of its port's rate (R115, R118). -/
theorem rateCommand_acts (v : State) (p : PortId) (e : BitVec 2) :
    let r := (v.port p).rate
    let y := ((v.rateCommand p e).port p).rate
    (r.pend = false → r.cur = e → v.rateCommand p e = v) ∧
      ((r.pend = true ∨ r.cur ≠ e) → (v.port p).inRun = true → y.pend = true ∧ y.pendEntry = e ∧ y.rxTaken = false ∧
        y.txTaken = false ∧ y.cur = r.cur) ∧
      ((r.pend = true ∨ r.cur ≠ e) → (v.port p).inRun = false → y.pend = false ∧ y.cur = e ∧ y.rxEntry = e ∧ y.txEntry = e) := by
  intro r y
  have hmove (hother : r.pend = true ∨ r.cur ≠ e) : ¬ (!(v.port p).rate.pend && decide ((v.port p).rate.cur = e)) = true := by
    rw [Bool.and_eq_true, decide_eq_true_eq]
    rintro ⟨hpend, hcur⟩
    rcases hother with h | h
    · rw [show (v.port p).rate.pend = true from h] at hpend
      cases hpend
    · exact h hcur
  refine ⟨fun hpend hcur => if_pos ?_, fun hother hrun => ?_, fun hother hrun => ?_⟩
  · rw [show (v.port p).rate.pend = false from hpend, show (v.port p).rate.cur = e from hcur]
    simp
  · have hy : y = { r with pendEntry := e, pend := true, rxTaken := false, txTaken := false } := by
      unfold y State.rateCommand
      rw [if_neg (by simpa using hmove hother), if_pos hrun]
      exact congrArg Port.rate (State.port_modPort ..)
    rw [hy]
    exact ⟨rfl, rfl, rfl, rfl, rfl⟩
  · have hy : y = { r with cur := e, rxEntry := e, txEntry := e, pend := false, rxTaken := false, txTaken := false } := by
      unfold y State.rateCommand
      rw [if_neg (by simpa using hmove hother), if_neg (by simpa using hrun)]
      exact congrArg Port.rate (State.port_modPort ..)
    rw [hy]
    exact ⟨rfl, rfl, rfl, rfl⟩

/-- Settles O42: PORT_STATE_CMD and RATE_CMD as one word written (`stateCmdReq_eq`, `exec_rateCmd`), and a rate command's port
by `rateCommand_acts`. -/
theorem portCommandsAct : Obligations.PortCommandsAct := by
  unfold Obligations.PortCommandsAct
  intro s q ports mids e h u all
  have hcmd (st : PState) (ms : List Mid) := stateCmdReq_eq (takes_of_hostReady h _) q st ports ms
  dsimp only at hcmd
  rw [runHeld_acceptBlk, portsOf_acceptBlk, presentMask_acceptBlk] at hcmd
  have hfree (st : PState) (ms : List Mid) (hst : (st == .run && s.runHeld && !(s.portsOf ports).isEmpty) = false) :
      s.stateCmdReq q st ports ms = (all st ms).complete q 0 0 0 [] := by
    rw [hcmd, hst]
    rfl
  refine ⟨congrArg Host.Outcome.next (hfree .off mids rfl), congrArg Host.Outcome.next (hfree .retain mids rfl),
    congrArg Host.Outcome.next (hfree .ready mids rfl), fun hrun => congrArg Host.Outcome.next (hfree .run [] ?_),
    fun hheld hne => congrArg Host.Outcome.next ?_, ?_, fun v p => rateCommand_acts v p e⟩
  · rcases hrun with hrun | hrun
    · rw [hrun]
      rfl
    · rw [hrun]
      simp
  · have hgo : (PState.run == .run && s.runHeld && !(s.portsOf ports).isEmpty) = true := by
      rw [hheld]
      simpa using hne
    rw [hcmd, hgo]
    rfl
  · have hrate := exec_rateCmd h q e ports
    rw [portsOf_acceptBlk] at hrate
    exact hrate

end Sys2Proof.Machine
end

section
/-! SUPPORT. What the acceptance of a block leaves (08 R240), and the obligation on the device commands (12 R341 to R345). -/

namespace Sys2Proof.Machine

/-- The acceptance of a block moves the numbers, the counters and the events alone. -/
theorem acceptBlk_form (s : State) : ∃ (x : BitVec 12) (n : Nat) (l : LinkBlk) (a : Att) (c : Cnt) (e : List SrcId),
    s.acceptBlk = { s with
      host := { s.host with accepted := s.host.accepted + 1 }
      tr := { s.tr with rxExpect := x, sinceAck := n, linkOut := l }
      att := a
      cnt := c
      boot := { s.boot with early := e } } := by
  unfold State.acceptBlk
  obtain ⟨a, c, e, h⟩ := count_form 0x072 ({ s with host := { s.host with accepted := s.host.accepted + 1 } })
  rw [h]
  dsimp only
  split
  · obtain ⟨a', c', e', h'⟩ := count_form 0x073 (State.modTr (fun t => { t with
        rxExpect := s.tr.rxExpect + 1, sinceAck := 0, linkOut := .ack (s.tr.rxExpect + 1 - 1) })
      { s with
        host := { s.host with accepted := s.host.accepted + 1 }
        att := a
        cnt := c
        boot := { s.boot with early := e } })
    exact ⟨_, _, _, a', c', e', h'⟩
  · exact ⟨_, _, s.tr.linkOut, a, c, e, rfl⟩

theorem acceptBlk_dev (s : State) : s.acceptBlk.dev = s.dev := by
  obtain ⟨x, n, l, a, c, e, h⟩ := acceptBlk_form s
  rw [h]
theorem acceptBlk_link (s : State) : s.acceptBlk.tr.link = s.tr.link := by
  obtain ⟨x, n, l, a, c, e, h⟩ := acceptBlk_form s
  rw [h]
theorem acceptBlk_trained (s : State) : s.acceptBlk.tr.trained = s.tr.trained := by
  obtain ⟨x, n, l, a, c, e, h⟩ := acceptBlk_form s
  rw [h]
theorem acceptBlk_straps (s : State) : s.acceptBlk.boot.straps = s.boot.straps := by
  obtain ⟨x, n, l, a, c, e, h⟩ := acceptBlk_form s
  rw [h]
theorem acceptBlk_svc (s : State) : s.acceptBlk.svc = s.svc := by
  obtain ⟨x, n, l, a, c, e, h⟩ := acceptBlk_form s
  rw [h]
theorem acceptBlk_portsQuiet (s : State) : s.acceptBlk.portsQuiet = s.portsQuiet := by
  obtain ⟨x, n, l, a, c, e, h⟩ := acceptBlk_form s
  rw [h]
  rfl
theorem acceptBlk_deepAllowed (s : State) : s.acceptBlk.deepAllowed = s.deepAllowed := by
  obtain ⟨x, n, l, a, c, e, h⟩ := acceptBlk_form s
  rw [h]
  rfl

theorem acceptBlk_ports (s : State) : s.acceptBlk.ports = s.ports := by
  obtain ⟨x, n, l, a, c, e, h⟩ := acceptBlk_form s
  rw [h]
theorem acceptBlk_port (s : State) (p : PortId) : s.acceptBlk.port p = s.port p := by
  obtain ⟨x, n, l, a, c, e, h⟩ := acceptBlk_form s
  rw [h]
  rfl
theorem acceptBlk_cfgBad (s : State) : s.acceptBlk.boot.cfgBad = s.boot.cfgBad := by
  obtain ⟨x, n, l, a, c, e, h⟩ := acceptBlk_form s
  rw [h]
theorem acceptBlk_errors (s : State) : s.acceptBlk.host.errors = s.host.errors := by
  obtain ⟨x, n, l, a, c, e, h⟩ := acceptBlk_form s
  rw [h]

/-! ### A change of the device's state begins (R277) -/

theorem link_of_blocksFlow {s : State} (h : s.blocksFlow = true) : s.tr.link = .up := by
  unfold State.blocksFlow at h
  rw [Bool.and_eq_true] at h
  exact eq_of_beq h.2

/-- Where no change was due, the completion of a request leaves the device, the link and the service port as they were. -/
theorem complete_unbuilt {s : State} (h : s.dev.changeDue = false) (q st n d w) :
    (State.complete q st n d w s).unbuilt = s.unbuilt :=
  pump_unbuilt (s := s.modTr (fun t => { t with ctlQ := t.ctlQ ++ [completionBlk q st n d w] })) h

/-- A retrain that a command begins: at once where nothing built waits to be sent. -/
def State.retrainDue (t : State) : State :=
  if t.tr.ctlQ = [] ∧ t.tr.waitBlk = none then t.beginRetrain else { t with dev := { t.dev with changeDue := true } }

theorem beginChange_retrain {t : State} (hchanging : t.dev.changing = true) (hexit : t.dev.exiting = false)
    (hdeep : t.dev.deepWait = false) (hdue : t.dev.changeDue = false) (hlink : t.tr.link = .up) :
    t.beginChange false = t.retrainDue := by
  have hstart : (false || !t.dev.changing || t.dev.exiting) = false := by rw [hchanging, hexit]; rfl
  have hsame : { t with dev := { t.dev with changeDue := false } } = t := by rw [← hdue]
  unfold State.beginChange
  rw [hstart, if_neg Bool.false_ne_true, hdeep, if_neg Bool.false_ne_true]
  unfold State.dueChange State.retrainDue
  by_cases hempty : t.tr.ctlQ = [] ∧ t.tr.waitBlk = none
  · have hgo : (true && t.tr.link == .up && t.tr.ctlQ.isEmpty && t.tr.waitBlk.isNone) = true := by
      rw [hlink, hempty.1, hempty.2]
      rfl
    rw [if_pos hempty]
    exact (if_pos hgo).trans (congrArg State.beginRetrain hsame)
  · have hwait : ¬ (true && t.tr.link == .up && t.tr.ctlQ.isEmpty && t.tr.waitBlk.isNone) = true := by
      intro hgo
      simp only [Bool.and_eq_true, List.isEmpty_iff, Option.isNone_iff_eq_none] at hgo
      exact hempty ⟨hgo.1.2, hgo.2⟩
    rw [if_neg hempty]
    exact if_neg hwait

theorem beginChange_deep {t : State} (hchanging : t.dev.changing = true) (hexit : t.dev.exiting = false)
    (hdeep : t.dev.deepWait = true) :
    t.beginChange false = if t.svc.busy == .none then t.enterDeep else t := by
  have hstart : (false || !t.dev.changing || t.dev.exiting) = false := by rw [hchanging, hexit]; rfl
  unfold State.beginChange
  rw [hstart, if_neg Bool.false_ne_true, hdeep, if_pos rfl]

/-- A device command at `addr` that is refused completes so. -/
theorem deviceWord_refused {s : State} {q : Req} {addr : BitVec 16} {v : Word} {r : Reg} (h : s.takes addr.toNat)
    (halign : addr.toNat % 4 = 0) (hreg : regAt addr.toNat = some r)
    (hok : s.acceptBlk.regRefuses q true true 2 v r = false)
    (hw : s.acceptBlk.writeReg q addr r v [] = (s.acceptBlk, .refused 0 false)) :
    s.write1 q addr v [] = s.acceptBlk.complete q 2 1 0 [] :=
  write1_takes_still h halign hreg hok hw (acceptBlk_changing s)

/-- A device command that is carried out writes `d`, and its change begins after its completion. -/
theorem deviceWord_done {s : State} {q : Req} {addr : BitVec 16} {v : Word} {r : Reg} {d : Dev} (h : s.takes addr.toNat)
    (halign : addr.toNat % 4 = 0) (hreg : regAt addr.toNat = some r)
    (hok : s.acceptBlk.regRefuses q true true 2 v r = false) (hstill : s.dev.changing = false)
    (hw : s.acceptBlk.writeReg q addr r v [] = ({ s.acceptBlk with dev := d }, .ok)) :
    s.write1 q addr v [] = (State.complete q 0 0 0 [] { s.acceptBlk with dev := d }).beginChange false := by
  rw [write1_takes h halign hreg hok, hw, hstill]
  rfl

/-- What the completion of a device command leaves, for its change to begin. -/
theorem complete_dev {s : State} {d : Dev} (h : s.hostReady) (hdue : d.changeDue = false) (q : Req) :
    let z := State.complete q 0 0 0 [] { s.acceptBlk with dev := d }
    z.dev = d ∧ z.tr.link = .up ∧ z.svc = s.svc := by
  intro z
  have hz : z.unbuilt = State.unbuilt { s.acceptBlk with dev := d } := complete_unbuilt hdue ..
  have hg : ∀ {β : Type} (g : State → β), g z.unbuilt = g (State.unbuilt { s.acceptBlk with dev := d }) :=
    fun g => congrArg g hz
  have hlink : z.tr.link = s.acceptBlk.tr.link := hg fun u => u.tr.link
  have hsvc : z.svc = s.acceptBlk.svc := hg State.svc
  exact ⟨hg State.dev, hlink.trans ((acceptBlk_link s).trans (link_of_blocksFlow h.1)), hsvc.trans (acceptBlk_svc s)⟩

/-- A command that retrains (R342). -/
theorem deviceWord_retrain {s : State} {q : Req} {addr : BitVec 16} {v : Word} {r : Reg} {d : Dev} (h : s.hostReady)
    (halign : addr.toNat % 4 = 0) (hreg : regAt addr.toNat = some r)
    (hok : s.acceptBlk.regRefuses q true true 2 v r = false) (hstill : s.dev.changing = false)
    (hw : s.acceptBlk.writeReg q addr r v [] = ({ s.acceptBlk with dev := d }, .ok)) (hchanging : d.changing = true)
    (hexit : d.exiting = false) (hdeep : d.deepWait = false) (hdue : d.changeDue = false) :
    s.write1 q addr v [] = (State.complete q 0 0 0 [] { s.acceptBlk with dev := d }).retrainDue := by
  obtain ⟨hdev, hlink, -⟩ := complete_dev h hdue q (d := d)
  rw [deviceWord_done (takes_of_hostReady h _) halign hreg hok hstill hw]
  exact beginChange_retrain (by rw [hdev, hchanging]) (by rw [hdev, hexit]) (by rw [hdev, hdeep]) (by rw [hdev, hdue]) hlink

/-! ### The device commands -/

theorem writeReg_deviceStateCmd (u : State) (q : Req) (c : BitVec 2) :
    u.writeReg q 0x600C .deviceStateCmd (fld 0 c) [] = u.deviceStateCmd c := by
  refine (if_neg (ne_true_of_eq_false (hidden_of_open u q rfl rfl))).trans ?_
  dsimp only
  rw [bits_fld_zero _ (by decide)]

theorem writeReg_trkWidthCmd (u : State) (q : Req) (w : BitVec 3) :
    u.writeReg q 0x6010 .trkWidthCmd (fld 0 w) [] = u.trkWidthCmd w := by
  refine (if_neg (ne_true_of_eq_false (hidden_of_open u q rfl rfl))).trans ?_
  dsimp only
  rw [bits_fld_zero _ (by decide)]

theorem writeReg_deviceIndex (u : State) (q : Req) (v : Word) :
    u.writeReg q 0x6000 .deviceIndex v [] = u.deviceIndexCmd v :=
  if_neg (ne_true_of_eq_false (hidden_of_open u q rfl rfl))

section
variable {s : State} (h : s.hostReady) (q : Req)
include h

/-- A state command that is refused. -/
theorem deviceReq_refused {c : BitVec 2} (hr : s.acceptBlk.deviceStateCmd c = (s.acceptBlk, .refused 0 false)) :
    s.deviceReq q c = s.acceptBlk.complete q 2 1 0 [] :=
  deviceWord_refused (takes_of_hostReady h _) rfl regAt_deviceStateCmd rfl ((writeReg_deviceStateCmd ..).trans hr)

theorem trkWidth_refused {w : BitVec 3} (hr : s.acceptBlk.trkWidthCmd w = (s.acceptBlk, .refused 0 false)) :
    s.write1 q 0x6010 (fld 0 w) [] = s.acceptBlk.complete q 2 1 0 [] :=
  deviceWord_refused (takes_of_hostReady h _) rfl regAt_trkWidthCmd rfl ((writeReg_trkWidthCmd ..).trans hr)
end

section
variable {u : State}

theorem deviceStateCmd_of_changing (hc : u.dev.changing = true) (c : BitVec 2) :
    u.deviceStateCmd c = (u, .refused 0 false) := if_pos hc

theorem deviceStateCmd_of_width (hc : u.dev.changing = false) (hst : u.dev.st = .awake) {c : BitVec 2} (h : c = 0#2 ∨ c = 1#2)
    (hexit : u.dev.exiting = false) : u.deviceStateCmd c = ({ u with dev := { u.dev with
      changing := true, byState := true
      cmdWidth := if c = 0#2 then BitVec.ofNat 3 (popcount u.tr.trained) else 1 } }, .ok) := by
  unfold State.deviceStateCmd
  dsimp only
  rw [if_neg (ne_true_of_eq_false hc), if_pos h, hst, show (DState.awake == DState.sleep) = false from rfl, hexit]

theorem deviceStateCmd_of_busyPorts (hc : u.dev.changing = false) (hq : u.portsQuiet = false) {c : BitVec 2}
    (h : c = 2#2 ∨ c = 3#2) : u.deviceStateCmd c = (u, .refused 0 false) := by
  unfold State.deviceStateCmd
  dsimp only
  rw [if_neg (ne_true_of_eq_false hc), if_neg (by rcases h with rfl | rfl <;> decide), if_pos (by rw [hq]; rfl)]

theorem deviceStateCmd_sleep (hc : u.dev.changing = false) (hst : u.dev.st = .awake) (hq : u.portsQuiet = true) :
    u.deviceStateCmd 2 =
      ({ u with dev := { u.dev with changing := true, byState := true, toSleep := true } }, .ok) := by
  unfold State.deviceStateCmd
  dsimp only
  rw [if_neg (ne_true_of_eq_false hc), if_neg (by decide), if_neg (by rw [hq]; decide),
    if_pos (show (2 : BitVec 2) = 2#2 from rfl), hst]
  rfl

theorem deviceStateCmd_notDeep (hc : u.dev.changing = false) (hd : u.deepAllowed = false) :
    u.deviceStateCmd 3 = (u, .refused 0 false) := by
  cases hq : u.portsQuiet
  · exact deviceStateCmd_of_busyPorts hc hq (.inr rfl)
  · unfold State.deviceStateCmd
    dsimp only
    rw [if_neg (ne_true_of_eq_false hc), if_neg (by decide), if_neg (by rw [hq]; decide), if_neg (by decide),
      if_pos (by rw [hd]; rfl)]

theorem deviceStateCmd_deep (hc : u.dev.changing = false) (hq : u.portsQuiet = true) (hd : u.deepAllowed = true) :
    u.deviceStateCmd 3 =
      ({ u with dev := { u.dev with changing := true, byState := true, deepWait := true } }, .ok) := by
  unfold State.deviceStateCmd
  dsimp only
  rw [if_neg (ne_true_of_eq_false hc), if_neg (by decide), if_neg (by rw [hq]; decide), if_neg (by decide),
    if_neg (by rw [hd]; decide)]

theorem trkWidthCmd_refused {w : BitVec 3} (h : u.dev.changing = true ∨ w = 0 ∨ popcount u.tr.trained < w.toNat) :
    u.trkWidthCmd w = (u, .refused 0 false) := by
  refine if_pos ?_
  rcases h with h | h | h <;> simp [h]

theorem trkWidthCmd_done {w : BitVec 3} (hc : u.dev.changing = false) (hst : u.dev.st = .awake) (hw : w ≠ 0#3)
    (hle : w.toNat ≤ popcount u.tr.trained) :
    u.trkWidthCmd w = ({ u with dev := { u.dev with changing := true, cmdWidth := w } }, .ok) := by
  refine if_neg ?_
  simp [hc, hst, hw, hle]

theorem deviceIndexCmd_first (h : u.dev.idxWritten = false) (v : Word) : u.deviceIndexCmd v =
    ((if bits v 0 2 != u.boot.straps.devidx then
        State.attEvent 145 { u with dev := { u.dev with idxWritten := true, idxMismatch := true, idx := bits v 0 2 } }
      else { u with dev := { u.dev with idxWritten := true, idxMismatch := false, idx := bits v 0 2 } }), .ok) := by
  unfold State.deviceIndexCmd
  dsimp only
  rw [if_neg (ne_true_of_eq_false h)]
  cases hb : bits v 0 2 != u.boot.straps.devidx <;> rfl
end

/-- Settles O44: each command is one word written (`deviceWord_refused`, `deviceWord_retrain`, `deviceWord_done`) of which
`State.deviceStateCmd`, `State.trkWidthCmd` or `State.deviceIndexCmd` has one equation per case. -/
theorem deviceCommandsAct : Obligations.DeviceCommandsAct := by
  unfold Obligations.DeviceCommandsAct
  constructor
  · intro s q w h u refused quiet with_ change wide
    obtain ⟨hflow, hstage, hst⟩ := id h
    have hdev : u.dev = s.dev := acceptBlk_dev s
    have hust : u.dev.st = .awake := (congrArg Dev.st hdev).trans hst
    have hport : u.portsQuiet = s.portsQuiet := acceptBlk_portsQuiet s
    have hdeep : u.deepAllowed = s.deepAllowed := acceptBlk_deepAllowed s
    have htrained : u.tr.trained = s.tr.trained := acceptBlk_trained s
    have hstill (hq : quiet) : u.dev.changing = false := by rw [hdev]; exact hq.1
    have deepReq (hq : quiet) (hp : s.portsQuiet = true) (hd : s.deepAllowed = true) :
        s.deviceReq q 3 = if s.svc.busy == .none then
          (with_ { s.dev with changing := true, byState := true, deepWait := true }).enterDeep
        else with_ { s.dev with changing := true, byState := true, deepWait := true } := by
      obtain ⟨hc, hexit, hdw, hdue⟩ := id hq
      obtain ⟨hzdev, -, hzsvc⟩ := complete_dev h hdue q (d := { s.dev with changing := true, byState := true, deepWait := true })
      have hdone := deviceWord_done (addr := 0x600C) (takes_of_hostReady h _) rfl regAt_deviceStateCmd rfl hc
        ((writeReg_deviceStateCmd u q 3).trans (deviceStateCmd_deep (hstill hq) (hport.trans hp) (hdeep.trans hd)))
      rw [hdev] at hdone
      refine hdone.trans ((beginChange_deep ?_ ?_ ?_).trans ?_)
      · rw [hzdev]
      · rw [hzdev]
        exact hexit
      · rw [hzdev]
      · rw [hzsvc]
    refine ⟨fun hc => ?_, fun hq => ?_, fun hq => ?_, fun hq hp => ?_, fun hq hp hd hb => ?_, fun hq hp hd hb => ?_,
      fun hq hp => ?_, fun hq hd => ?_, fun hq hw hle => ?_, fun hw => ?_⟩
    · have huc : u.dev.changing = true := by rw [hdev]; exact hc
      exact ⟨congrArg Host.Outcome.next (deviceReq_refused h q (deviceStateCmd_of_changing huc 0)),
        congrArg Host.Outcome.next (deviceReq_refused h q (deviceStateCmd_of_changing huc 1)),
        congrArg Host.Outcome.next (deviceReq_refused h q (deviceStateCmd_of_changing huc 2)),
        congrArg Host.Outcome.next (deviceReq_refused h q (deviceStateCmd_of_changing huc 3)),
        congrArg Host.Outcome.next (trkWidth_refused h q (trkWidthCmd_refused (.inl huc)))⟩
    · obtain ⟨hc, hexit, hdw, hdue⟩ := id hq
      refine congrArg Host.Outcome.next (deviceWord_retrain h rfl regAt_deviceStateCmd rfl hc ?_ rfl hexit hdw hdue)
      rw [writeReg_deviceStateCmd]
      refine (deviceStateCmd_of_width (hstill hq) hust (.inl rfl) ((congrArg Dev.exiting hdev).trans hexit)).trans ?_
      rw [if_pos rfl, hdev, htrained]
    · obtain ⟨hc, hexit, hdw, hdue⟩ := id hq
      refine congrArg Host.Outcome.next (deviceWord_retrain h rfl regAt_deviceStateCmd rfl hc ?_ rfl hexit hdw hdue)
      rw [writeReg_deviceStateCmd]
      refine (deviceStateCmd_of_width (hstill hq) hust (.inr rfl) ((congrArg Dev.exiting hdev).trans hexit)).trans ?_
      rw [if_neg (by decide), hdev]
    · obtain ⟨hc, hexit, hdw, hdue⟩ := id hq
      refine congrArg Host.Outcome.next (deviceWord_retrain h rfl regAt_deviceStateCmd rfl hc ?_ rfl hexit hdw hdue)
      rw [writeReg_deviceStateCmd, deviceStateCmd_sleep (hstill hq) hust (hport.trans hp), hdev]
    · exact congrArg Host.Outcome.next ((deepReq hq hp hd).trans (if_pos (by rw [hb]; rfl)))
    · exact congrArg Host.Outcome.next ((deepReq hq hp hd).trans (if_neg (by simpa using hb)))
    · have hup : u.portsQuiet = false := hport.trans hp
      exact ⟨congrArg Host.Outcome.next (deviceReq_refused h q (deviceStateCmd_of_busyPorts (hstill hq) hup (.inl rfl))),
        congrArg Host.Outcome.next (deviceReq_refused h q (deviceStateCmd_of_busyPorts (hstill hq) hup (.inr rfl)))⟩
    · exact congrArg Host.Outcome.next (deviceReq_refused h q (deviceStateCmd_notDeep (hstill hq) (hdeep.trans hd)))
    · obtain ⟨hc, hexit, hdw, hdue⟩ := id hq
      refine congrArg Host.Outcome.next (deviceWord_retrain h rfl regAt_trkWidthCmd rfl hc ?_ rfl hexit hdw hdue)
      rw [writeReg_trkWidthCmd, trkWidthCmd_done (hstill hq) hust hw (by rw [htrained]; exact hle), hdev]
    · refine congrArg Host.Outcome.next (trkWidth_refused h q (trkWidthCmd_refused (.inr ?_)))
      rw [htrained]
      exact hw
  · intro s q v h u i
    have hdev : u.dev = s.dev := acceptBlk_dev s
    have hstraps : u.boot.straps = s.boot.straps := acceptBlk_straps s
    have hfirst (hw : s.dev.idxWritten = false) : u.deviceIndexCmd v = _ := deviceIndexCmd_first (by rw [hdev]; exact hw) v
    rw [hstraps, hdev] at hfirst
    refine ⟨fun hw hsame => ?_, fun hw hother => ?_, fun hw => ?_⟩
    · refine congrArg Host.Outcome.next (write1_still (addr := 0x6000) h rfl regAt_deviceIndex rfl
        ((writeReg_deviceIndex ..).trans ((hfirst hw).trans (congrArg (·, _) (if_neg ?_)))) rfl)
      simpa using hsame
    · refine congrArg Host.Outcome.next (write1_still (addr := 0x6000) h rfl regAt_deviceIndex rfl
        ((writeReg_deviceIndex ..).trans ((hfirst hw).trans (congrArg (·, _) (if_pos ?_))))
        ((congrArg Dev.changing (dev_blind.attEvent 145 _)).trans rfl))
      simpa using hother
    · refine congrArg Host.Outcome.next (write1_still (addr := 0x6000) h rfl regAt_deviceIndex rfl
        ((writeReg_deviceIndex ..).trans (if_pos (by rw [hdev]; exact hw))) ?_)
      exact congrArg Dev.changing ((hostError_dev ..).trans hdev)

end Sys2Proof.Machine
end

section
/-! SUPPORT. The attention unit's sources through its operations (11 R307 to R313), and the obligations on its events and
registers. -/

namespace Sys2Proof.Machine

/-! ### The unit's operations -/

theorem put_srcs (a : Att) (i : SrcId) (q : Src) : (a.put i q).srcs = a.srcs.set i q := rfl

theorem put_srcs_ne (a : Att) {i j : SrcId} (q : Src) (h : j ≠ i) : (a.put i q).srcs[j] = a.srcs[j] := by
  rw [put_srcs]
  exact Vector.getElem_set_ne _ _ fun he => h (Fin.ext he.symm)

theorem put_srcs_self (a : Att) (i : SrcId) (q : Src) : (a.put i q).srcs[i] = q := Vector.getElem_set_self ..

theorem selfEvent_srcs (a : Att) (b : BitVec 3) {j : SrcId} (h : j ≠ 153) : (a.selfEvent b).srcs[j] = a.srcs[j] := by
  unfold Att.selfEvent
  dsimp only
  split <;> exact put_srcs_ne _ _ h

theorem selfEvent_proc (a : Att) (b : BitVec 3) : (a.selfEvent b).proc = a.proc := by
  unfold Att.selfEvent
  dsimp only
  split <;> rfl

theorem noTargets_srcs (n : Nat) (a : Att) {j : SrcId} (h : j ≠ 153) : (Att.noTargets n a).srcs[j] = a.srcs[j] := by
  induction n generalizing a with
  | zero => rfl
  | succ n ih => exact (ih _).trans (selfEvent_srcs a _ h)

theorem noTargets_proc (n : Nat) (a : Att) : (Att.noTargets n a).proc = a.proc := by
  induction n generalizing a with
  | zero => rfl
  | succ n ih => exact (ih _).trans (selfEvent_proc a _)

/-- The changes of several sources, one after the other. -/
def Att.putAll (a : Att) (is : List SrcId) (f : SrcId → Src → Src) : Att :=
  is.foldl (fun b i => b.put i (f i b.srcs[i])) a

theorem putAll_cons (a : Att) (i : SrcId) (is : List SrcId) (f : SrcId → Src → Src) :
    a.putAll (i :: is) f = (a.put i (f i a.srcs[i])).putAll is f := rfl

theorem putAll_proc (a : Att) (is : List SrcId) (f : SrcId → Src → Src) : (a.putAll is f).proc = a.proc := by
  induction is generalizing a with
  | nil => rfl
  | cons i is ih => exact ih _

theorem putAll_srcs_of_notMem (a : Att) {is : List SrcId} (f : SrcId → Src → Src) {j : SrcId} (h : j ∉ is) :
    (a.putAll is f).srcs[j] = a.srcs[j] := by
  induction is generalizing a with
  | nil => rfl
  | cons i is ih =>
    obtain ⟨hi, his⟩ := not_or.mp (List.mem_cons.not.mp h)
    exact (ih _ his).trans (put_srcs_ne a _ hi)

theorem putAll_srcs_of_mem (a : Att) {is : List SrcId} (hn : is.Nodup) (f : SrcId → Src → Src) {j : SrcId} (h : j ∈ is) :
    (a.putAll is f).srcs[j] = f j a.srcs[j] := by
  induction is generalizing a with
  | nil => cases h
  | cons i is ih =>
    obtain ⟨hi, hn⟩ := List.nodup_cons.mp hn
    rw [putAll_cons]
    by_cases hj : j = i
    · subst hj
      rw [putAll_srcs_of_notMem _ f hi, put_srcs_self]
    · rw [ih _ hn ((List.mem_cons.mp h).resolve_left hj), put_srcs_ne a _ hj]

theorem updateAll_srcs (a : Att) {is : List SrcId} (hn : is.Nodup) (f : SrcId → Src → Src) {j : SrcId} (h : j ≠ 153) :
    (a.updateAll is f).srcs[j] = if j ∈ is then f j a.srcs[j] else a.srcs[j] := by
  refine (noTargets_srcs _ (a.putAll is f) h).trans ?_
  split
  · exact putAll_srcs_of_mem a hn f ‹_›
  · exact putAll_srcs_of_notMem a f ‹_›

theorem updateAll_proc (a : Att) (is : List SrcId) (f : SrcId → Src → Src) : (a.updateAll is f).proc = a.proc :=
  (noTargets_proc _ (a.putAll is f)).trans (putAll_proc ..)

theorem update_srcs_self (a : Att) {i : SrcId} (q : Src) (h : i ≠ 153) : (a.update i q).srcs[i] = q := by
  refine (updateAll_srcs a (List.nodup_singleton i) _ h).trans (if_pos (List.mem_singleton_self i))

theorem update_srcs_ne (a : Att) {i j : SrcId} (q : Src) (hj : j ≠ i) (h : j ≠ 153) : (a.update i q).srcs[j] = a.srcs[j] :=
  (updateAll_srcs a (List.nodup_singleton i) _ h).trans (if_neg (by simpa using hj))

theorem refresh_proc (a : Att) (is : List SrcId) : (is.foldl Att.refresh a).proc = a.proc := by
  induction is generalizing a with
  | nil => rfl
  | cons i is ih => exact ih _

theorem setProc_proc (a : Att) (v : BitVec 8) : (a.setProc v).proc = v := (noTargets_proc ..).trans (refresh_proc ..)

/-! ### Events -/

/-- An event of a present port's or the device's source reaches it unless the device is halted (R306). -/
theorem attEvent_early {s : State} {i : SrcId} (hp : s.srcPresent i = true) (hh : s.boot.stage ≠ .halted)
    (hr : s.released = false) : s.attEvent i = { s with boot := { s.boot with early := s.boot.early ++ [i] } } := by
  unfold State.attEvent
  rw [hp, hr, beq_eq_false_iff_ne.mpr hh]
  rfl

theorem stage_of_released {s : State} (h : s.released = true) : (s.boot.stage == .halted) = false := by
  rw [show s.boot.stage = .released from eq_of_beq h]
  rfl

theorem attEvent_saved {s : State} {i : SrcId} (hp : s.srcPresent i = true) (hr : s.released = true) (hs : s.att.saved = true) :
    s.attEvent i = { s with att := { s.att with
      arrived := if s.att.arrived.contains i then s.att.arrived else i :: s.att.arrived } } := by
  unfold State.attEvent
  rw [hp, stage_of_released hr, hr, hs]
  rfl

theorem attEvent_live {s : State} {i : SrcId} (hp : s.srcPresent i = true) (hr : s.released = true) (hs : s.att.saved = false) :
    s.attEvent i = { s with att := s.att.update i { s.att.srcs[i].event with asserted := s.ownerAsserted i } } := by
  unfold State.attEvent
  rw [hp, stage_of_released hr, hr, hs]
  rfl

theorem attEvent_proc (i : SrcId) (s : State) : (s.attEvent i).att.proc = s.att.proc := by
  unfold State.attEvent
  split
  · rfl
  split
  · rfl
  split
  · rfl
  · exact updateAll_proc ..

theorem attEvents_proc (is : List SrcId) (s : State) : (is.foldl (fun t i => t.attEvent i) s).att.proc = s.att.proc := by
  induction is generalizing s with
  | nil => rfl
  | cons i is ih => exact (ih _).trans (attEvent_proc i s)

theorem count_proc (code : Nat) (s : State) : (s.count code).att.proc = s.att.proc := by
  unfold State.count
  split
  · rfl
  · generalize s.cnt.bump code = r
    exact attEvents_proc (List.replicate r.2 147) { s with cnt := r.1 }

theorem acceptBlk_proc (s : State) : s.acceptBlk.att.proc = s.att.proc := by
  unfold State.acceptBlk
  dsimp only
  split
  · simp only [count_proc, State.modTr_att]
  · simp only [count_proc, State.modTr_att]

/-- What an event makes of its source (Table 11.2). -/
theorem src_event (x : Src) : x.event.count = satInc x.count ∧ x.event.claimed = x.claimed ∧ x.event.targets = x.targets ∧
    (x.claimed = true → x.event.repend = true ∧ x.event.pend = x.pend) ∧
    (x.claimed = false → x.event.pend = true ∧ x.event.repend = x.repend ∧
      x.event.noticed = if x.pend = true then x.noticed else 0) := by
  unfold Src.event
  cases hc : x.claimed
  · cases hp : x.pend <;> simp
  · simp

/-- Settles O49: an event of a live source is `attEvent_live` with Table 11.2's `src_event`; before Release it is
`attEvent_early`, while the state is saved `attEvent_saved`. -/
theorem sourceEvents : Obligations.SourceEvents := by
  unfold Obligations.SourceEvents
  intro s i hp hself x t y
  refine ⟨fun hr hs => ?_, fun hr hs => ?_, fun hr hh => attEvent_early hp hh hr⟩
  · have ht : t = _ := attEvent_live hp hr hs
    have hy : y = { x.event with asserted := s.ownerAsserted i } := by
      unfold y
      rw [ht]
      exact update_srcs_self _ _ hself
    obtain ⟨hcount, hclaimed, htargets, hcl, hfree⟩ := src_event x
    rw [hy]
    refine ⟨hcount, hclaimed, rfl, htargets, hcl, hfree, fun j hj hj153 => ?_⟩
    rw [ht]
    exact update_srcs_ne _ _ hj hj153
  · have ht : t = _ := attEvent_saved hp hr hs
    rw [ht]
    refine ⟨rfl, ?_⟩
    dsimp only
    split
    · assumption
    · simp

/-! ### The registers -/

/-- The sources that a word names. -/
def wordSrcs (w : Fin 5) (v : Word) : List SrcId :=
  ((List.finRange 32).filter (fun b => v.getLsbD b.val)).map (fun b => ⟨32 * w.val + b.val, by omega⟩)

theorem wordSrcs_nodup (w : Fin 5) (v : Word) : (wordSrcs w v).Nodup := by
  refine List.Nodup.map (fun a b hab => ?_) ((List.nodup_finRange 32).filter _)
  have h := congrArg Fin.val hab
  dsimp only at h
  exact Fin.ext (by omega)

theorem mem_wordSrcs {w : Fin 5} {v : Word} {i : SrcId} (h : i.val / 32 = w.val) :
    i ∈ wordSrcs w v ↔ v.getLsbD (i.val % 32) = true := by
  unfold wordSrcs
  rw [List.mem_map]
  constructor
  · rintro ⟨b, hb, rfl⟩
    have hmod : (32 * w.val + b.val) % 32 = b.val := by omega
    rw [hmod]
    exact (List.mem_filter.mp hb).2
  · intro hv
    refine ⟨⟨i.val % 32, by omega⟩, List.mem_filter.mpr ⟨List.mem_finRange _, hv⟩, Fin.ext ?_⟩
    dsimp only
    omega

/-- A word's change of one of its sources (R307). -/
theorem attBits_srcs (u : State) {w : Fin 5} (v : Word) (f : Src → Src) {i : SrcId} (hself : i ≠ 153)
    (hw : i.val / 32 = w.val) : (u.attBits w v f).att.srcs[i] =
      if v.getLsbD (i.val % 32) = true ∧ u.srcPresent i = true then f u.att.srcs[i] else u.att.srcs[i] := by
  have hn : ((wordSrcs w v).filter u.srcPresent).Nodup := (wordSrcs_nodup w v).filter _
  refine (updateAll_srcs u.att hn (fun _ q => f q) hself).trans ?_
  simp only [List.mem_filter, mem_wordSrcs hw]

/-- A word that its register takes, and that begins no change of the device. -/
theorem write1_ok {s t : State} {q : Req} {addr : BitVec 16} {v : Word} {r : Reg} (h : s.hostReady)
    (halign : addr.toNat % 4 = 0) (hreg : regAt addr.toNat = some r)
    (hok : s.acceptBlk.regRefuses q true true 2 v r = false) (hw : s.acceptBlk.writeReg q addr r v [] = (t, .ok))
    (hd : t.dev = s.acceptBlk.dev) : s.write1 q addr v [] = t.complete q 0 0 0 [] :=
  write1_still h halign hreg hok hw (by rw [hd, acceptBlk_dev])

/-- Word `w` of group `g` of the attention block's source words. -/
theorem attWord_toNat (g : Nat) (w : Fin 5) (hg : g < 8) :
    (BitVec.ofNat 16 (0x4000 + 32 * g) + BitVec.ofNat 16 (4 * w.val)).toNat = 0x4000 + 4 * (8 * g + w.val) := by
  have := w.isLt
  simp only [BitVec.toNat_add, BitVec.toNat_ofNat]
  omega

/-- The register of group `g` of the attention block for word `w` (Table 11.8). -/
def attWordReg (w : Fin 5) : Nat → Reg
  | 0 => .attPend w | 1 => .attPendSet w | 2 => .attPendClr w | 3 => .attMask w | 4 => .attMaskSet w
  | 5 => .attMaskClr w | 6 => .attClaimed w | _ => .attAsserted w

theorem attReg_word {g : Nat} (w : Fin 5) (hg : g < 8) : attReg (8 * g + w.val) = some (attWordReg w g) := by
  have hw := w.isLt
  have hk : 8 * g + w.val < 64 := by omega
  have hmod : (8 * g + w.val) % 8 = w.val := by omega
  have hdiv : (8 * g + w.val) / 8 = g := by omega
  simp only [attReg, hk, hmod, hdiv, hw, dif_pos, attWordReg] <;> rfl

theorem regAt_attWord {g : Nat} (w : Fin 5) (hg : g < 8) :
    regAt (BitVec.ofNat 16 (0x4000 + 32 * g) + BitVec.ofNat 16 (4 * w.val)).toNat = some (attWordReg w g) := by
  rw [attWord_toNat g w hg, regAt_att (by omega), attReg_word w hg]

theorem attWord_aligned {g : Nat} (w : Fin 5) (hg : g < 8) :
    (BitVec.ofNat 16 (0x4000 + 32 * g) + BitVec.ofNat 16 (4 * w.val)).toNat % 4 = 0 := by
  rw [attWord_toNat g w hg]
  omega

/-- A word written to a group of the attention block. -/
theorem attReq_eq {s : State} (h : s.hostReady) (q : Req) {g : Nat} (w : Fin 5) (v : Word) (hg : g < 8) (f : Src → Src)
    (hok : s.acceptBlk.regRefuses q true true 2 v (attWordReg w g) = false)
    (hw : ∀ a, s.acceptBlk.writeReg q a (attWordReg w g) v [] = (s.acceptBlk.attBits w v f, .ok)) :
    s.attReq q (BitVec.ofNat 16 (0x4000 + 32 * g)) w v = (s.acceptBlk.attBits w v f).complete q 0 0 0 [] :=
  write1_ok h (attWord_aligned w hg) (regAt_attWord w hg) hok (hw _) rfl

theorem attCtl_toNat (i : SrcId) : (0x4400#16 + BitVec.ofNat 16 (4 * i.val)).toNat = 0x4000 + 4 * (256 + i.val) := by
  have := i.isLt
  simp only [BitVec.toNat_add, BitVec.toNat_ofNat]
  omega

theorem regAt_attCtl (i : SrcId) : regAt (0x4400#16 + BitVec.ofNat 16 (4 * i.val)).toNat = some (.attCtl i) := by
  have hi := i.isLt
  have h64 : ¬ 256 + i.val < 64 := by omega
  have h65 : ¬ 256 + i.val = 64 := by omega
  have h66 : ¬ 256 + i.val = 65 := by omega
  have hhigh : 256 + i.val < 416 := by omega
  rw [attCtl_toNat, regAt_att (by omega)]
  simp [attReg, h64, h65, h66, hhigh]

theorem attCtl_aligned (i : SrcId) : (0x4400#16 + BitVec.ofNat 16 (4 * i.val)).toNat % 4 = 0 := by
  rw [attCtl_toNat]
  omega

theorem acceptBlk_srcPresent (s : State) (i : SrcId) : s.acceptBlk.srcPresent i = s.srcPresent i :=
  srcPresent_of_offTrunk (acceptBlk_offTrunk s) i

theorem targetsCmd_targets (u : State) {i : SrcId} (v : Word) (hp : u.srcPresent i = true) (h : i ≠ 153) :
    (u.targetsCmd i v).att.srcs[i].targets = bits v 8 4 := by
  unfold State.targetsCmd
  rw [if_pos hp]
  exact congrArg Src.targets (update_srcs_self _ _ h)

theorem targetsCmd_dev (u : State) (i : SrcId) (v : Word) : (u.targetsCmd i v).dev = u.dev :=
  keeps_if (π := State.dev) rfl rfl

/-- PEND_SET and PEND_CLR of a source (Table 11.2). -/
theorem src_pend (x : Src) :
    x.pendSet.count = x.count ∧ x.pendClr.count = x.count ∧ x.pendSet.claimed = x.claimed ∧ x.pendClr.claimed = x.claimed ∧
      (x.claimed = true → x.pendSet.repend = true ∧ x.pendClr.repend = false ∧ x.pendSet.pend = x.pend ∧ x.pendClr.pend = x.pend) ∧
      (x.claimed = false → x.pendSet.pend = true ∧ x.pendClr.pend = false ∧ x.pendSet.repend = x.repend ∧
        x.pendClr.repend = x.repend ∧ x.pendSet.noticed = if x.pend = true then x.noticed else 0) := by
  unfold Src.pendSet Src.pendClr
  cases hc : x.claimed
  · cases hp : x.pend <;> simp [hc, hp]
  · simp

/-- Settles O50: each command is one word written to its register, and the word's change of a source is `attBits_srcs`. -/
theorem attentionWordsAct : Obligations.AttentionWordsAct := by
  unfold Obligations.AttentionWordsAct
  intro s q w v i h u
  refine ⟨congrArg Host.Outcome.next (attReq_eq h q w v (g := 1) (by decide) _ rfl fun a => ?_),
    congrArg Host.Outcome.next (attReq_eq h q w v (g := 2) (by decide) _ rfl fun a => ?_),
    congrArg Host.Outcome.next (attReq_eq h q w v (g := 4) (by decide) _ rfl fun a => ?_),
    congrArg Host.Outcome.next (attReq_eq h q w v (g := 5) (by decide) _ rfl fun a => ?_),
    congrArg Host.Outcome.next (write1_ok (addr := 0x4100) h rfl regAt_attProc rfl ?_ rfl),
    ?_, congrArg Host.Outcome.next (write1_ok h (attCtl_aligned i) (regAt_attCtl i) rfl ?_ (targetsCmd_dev ..)),
    fun hp hself => targetsCmd_targets u v ((acceptBlk_srcPresent s i).trans hp) hself, fun f hself hw => ?_,
    fun hself hw hv hp => ?_⟩
  · exact if_neg (ne_true_of_eq_false (hidden_of_open u q rfl rfl))
  · exact if_neg (ne_true_of_eq_false (hidden_of_open u q rfl rfl))
  · exact if_neg (ne_true_of_eq_false (hidden_of_open u q rfl rfl))
  · exact if_neg (ne_true_of_eq_false (hidden_of_open u q rfl rfl))
  · exact if_neg (ne_true_of_eq_false (hidden_of_open u q rfl rfl))
  · refine (setProc_proc ..).trans ?_
    rw [acceptBlk_proc]
  · exact if_neg (ne_true_of_eq_false (hidden_of_open u q rfl rfl))
  · rw [attBits_srcs u v f hself hw, acceptBlk_srcPresent]
  · intro x y z
    have hy : y = x.pendSet := (attBits_srcs u v _ hself hw).trans (if_pos ⟨hv, (acceptBlk_srcPresent s i).trans hp⟩)
    have hz : z = x.pendClr := (attBits_srcs u v _ hself hw).trans (if_pos ⟨hv, (acceptBlk_srcPresent s i).trans hp⟩)
    rw [hy, hz]
    exact src_pend x

end Sys2Proof.Machine
end

section
/-! SUPPORT. The event counters (16 R430 to R433), and the obligation on them. -/

namespace Sys2Proof.Machine

/-! ### One event counted -/

/-- One counter as an event of `code` is counted: the counters so far, and how many wrapped. -/
def Cnt.bumpOne (code : Nat) (r : Cnt × Nat) (i : Fin 32) : Cnt × Nat :=
  if r.1.sels[i].toNat = code then
    let v := r.1.vals[i] + 1#48
    if v = 0#48 then ({ r.1 with vals := r.1.vals.set i v, ovf := r.1.ovf ||| oneBit 32 i.val }, r.2 + 1)
    else ({ r.1 with vals := r.1.vals.set i v }, r.2)
  else r

theorem bump_eq (c : Cnt) (code : Nat) : c.bump code = (List.finRange 32).foldl (Cnt.bumpOne code) (c, 0) := rfl

section
variable (code : Nat) (r : Cnt × Nat)

theorem bumpOne_sels (i : Fin 32) : (Cnt.bumpOne code r i).1.sels = r.1.sels := by
  unfold Cnt.bumpOne
  dsimp only
  split
  · split <;> rfl
  · rfl

theorem bumpOne_ne {i j : Fin 32} (h : j ≠ i) : (Cnt.bumpOne code r i).1.vals[j] = r.1.vals[j] ∧
    (Cnt.bumpOne code r i).1.ovf.getLsbD j.val = r.1.ovf.getLsbD j.val := by
  have hval : i.val ≠ j.val := fun he => h (Fin.ext he.symm)
  have hset : (r.1.vals.set i (r.1.vals[i] + 1#48))[j] = r.1.vals[j] := Vector.getElem_set_ne _ _ hval
  unfold Cnt.bumpOne
  dsimp only
  split
  · split
    · exact ⟨hset, by
        dsimp only
        rw [BitVec.getLsbD_or, getLsbD_oneBit, decide_eq_false fun he => hval he.1.symm, Bool.or_false]⟩
    · exact ⟨hset, rfl⟩
  · exact ⟨rfl, rfl⟩

theorem bumpOne_self (i : Fin 32) : (Cnt.bumpOne code r i).1.vals[i] =
      (if r.1.sels[i].toNat = code then r.1.vals[i] + 1 else r.1.vals[i]) ∧
    (Cnt.bumpOne code r i).1.ovf.getLsbD i.val = (r.1.ovf.getLsbD i.val ||
      decide (r.1.sels[i].toNat = code ∧ r.1.vals[i] = 0xFFFFFFFFFFFF#48)) := by
  have hset (v : BitVec 48) : (r.1.vals.set i v)[i] = v := Vector.getElem_set_self ..
  have hwrap : r.1.vals[i] + 1#48 = 0#48 ↔ r.1.vals[i] = 0xFFFFFFFFFFFF#48 := by
    generalize r.1.vals[i] = v
    constructor
    · intro hv
      have := congrArg BitVec.toNat hv
      refine BitVec.eq_of_toNat_eq ?_
      simp only [BitVec.toNat_add, BitVec.toNat_ofNat] at this ⊢
      omega
    · rintro rfl
      rfl
  unfold Cnt.bumpOne
  dsimp only
  by_cases hsel : r.1.sels[i].toNat = code
  · rw [if_pos hsel, if_pos hsel]
    split
    · next hv => exact ⟨hset _, by
        dsimp only
        rw [getLsbD_or_oneBit i.isLt, decide_eq_true ⟨hsel, hwrap.mp hv⟩, Bool.or_true]⟩
    · next hv => exact ⟨hset _, by rw [decide_eq_false fun hc => hv (hwrap.mpr hc.2), Bool.or_false]⟩
  · rw [if_neg hsel, if_neg hsel]
    exact ⟨rfl, by rw [decide_eq_false fun hc => hsel hc.1, Bool.or_false]⟩
end

theorem bumps_sels (code : Nat) (is : List (Fin 32)) (r : Cnt × Nat) : (is.foldl (Cnt.bumpOne code) r).1.sels = r.1.sels := by
  induction is generalizing r with
  | nil => rfl
  | cons i is ih => exact (ih _).trans (bumpOne_sels code r i)

theorem bumps_of_notMem (code : Nat) {is : List (Fin 32)} (r : Cnt × Nat) {j : Fin 32} (h : j ∉ is) :
    (is.foldl (Cnt.bumpOne code) r).1.vals[j] = r.1.vals[j] ∧
      (is.foldl (Cnt.bumpOne code) r).1.ovf.getLsbD j.val = r.1.ovf.getLsbD j.val := by
  induction is generalizing r with
  | nil => exact ⟨rfl, rfl⟩
  | cons i is ih =>
    obtain ⟨hi, his⟩ := not_or.mp (List.mem_cons.not.mp h)
    obtain ⟨hvals, hovf⟩ := bumpOne_ne code r hi
    obtain ⟨hvals', hovf'⟩ := ih (Cnt.bumpOne code r i) his
    exact ⟨hvals'.trans hvals, hovf'.trans hovf⟩

theorem bumps_of_mem (code : Nat) {is : List (Fin 32)} (hn : is.Nodup) (r : Cnt × Nat) {j : Fin 32} (h : j ∈ is) :
    (is.foldl (Cnt.bumpOne code) r).1.vals[j] = (if r.1.sels[j].toNat = code then r.1.vals[j] + 1 else r.1.vals[j]) ∧
      (is.foldl (Cnt.bumpOne code) r).1.ovf.getLsbD j.val = (r.1.ovf.getLsbD j.val ||
        decide (r.1.sels[j].toNat = code ∧ r.1.vals[j] = 0xFFFFFFFFFFFF#48)) := by
  induction is generalizing r with
  | nil => cases h
  | cons i is ih =>
    obtain ⟨hi, hn⟩ := List.nodup_cons.mp hn
    by_cases hj : j = i
    · subst hj
      obtain ⟨hvals, hovf⟩ := bumps_of_notMem code (Cnt.bumpOne code r j) hi
      obtain ⟨hvals', hovf'⟩ := bumpOne_self code r j
      exact ⟨hvals.trans hvals', hovf.trans hovf'⟩
    · have hrest := ih hn (Cnt.bumpOne code r i) ((List.mem_cons.mp h).resolve_left hj)
      obtain ⟨hvals, hovf⟩ := bumpOne_ne code r hj
      rw [bumpOne_sels, hvals, hovf] at hrest
      exact hrest

theorem attEvents_cnt (is : List SrcId) (s : State) : (is.foldl (fun t i => t.attEvent i) s).cnt = s.cnt := by
  obtain ⟨a, e, h⟩ := attEvents_form is s
  rw [h]

theorem count_of_saved {s : State} (h : s.att.saved = true) (code : Nat) : s.count code = s := by
  unfold State.count
  rw [h]
  rfl

theorem count_cnt {s : State} (h : s.att.saved = false) (code : Nat) :
    (s.count code).cnt = if s.selects code then (s.cnt.bump code).1 else s.cnt := by
  unfold State.count
  rw [h, Bool.false_or]
  split
  · next hs => rw [if_neg (by simpa using hs)]
  · next hs =>
    rw [if_pos (by simpa using hs)]
    generalize s.cnt.bump code = r
    rw [attEvents_cnt]

/-- What an event of `code` adds to counter `i`, and to its OVF bit (R430, R431). -/
theorem count_counter {s : State} (h : s.att.saved = false) (code : Nat) (i : Fin 32) :
    (s.count code).cnt.sels = s.cnt.sels ∧
      (s.count code).cnt.vals[i] =
        (if s.selects code = true ∧ s.cnt.sels[i].toNat = code then s.cnt.vals[i] + 1 else s.cnt.vals[i]) ∧
      (s.count code).cnt.ovf.getLsbD i.val = (s.cnt.ovf.getLsbD i.val ||
        decide (s.selects code = true ∧ s.cnt.sels[i].toNat = code ∧ s.cnt.vals[i] = 0xFFFFFFFFFFFF#48)) := by
  rw [count_cnt h]
  cases hs : s.selects code
  · simp
  · obtain ⟨hvals, hovf⟩ := bumps_of_mem code (List.nodup_finRange 32) (s.cnt, 0) (List.mem_finRange i)
    have hsels := bumps_sels code (List.finRange 32) (s.cnt, 0)
    rw [← bump_eq] at hvals hovf hsels
    rw [if_pos rfl]
    simp only [true_and]
    exact ⟨hsels, hvals, hovf⟩

/-! ### The codes (R430, Table 16.2) -/

theorem selects_port (s : State) {e : Nat} (p : PortId) (hlo : 16 ≤ e) (hhi : e ≤ 49) : s.selects (16 * e + p.val) = s.present p := by
  have hmod : (16 * e + p.val) % 16 = p.val := by omega
  have hlow : ¬ 16 * e + p.val < 0x100 := by omega
  have hhigh : 16 * e + p.val < 0x320 := by omega
  unfold State.selects State.present
  rw [if_neg hlow, hmod, decide_eq_true hhigh, Bool.true_and]

theorem selects_reserved (s : State) {code : Nat} (h : 0x320 ≤ code) : s.selects code = false := by
  unfold State.selects
  rw [if_neg (by omega), decide_eq_false (by omega), Bool.false_and]

theorem deviceCode_iff (code : Nat) : deviceCode code = true ↔
    code = 0x001 ∨ (∃ r k, r < 4 ∧ k < 3 ∧ code = 0x040 + 4 * r + k) ∨
      (∃ k, k ≤ 10 ∧ code = 0x060 + k) ∨ (∃ k, k ≤ 3 ∧ code = 0x070 + k) ∨ (∃ k, k ≤ 5 ∧ code = 0x080 + k) ∨
      (∃ k, k ≤ 6 ∧ code = 0x088 + k) ∨ (∃ k, k ≤ 10 ∧ code = 0x090 + k) ∨ (∃ k, k ≤ 3 ∧ code = 0x0A0 + k) ∨
      (∃ g, g ≤ 3 ∧ code = 0x0A8 + g) ∨ code = 0x0B0 := by
  have hrange (lo n : Nat) : (∃ k, k ≤ n ∧ code = lo + k) ↔ lo ≤ code ∧ code ≤ lo + n :=
    ⟨by rintro ⟨k, hk, rfl⟩; omega, fun h => ⟨code - lo, by omega, by omega⟩⟩
  have hregion : (∃ r k, r < 4 ∧ k < 3 ∧ code = 0x040 + 4 * r + k) ↔ (0x040 ≤ code ∧ code ≤ 0x04E) ∧ code % 4 ≠ 3 :=
    ⟨by rintro ⟨r, k, hr, hk, rfl⟩; omega, fun h => ⟨(code - 0x040) / 4, code % 4, by omega, by omega, by omega⟩⟩
  rw [hregion]
  simp only [hrange, deviceCode, Bool.or_eq_true, Bool.and_eq_true, beq_iff_eq, bne_iff_ne, decide_eq_true_eq, or_assoc]

/-! ### The commands -/

theorem cntSel_toNat (i : Fin 32) : (0x5008#16 + BitVec.ofNat 16 (16 * i.val)).toNat = 0x5000 + 4 * (4 * i.val + 2) := by
  have := i.isLt
  simp only [BitVec.toNat_add, BitVec.toNat_ofNat]
  omega

theorem regAt_cntSel (i : Fin 32) : regAt (0x5008#16 + BitVec.ofNat 16 (16 * i.val)).toNat = some (.cntSel i) := by
  have hi := i.isLt
  have hk : 4 * i.val + 2 < 128 := by omega
  have hmod : (4 * i.val + 2) % 4 = 2 := by omega
  have hdiv : (4 * i.val + 2) / 4 = i.val := by omega
  rw [cntSel_toNat, regAt_cnt (by omega)]
  simp only [cntReg, hk, hmod, hdiv, dif_pos]

/-- A lane's word as its equaliser adapts (R223). -/
theorem bits_adapted (w : Word) (c : BitVec 16) : bits ((w &&& 0xFFFF#32) ||| fld 16 c) 0 16 = bits w 0 16 := by
  refine BitVec.eq_of_getLsbD_eq fun i hi => ?_
  have h32 : i < 32 := by omega
  have hlow : (65535#32).getLsbD i = true := (by decide : ∀ j < 16, (65535#32).getLsbD j = true) i hi
  simp [bits, fld, hi, h32, hlow]

/-- The equalisers adapt on the lanes in use (R223). -/
theorem adapt_linkUp {s : State} (h : s.linkUp = true) : ∃ ls : Vector Word 4,
    s.adapt = { s with tr := { s.tr with lanes := ls }, freeCtr := s.freeCtr + 1 } ∧
      ∀ k : Fin 4, bits ls[k] 0 16 = bits s.tr.lanes[k] 0 16 ∧
        (s.tr.activeMask.getLsbD k.val = false → ls[k] = s.tr.lanes[k]) := by
  refine ⟨_, if_pos h, fun k => ?_⟩
  simp only [Fin.getElem_fin, Vector.getElem_ofFn]
  cases hk : s.tr.activeMask.getLsbD k.val
  · exact ⟨rfl, fun _ => rfl⟩
  · exact ⟨bits_adapted .., fun hn => absurd hn (by decide)⟩

/-- Settles O51: an event counted is `count_counter`, the codes `selects_port`, `selects_reserved` and `deviceCode_iff`. -/
theorem countersCount : Obligations.CountersCount := by
  unfold Obligations.CountersCount
  intro s code i q v
  refine ⟨fun hs => count_of_saved hs code, fun hs => ?_, fun e p hlo hhi => selects_port s p hlo hhi,
    fun h => selects_reserved s h, fun h => ?_, fun h => ?_, fun h => congrArg Host.Outcome.next (if_pos h),
    fun h => if_neg (by rw [h]; decide), fun h => adapt_linkUp h,
    fun h => congrArg Host.Outcome.next (if_neg (ne_true_of_eq_false h)), rfl⟩
  · obtain ⟨hsels, hvals, hovf⟩ := count_counter hs code i
    refine ⟨hsels, fun hsel => ?_, hvals, hovf⟩
    rw [hvals]
    refine if_neg ?_
    rintro ⟨hselects, rfl⟩
    rw [hsel] at hselects
    cases hselects
  · unfold State.selects
    rw [if_pos h]
    exact deviceCode_iff code
  · intro u
    refine ⟨congrArg Host.Outcome.next (write1_ok h ?_ (regAt_cntSel i) rfl
        (if_neg (ne_true_of_eq_false (hidden_of_open u q rfl rfl))) rfl),
      congrArg Host.Outcome.next (write1_ok (addr := 0x5204) h rfl regAt_cntClear rfl
        (if_neg (ne_true_of_eq_false (hidden_of_open u q rfl rfl))) rfl)⟩
    rw [cntSel_toNat]
    omega

end Sys2Proof.Machine
end

section
/-! SUPPORT. A configuration register whose parity fails (10 R289 to R292, 17 R447): what its freeze leaves, what it records and
the event it raises; then the obligations on the background scan and on READ and WRITE. -/

namespace Sys2Proof.Machine

/-! ### Sources that an event of another leaves -/

theorem attFall_srcs_ne (s : State) {i j : SrcId} (h : j ≠ i) : (s.attFall i).att.srcs[j] = s.att.srcs[j] :=
  Vector.getElem_set_ne i.isLt j.isLt fun he => h (Fin.ext he.symm)

theorem noTargets_saved (n : Nat) (a : Att) : (Att.noTargets n a).saved = a.saved := by
  have hself (b : BitVec 3) (a : Att) : (a.selfEvent b).saved = a.saved := by
    unfold Att.selfEvent
    dsimp only
    split <;> rfl
  induction n generalizing a with
  | zero => rfl
  | succ n ih => exact (ih _).trans (hself _ a)

theorem putAll_saved (a : Att) (is : List SrcId) (f : SrcId → Src → Src) : (a.putAll is f).saved = a.saved := by
  induction is generalizing a with
  | nil => rfl
  | cons i is ih => exact ih _

theorem updateAll_saved (a : Att) (is : List SrcId) (f : SrcId → Src → Src) : (a.updateAll is f).saved = a.saved :=
  (noTargets_saved _ (a.putAll is f)).trans (putAll_saved ..)

/-- Source `j` and whether the state is saved. -/
def State.source (j : SrcId) (s : State) : Src × Bool := (s.att.srcs[j], s.att.saved)

theorem attEvent_source {i j : SrcId} (hij : j ≠ i) (hself : j ≠ 153) (s : State) :
    (s.attEvent i).source j = s.source j := by
  unfold State.attEvent
  split
  · rfl
  split
  · rfl
  split
  · rfl
  · exact Prod.ext (update_srcs_ne _ _ hij hself) (updateAll_saved ..)

theorem attFall_source {i j : SrcId} (hij : j ≠ i) (s : State) : (s.attFall i).source j = s.source j :=
  Prod.ext (attFall_srcs_ne s hij) rfl

theorem attEvents_source {i j : SrcId} (hij : j ≠ i) (hself : j ≠ 153) (n : Nat) (s : State) :
    ((List.replicate n i).foldl (fun t i => t.attEvent i) s).source j = s.source j := by
  induction n generalizing s with
  | zero => rfl
  | succ n ih => exact (ih _).trans (attEvent_source hij hself s)

theorem count_source {j : SrcId} (hij : j ≠ 147) (hself : j ≠ 153) (code : Nat) (s : State) :
    (s.count code).source j = s.source j := by
  unfold State.count
  split
  · rfl
  · generalize s.cnt.bump code = r
    exact attEvents_source hij hself r.2 { s with cnt := r.1 }

/-! ### What a freeze leaves -/

/-- What the operations on a port leave of the device: the record and source of parity failures, the flash, the service
port, the start-up state but for the events that wait for Release, and the device state. -/
def State.beyond (s : State) : (Src × Bool) × Word × List Host.Cell × Svc × Boot × Dev :=
  (s.source 144, s.parityRecord, s.flash, s.svc, { s.boot with early := [] }, s.dev)

theorem attEvent_beyond {i : SrcId} (h : i ≠ 144) (s : State) : (s.attEvent i).beyond = s.beyond := by
  refine Prod.ext (attEvent_source h.symm (by decide) s) ?_
  obtain ⟨a, e, hform⟩ := attEvent_form i s
  rw [hform]
  rfl

theorem count_beyond (code : Nat) (s : State) : (s.count code).beyond = s.beyond := by
  refine Prod.ext (count_source (by decide) (by decide) code s) ?_
  obtain ⟨a, c, e, hform⟩ := count_form code s
  rw [hform]
  rfl

theorem portSrc_ne (p : PortId) (k : Fin 8) {i : SrcId} (h : 128 ≤ i.val) : portSrc p k ≠ i := by
  rintro rfl
  have := p.isLt
  have := k.isLt
  simp only [portSrc] at h
  omega

theorem tieSrc_ne (g : Fin 4) : tieSrc g ≠ 144 := by
  have hall : ∀ g : Fin 4, tieSrc g ≠ 144 := by decide
  exact hall g

theorem beyond_run (p : PortId) : RunBlind p State.beyond where
  keep _ _ _ := rfl
  move _ _ _ := rfl
  modRegion _ _ _ := rfl
  modTie _ _ _ := rfl
  portEvent k s := attEvent_beyond (portSrc_ne p k (by decide)) s
  tieEvent g s := attEvent_beyond (tieSrc_ne g) s
  tieFall g s := Prod.ext (attFall_source (tieSrc_ne g).symm s) rfl
  count := count_beyond
  hostError s := by
    unfold State.hostError
    exact (attEvent_beyond (by decide) _).trans (count_beyond _ { s with host := { s.host with errors := s.host.errors ||| oneBit 6 (4 : Fin 6) } })

theorem RunBlind.freezePort {α : Type} {p : PortId} {π : State → α} (hr : RunBlind p π) (s : State) :
    π (State.freezePort p s) = π s := by
  unfold State.freezePort
  refine keeps_if rfl ?_
  extract_lets x s1 s2 s3 s4
  have h1 : π s1 = π s := hr.discardHolding ..
  have h2 : π s2 = π s := keeps_if ((hr.frameErrIfOpen ..).trans h1) h1
  have h3 : π s3 = π s := (hr.move _ _ (by exact fun _ => rfl)).trans h2
  have h4 : π s4 = π s := (hr.addHeldLoss _).trans ((hr.leaveTie _).trans h3)
  exact (hr.tieSync _).trans ((hr.move _ _ (by exact fun _ => rfl)).trans h4)

theorem frozen_hull (x : Port) : x.hull.frozen = x.frozen := rfl
theorem cfg_hull (x : Port) : x.hull.cfg = x.cfg := rfl

/-- The profile registers of a port, as its items leave them. -/
theorem cfg_blind (p : PortId) : ItemBlind p (fun s => (s.port p).cfg) where
  keep s f h := by
    rw [← cfg_hull, ← cfg_hull (s.port p)]
    exact congrArg Port.cfg ((hull_blind p).keep s f h)
  modRegion _ _ _ := rfl
  modTie _ _ _ := rfl
  portEvent _ s := congrArg Port.cfg (port_of_attEvent _ s p)
  tieEvent _ s := congrArg Port.cfg (port_of_attEvent _ s p)
  tieFall _ _ := rfl
  count code s := congrArg Port.cfg (port_of_count code s p)
  hostError s := congrArg Port.cfg (port_of_hostError 4 s p)

theorem frozen_tieSync (p : PortId) (s : State) : ((State.tieSync p s).port p).frozen = (s.port p).frozen := by
  rw [← frozen_hull, ← frozen_hull (s.port p)]
  exact congrArg Port.frozen ((hull_blind p).tieSync s)

theorem freezePort_frozen (p : PortId) (s : State) : ((s.freezePort p).port p).frozen = true := by
  unfold State.freezePort
  split
  · assumption
  extract_lets x s1 s2 s3 s4
  rw [frozen_tieSync, State.port_modPort]

/-- The freeze of one port leaves every other. -/
theorem port_of_freezePort {p q : PortId} (h : q ≠ p) (s : State) : (s.freezePort p).port q = s.port q :=
  (port_run h).freezePort s

theorem frozen_freezePort (p q : PortId) (s : State) (h : (s.port q).frozen = true) :
    ((s.freezePort p).port q).frozen = true := by
  by_cases hq : q = p
  · subst hq
    exact freezePort_frozen q s
  · rw [port_of_freezePort hq]
    exact h

/-- Every port of a list is frozen after the freezes of the list. -/
theorem frozen_forEach {xs : List PortId} {q : PortId} (h : q ∈ xs) (s : State) :
    ((forEach xs State.freezePort s).port q).frozen = true := by
  induction xs generalizing s with
  | nil => cases h
  | cons x xs ih =>
    rw [forEach_cons]
    by_cases hmem : q ∈ xs
    · exact ih hmem _
    · have hx : q = x := (List.mem_cons.mp h).resolve_right hmem
      exact forEach_upholds (I := fun t : State => (t.port q).frozen = true) (fun y _ t ht => frozen_freezePort y q t ht)
        (hx ▸ freezePort_frozen q s)

theorem cfg_of_steady {s t : State} (h : t.steady = s.steady) (p : PortId) : (t.port p).cfg = (s.port p).cfg := by
  have hport := congrArg (fun v : Vector Port 16 => v[p].cfg) h
  simpa [State.steady, State.port, Port.steady] using hport

/-- A port as its freeze begins. -/
def Port.frozenNow (now : Nat) (x : Port) : Port := { x with frozen := true, outFreeze := some (x.outFreeze.getD now) }

theorem frozenNow_cfg (p : PortId) (now : Nat) (t : State) :
    ((State.tieSync p (t.modPort p (Port.frozenNow now))).port p).cfg = (t.port p).cfg := by
  refine ((cfg_blind p).tieSync _).trans ?_
  rw [State.port_modPort]
  rfl

/-- A freeze keeps the profile registers. -/
theorem freezePort_cfg (p : PortId) (s : State) : ((s.freezePort p).port p).cfg = (s.port p).cfg := by
  have hb := cfg_blind p
  unfold State.freezePort
  split
  · rfl
  extract_lets x s1 s2 s3 s4
  have h1 : (s1.port p).cfg = (s.port p).cfg := hb.discardHolding ..
  have h2 : (s2.port p).cfg = (s.port p).cfg := by
    unfold s2
    split
    · rw [cfg_of_steady (frameErrIfOpen_steady p 8 s1) p, h1]
    · exact h1
  have h3 : (s3.port p).cfg = (s.port p).cfg := by
    unfold s3
    rw [State.port_modPort]
    exact h2
  have h4 : (s4.port p).cfg = (s.port p).cfg := (hb.addHeldLoss _).trans ((hb.leaveTie _).trans h3)
  exact (frozenNow_cfg p s4.coreUs s4).trans h4

/-! ### A register that fails -/

/-- The event of a parity failure: it is counted, and source 144 takes it. -/
def State.parityEvent (s : State) : State := (s.count 0x0B0).attEvent 144

theorem parityEvent_form (s : State) : ∃ a c e, s.parityEvent = { s with att := a, cnt := c, boot := { s.boot with early := e } } :=
  count_attEvent_form ..

theorem parityEvent_port (s : State) (q : PortId) : s.parityEvent.port q = s.port q :=
  (port_of_attEvent ..).trans (port_of_count ..)

/-- A source as an event whose input stands finds it. -/
def Src.Raised (x y : Src) : Prop :=
  y.count = satInc x.count ∧ y.asserted = true ∧ y.claimed = x.claimed ∧
    (if x.claimed = true then y.repend = true else y.pend = true)

/-- Source 144 counts the failure, which waits or is pending (R302, Table 11.2). -/
theorem parityEvent_source {s : State} (hr : s.released = true) (hs : s.att.saved = false)
    (hrec : s.parityRecord.getLsbD 31 = true) : s.att.srcs[(144 : SrcId)].Raised s.parityEvent.att.srcs[(144 : SrcId)] := by
  let w := s.count 0x0B0
  have hsource : w.source 144 = s.source 144 := count_source (by decide) (by decide) 0x0B0 s
  have hsrc : w.att.srcs[(144 : SrcId)] = s.att.srcs[(144 : SrcId)] := congrArg Prod.fst hsource
  have hsaved : w.att.saved = false := (congrArg Prod.snd hsource).trans hs
  obtain ⟨a, c, e, hform⟩ := count_form 0x0B0 s
  have hwr : w.released = true := (congrArg State.released hform).trans hr
  have hwrec : w.parityRecord.getLsbD 31 = true := (congrArg (fun t : State => t.parityRecord.getLsbD 31) hform).trans hrec
  have hassert : w.ownerAsserted 144 = true := by
    rw [show w.ownerAsserted 144 = (w.frozenMask != 0 || w.parityRecord.getLsbD 31) from rfl, hwrec, Bool.or_true]
  have hev : w.attEvent 144 = _ := attEvent_live rfl hwr hsaved
  have hy : s.parityEvent.att.srcs[(144 : SrcId)] = { w.att.srcs[(144 : SrcId)].event with asserted := true } := by
    rw [show s.parityEvent = w.attEvent 144 from rfl, hev, hassert]
    exact update_srcs_self _ _ (by decide)
  rw [hy, hsrc]
  obtain ⟨hcount, hclaimed, -, hcl, hfree⟩ := src_event s.att.srcs[(144 : SrcId)]
  refine ⟨hcount, rfl, hclaimed, ?_⟩
  split
  · next h => exact (hcl h).1
  · next h => exact (hfree (eq_false_of_ne_true h)).1

/-- What register `r` at `a` is recorded as (Table 10.11). -/
def parityWord (r : Reg) (a : BitVec 16) : Word := flag 31 true ||| fld 16 (cfgScope r) ||| fld 0 a

theorem parityWord_valid (r : Reg) (a : BitVec 16) : (parityWord r a).getLsbD 31 = true := by
  simp [parityWord, flag]

theorem recordParity_record (r : Reg) (a : BitVec 16) (s : State) : (s.recordParity r a).parityRecord =
    if s.parityRecord.getLsbD 31 then s.parityRecord else parityWord r a := by
  unfold State.recordParity
  split <;> rfl

theorem recordParity_valid (r : Reg) (a : BitVec 16) (s : State) : (s.recordParity r a).parityRecord.getLsbD 31 = true := by
  rw [recordParity_record]
  split
  · assumption
  · exact parityWord_valid r a

/-- What a failing register freezes or replaces, and no longer counts as failing (R290, R291). -/
def State.failed (r : Reg) (a : BitVec 16) (s : State) : State :=
  match r with
  | .port p _ => (s.freezePort p).modPort p (fun x => { x with ownFreeze := true })
  | .resv p _ =>
    forEach ((regionPorts (regionOf p)).filter s.present) State.freezePort
      (s.modRegion (regionOf p) (fun y => { y with frozen := true }))
  | _ =>
    let t := s.defaultCfg r
    { t with boot := { t.boot with cfgBad := t.boot.cfgBad.filter (fun b => b != a) } }

theorem parityFails_eq (r : Reg) (a : BitVec 16) (s : State) :
    s.parityFails r a = ((s.failed r a).recordParity r a).parityEvent := by
  cases r <;> rfl

theorem parityFails_port_of (r : Reg) (a : BitVec 16) (s : State) (q : PortId) :
    (s.parityFails r a).port q = (s.failed r a).port q := by
  rw [parityFails_eq, parityEvent_port]
  unfold State.recordParity
  split <;> rfl

theorem parityFails_record (r : Reg) (a : BitVec 16) (s : State) : (s.parityFails r a).parityRecord =
    if (s.failed r a).parityRecord.getLsbD 31 then (s.failed r a).parityRecord else parityWord r a := by
  obtain ⟨a', c, e, h⟩ := parityEvent_form ((s.failed r a).recordParity r a)
  rw [parityFails_eq, h]
  exact recordParity_record ..

theorem parityFails_valid (r : Reg) (a : BitVec 16) (s : State) : (s.parityFails r a).parityRecord.getLsbD 31 = true := by
  rw [parityFails_record]
  split
  · assumption
  · exact parityWord_valid r a

/-- The operations on a port do not end or begin a freeze of a region. -/
theorem regionFrozen_run (p : PortId) (r : RegionId) : RunBlind p (fun s => (s.region r).frozen) where
  keep _ _ _ := rfl
  move _ _ _ := rfl
  modRegion s f h := by
    by_cases hr : r = regionOf p
    · subst hr
      rw [State.region_modRegion, h]
    · rw [State.region_modRegion_ne s f hr]
  modTie _ _ _ := rfl
  portEvent _ s := by
    obtain ⟨a, e, h⟩ := attEvent_form _ s
    rw [h]
    rfl
  tieEvent _ s := by
    obtain ⟨a, e, h⟩ := attEvent_form _ s
    rw [h]
    rfl
  tieFall _ _ := rfl
  count code s := by
    obtain ⟨a, c, e, h⟩ := count_form code s
    rw [h]
    rfl
  hostError s := by
    obtain ⟨a, c, e, h⟩ := hostError_form 4 s
    rw [h]
    rfl

/-- The source and record of parity failures, the flash, the service port and the stage of start-up. -/
def State.guarded (s : State) : (Src × Bool) × Word × List Host.Cell × Svc × Stage :=
  (s.source 144, s.parityRecord, s.flash, s.svc, s.boot.stage)

theorem guarded_of_beyond {s t : State} (h : t.beyond = s.beyond) : t.guarded = s.guarded :=
  congrArg (fun b => (b.1, b.2.1, b.2.2.1, b.2.2.2.1, b.2.2.2.2.1.stage)) h

theorem freezePort_guarded (p s) : (State.freezePort p s).guarded = s.guarded :=
  guarded_of_beyond ((beyond_run p).freezePort s)

theorem failed_guarded (r a s) : (State.failed r a s).guarded = s.guarded := by
  unfold State.failed
  split
  · exact (guarded_of_beyond rfl).trans (freezePort_guarded ..)
  · exact (forEach_keeps (π := State.guarded) (fun p _ t => freezePort_guarded p t) _).trans (guarded_of_beyond rfl)
  · cases r <;> rfl

theorem failed_record (r a s) : (State.failed r a s).parityRecord = s.parityRecord :=
  congrArg (fun g => g.2.1) (failed_guarded r a s)

/-- What a failing register leaves of flash and service port, and the event that it raises. -/
theorem parityFails_guarded (r : Reg) (a : BitVec 16) (s : State) :
    (s.parityFails r a).flash = s.flash ∧ (s.parityFails r a).svc = s.svc ∧
      (s.parityFails r a).parityRecord = (if s.parityRecord.getLsbD 31 then s.parityRecord else parityWord r a) := by
  have hg := failed_guarded r a s
  obtain ⟨a', c, e, h⟩ := parityEvent_form ((s.failed r a).recordParity r a)
  have hrec (t : State) : (t.recordParity r a).flash = t.flash ∧ (t.recordParity r a).svc = t.svc := by
    unfold State.recordParity
    split <;> exact ⟨rfl, rfl⟩
  obtain ⟨hflash, hsvc⟩ := hrec (s.failed r a)
  refine ⟨?_, ?_, ?_⟩
  · rw [parityFails_eq, h]
    exact hflash.trans (congrArg (fun g => g.2.2.1) hg)
  · rw [parityFails_eq, h]
    exact hsvc.trans (congrArg (fun g => g.2.2.2.1) hg)
  · rw [parityFails_record, failed_record]

theorem parityFails_source {s : State} (r : Reg) (a : BitVec 16) (hr : s.released = true) (hs : s.att.saved = false) :
    s.att.srcs[(144 : SrcId)].Raised (s.parityFails r a).att.srcs[(144 : SrcId)] := by
  let u := (s.failed r a).recordParity r a
  have hg := failed_guarded r a s
  have hu (t : State) : (t.recordParity r a).source 144 = t.source 144 ∧ (t.recordParity r a).boot.stage = t.boot.stage := by
    unfold State.recordParity
    split <;> exact ⟨rfl, rfl⟩
  obtain ⟨husource, hustage⟩ := hu (s.failed r a)
  have hsource : u.source 144 = s.source 144 := husource.trans (congrArg (fun g => g.1) hg)
  have hstage : u.boot.stage = s.boot.stage := hustage.trans (congrArg (fun g => g.2.2.2.2) hg)
  have hreleased : u.released = true := by
    unfold State.released at hr ⊢
    rw [hstage]
    exact hr
  have hsrc : u.att.srcs[(144 : SrcId)] = s.att.srcs[(144 : SrcId)] := congrArg Prod.fst hsource
  have hev := parityEvent_source hreleased ((congrArg Prod.snd hsource).trans hs) (recordParity_valid r a (s.failed r a))
  rw [hsrc] at hev
  rw [parityFails_eq]
  exact hev

/-- A failing profile register freezes its port, whose registers keep what they hold. -/
theorem parityFails_profile (p : PortId) (x : PortReg) (a : BitVec 16) (s : State) :
    ((s.parityFails (.port p x) a).port p).frozen = true ∧ ((s.parityFails (.port p x) a).port p).cfg = (s.port p).cfg := by
  have hport : (s.failed (.port p x) a).port p = { (s.freezePort p).port p with ownFreeze := true } := State.port_modPort ..
  rw [parityFails_port_of, hport]
  exact ⟨freezePort_frozen p s, freezePort_cfg p s⟩

/-- A failing reservation freezes its region and every present port of it. -/
theorem parityFails_resv (p : PortId) (d : Dir) (a : BitVec 16) (s : State) :
    ((s.parityFails (.resv p d) a).region (regionOf p)).frozen = true ∧
      ∀ o, s.present o = true → regionOf o = regionOf p → ((s.parityFails (.resv p d) a).port o).frozen = true := by
  constructor
  · obtain ⟨a', c, e, h⟩ := parityEvent_form ((s.failed (.resv p d) a).recordParity (.resv p d) a)
    have hrec (t : State) : (t.recordParity (.resv p d) a).region (regionOf p) = t.region (regionOf p) := by
      unfold State.recordParity
      split <;> rfl
    have hfailed : ((s.failed (.resv p d) a).region (regionOf p)).frozen = true := by
      refine (forEach_keeps (π := fun s : State => (s.region (regionOf p)).frozen)
        (fun q _ t => (regionFrozen_run q (regionOf p)).freezePort t) _).trans ?_
      rw [State.region_modRegion]
    rw [parityFails_eq, h]
    exact (congrArg Region.frozen (hrec _)).trans hfailed
  · intro o ho hregion
    rw [parityFails_port_of]
    refine frozen_forEach (List.mem_filter.mpr ⟨?_, ho⟩) _
    unfold regionPorts
    rw [List.mem_filter]
    refine ⟨List.mem_finRange o, ?_⟩
    rw [← hregion]
    exact beq_self_eq_true _

/-- A failing register of no port or region takes its built-in default and fails no more. -/
theorem parityFails_device {r : Reg} {s : State} (hp : ∀ p x, r ≠ .port p x) (hd : ∀ p d, r ≠ .resv p d) (a : BitVec 16) :
    let t := s.parityFails r a
    t.boot.cfgBad = (s.defaultCfg r).boot.cfgBad.filter (fun b => b != a) ∧ t.boot.trkCfg = (s.defaultCfg r).boot.trkCfg ∧
      t.boot.imgDevice = (s.defaultCfg r).boot.imgDevice ∧ t.boot.frames = (s.defaultCfg r).boot.frames ∧
      ∀ o, t.port o = (s.defaultCfg r).port o := by
  intro t
  have hfailed : s.failed r a = { s.defaultCfg r with boot := { (s.defaultCfg r).boot with
      cfgBad := (s.defaultCfg r).boot.cfgBad.filter (fun b => b != a) } } := by
    unfold State.failed
    split
    · exact absurd rfl (hp _ _)
    · exact absurd rfl (hd _ _)
    · rfl
  obtain ⟨a', c, e, h⟩ := parityEvent_form ((s.failed r a).recordParity r a)
  have hrec (u : State) : (u.recordParity r a).boot = u.boot := by
    unfold State.recordParity
    split <;> rfl
  have hboot : t.boot = { (s.failed r a).boot with early := e } := by
    unfold t
    rw [parityFails_eq, h, hrec]
  refine ⟨?_, ?_, ?_, ?_, fun o => ?_⟩
  · rw [hboot, hfailed]
  · rw [hboot, hfailed]
  · rw [hboot, hfailed]
  · rw [hboot, hfailed]
  · unfold t
    rw [parityFails_port_of, hfailed]
    rfl

end Sys2Proof.Machine
end

section
/-! SUPPORT. The background scan's upsets (10 R289), and the obligation on it. -/

namespace Sys2Proof.Machine

/-- The registers of which an upset `f` of register `r` turns the parity. -/
def turned (r : Reg) (a : BitVec 16) (f : Word) : List (Reg × BitVec 16 × Word) :=
  (cfgHolders r a).filter (fun h => popcount ((f &&& heldMask r) &&& h.2.2) % 2 == 1)

/-- Register `r` at `a` after an upset `f`, before its failure acts. -/
def State.struck (r : Reg) (a : BitVec 16) (f : Word) (s : State) : State :=
  forEach (turned r a f) (fun h u => u.turnParity h.2.1) (s.flipCfg r (f &&& heldMask r))

/-- What an upset leaves: everything but the configuration. -/
def State.unstruck (s : State) : Att × Word × List Host.Cell × Svc × Stage × Vector Word 32 :=
  (s.att, s.parityRecord, s.flash, s.svc, s.boot.stage, s.boot.fuseShadow)

theorem struck_unstruck (r a f s) : (State.struck r a f s).unstruck = s.unstruck := by
  refine (forEach_keeps (π := State.unstruck) (f := fun (h : Reg × BitVec 16 × Word) (u : State) => u.turnParity h.2.1) (fun _ _ _ => rfl) _).trans ?_
  unfold State.flipCfg
  split <;> rfl

theorem struck_frozen (r a f s) (o : PortId) : ((State.struck r a f s).port o).frozen = (s.port o).frozen := by
  refine (forEach_keeps (π := fun s : State => (s.port o).frozen) (f := fun (h : Reg × BitVec 16 × Word) (u : State) => u.turnParity h.2.1) (fun _ _ _ => rfl) _).trans ?_
  have hmod (p : PortId) (g : Port → Port) (hg : ∀ x, (g x).frozen = x.frozen) : ((s.modPort p g).port o).frozen = (s.port o).frozen := by
    by_cases ho : o = p
    · subst ho
      rw [State.port_modPort, hg]
    · rw [State.port_modPort_ne s g ho]
  unfold State.flipCfg
  split
  · exact hmod _ _ fun _ => rfl
  · exact hmod _ _ fun _ => rfl
  · exact hmod _ _ fun _ => rfl
  · exact hmod _ _ fun _ => rfl
  · rfl
  · rfl
  · rfl
  · exact hmod _ _ fun _ => rfl
  · rfl

theorem cfgHolders_head (r : Reg) (a : BitVec 16) : ∃ rest, cfgHolders r a = (r, a, heldMask r) :: rest := ⟨_, rfl⟩

/-- A new odd upset of a configuration register makes it fail (R289). -/
theorem upsetCfg_eq {s : State} {r : Reg} {a : BitVec 16} {f : Word} (hreg : regAt a.toNat = some r) (hcfg : s.isCfg r = true)
    (hgood : s.boot.cfgBad.contains a = false) (hodd : popcount (f &&& heldMask r) % 2 = 1) :
    s.upsetCfg a f = (s.struck r a f).parityFails r a := by
  obtain ⟨rest, hrest⟩ := cfgHolders_head r a
  have hmask : (f &&& heldMask r) &&& heldMask r = f &&& heldMask r := by rw [BitVec.and_assoc, BitVec.and_self]
  have hfirst : (turned r a f).find? (fun h => !s.boot.cfgBad.contains h.2.1) = some (r, a, heldMask r) := by
    unfold turned
    rw [hrest, List.filter_cons_of_pos (by dsimp only; rw [hmask, hodd]; rfl), List.find?_cons_of_pos (by dsimp only; rw [hgood]; rfl)]
  unfold State.upsetCfg
  rw [hreg]
  dsimp only
  rw [hcfg, Bool.not_true, if_neg Bool.false_ne_true]
  have hfind : List.find? (fun h => !s.boot.cfgBad.contains h.2.1)
      ((cfgHolders r a).filter (fun h => popcount ((f &&& heldMask r) &&& h.2.2) % 2 == 1)) = some (r, a, heldMask r) := hfirst
  rw [hfind]
  rfl

theorem exec_scanCfg {s : State} (h : s.serving = true) (a : BitVec 16) (f : Word) :
    exec (.parityScan (.cfg a f)) s = .next (s.upsetCfg a f) :=
  congrArg Host.Outcome.next (if_neg (by rw [h]; decide))

theorem parityWord_eq (r : Reg) (a : BitVec 16) : parityWord r a =
    (flag 31 true ||| fld 16 (cfgScope r)) ||| a.setWidth 32 := by
  unfold parityWord fld
  rw [BitVec.shiftLeft_zero]

/-- A fuse shadow word that fails, read again (R359). -/
theorem exec_scanFuse {s : State} (h : s.serving = true) {w : Fin 32} (hw : w ≠ 3) {f : Word} (reads : List Word)
    (hodd : evenParity (s.boot.fuseShadow[w] ^^^ f) = false) : exec (.parityScan (.fuse w f reads)) s =
      .next (State.reloadFuse w reads { s with boot := { s.boot with
        fuseShadow := s.boot.fuseShadow.set w (s.boot.fuseShadow[w] ^^^ f) } }) := by
  refine congrArg Host.Outcome.next ((if_neg (by rw [h]; decide)).trans (if_pos ?_))
  rw [hodd, bne_iff_ne.mpr hw]
  rfl

/-- The reads of a fuse word in service (R359). -/
def State.rereads (s : State) (w : Fin 32) (reads : List Word) : List Word :=
  [0, 1, 2, 3].map (fun k => s.boot.fuseArray[w] ^^^ reads.getD k 0)

theorem reloadFuse_found {s : State} {w : Fin 32} {reads : List Word} {x : Word}
    (h : (s.rereads w reads).find? (fuseWordOk w) = some x) : s.reloadFuse w reads =
      State.startEvent 2 { s with boot := { s.boot with fuseShadow := s.boot.fuseShadow.set w x } } := by
  unfold State.rereads at h
  unfold State.reloadFuse
  dsimp only
  rw [h]

theorem reloadFuse_lost {s : State} {w : Fin 32} {reads : List Word}
    (h : (s.rereads w reads).find? (fuseWordOk w) = none) : ∃ u : State, s.reloadFuse w reads = u.halt ∧
      u.boot.regulated = s.boot.regulated ∧ u.pw.inputOn = s.pw.inputOn := by
  unfold State.rereads at h
  unfold State.reloadFuse
  dsimp only
  rw [h]
  exact ⟨_, rfl, rfl, rfl⟩

theorem stage_of_serving {s : State} (h : s.serving = true) : s.boot.stage = .released := by
  unfold State.serving State.released at h
  simp only [Bool.and_eq_true] at h
  exact eq_of_beq h.1.1

theorem inputOn_of_serving {s : State} (h : s.serving = true) : s.pw.inputOn = true := by
  unfold State.serving at h
  simp only [Bool.and_eq_true] at h
  exact h.1.2

/-- An odd upset of a register, as it acts: the record, the flash and the service port (R289, R290). -/
theorem struck_fails {s : State} (r : Reg) (a : BitVec 16) (f : Word) (hrec : s.parityRecord.getLsbD 31 = false) :
    ((s.struck r a f).parityFails r a).parityRecord = (flag 31 true ||| fld 16 (cfgScope r)) ||| a.setWidth 32 ∧
      ((s.struck r a f).parityFails r a).flash = s.flash ∧ ((s.struck r a f).parityFails r a).svc = s.svc := by
  have hstruck := struck_unstruck r a f s
  obtain ⟨hflash, hsvc, hrecord⟩ := parityFails_guarded r a (s.struck r a f)
  generalize State.struck r a f s = u at hstruck hflash hsvc hrecord ⊢
  have hurec : u.parityRecord = s.parityRecord := congrArg (fun g => g.2.1) hstruck
  refine ⟨?_, hflash.trans (congrArg (fun g => g.2.2.1) hstruck), hsvc.trans (congrArg (fun g => g.2.2.2.1) hstruck)⟩
  rw [hrecord, hurec, hrec, if_neg Bool.false_ne_true, parityWord_eq]

theorem scopeWord_port : flag 31 true ||| fld 16 (0#2) = 0x80000000#32 := by decide
theorem scopeWord_region : flag 31 true ||| fld 16 (1#2) = 0x80010000#32 := by decide
theorem scopeWord_device : flag 31 true ||| fld 16 (2#2) = 0x80020000#32 := by decide

theorem struck_present (r a f s) (o : PortId) : (State.struck r a f s).present o = s.present o := by
  have hfuses : (State.struck r a f s).boot.fuseShadow = s.boot.fuseShadow :=
    congrArg (fun g => g.2.2.2.2.2) (struck_unstruck r a f s)
  unfold State.present State.presentMask
  rw [hfuses]

theorem isCfg_profile {s : State} {p : PortId} (h : s.present p = true) (k : Fin 24) : s.isCfg (.port p (.cfg k)) = true := by
  unfold State.isCfg State.regAbsent Reg.portOf
  dsimp only
  rw [h]
  rfl

/-- An odd upset of a profile word (R289, R290, R302). -/
theorem scan_profile {s : State} (hs : s.serving = true) {a : BitVec 16} {f : Word} {p : PortId} {k : Fin 24}
    (hreg : regAt a.toNat = some (.port p (.cfg k))) (hp : s.present p = true) (hgood : s.boot.cfgBad.contains a = false)
    (hodd : popcount (f &&& profileMask k.val) % 2 = 1) (hrec : s.parityRecord.getLsbD 31 = false) :
    ∃ t, exec (.parityScan (.cfg a f)) s = .next t ∧ (t.port p).frozen = true ∧
      t.parityRecord = 0x80000000#32 ||| a.setWidth 32 ∧ t.flash = s.flash ∧ t.svc = s.svc ∧
      (s.att.saved = false → s.att.srcs[(144 : SrcId)].Raised t.att.srcs[(144 : SrcId)]) := by
  have hrun := (exec_scanCfg hs a f).trans (congrArg Host.Outcome.next (upsetCfg_eq hreg (isCfg_profile hp k) hgood hodd))
  obtain ⟨hrecord, hflash, hsvc⟩ := struck_fails (.port p (.cfg k)) a f hrec
  have hstruck := struck_unstruck (.port p (.cfg k)) a f s
  have hatt : (s.struck (.port p (.cfg k)) a f).att = s.att := congrArg (fun g => g.1) hstruck
  have hstage : (s.struck (.port p (.cfg k)) a f).boot.stage = s.boot.stage := congrArg (fun g => g.2.2.2.2.1) hstruck
  refine ⟨_, hrun, (parityFails_profile p _ a _).1, hrecord.trans (congrArg (· ||| _) scopeWord_port), hflash, hsvc, fun hsaved => ?_⟩
  have hev := parityFails_source (s := s.struck (.port p (.cfg k)) a f) (.port p (.cfg k)) a
    (by unfold State.released; rw [hstage, stage_of_serving hs]; rfl) (by rw [hatt]; exact hsaved)
  rw [hatt] at hev
  exact hev

theorem defaultCfg_frozen (r : Reg) (s : State) (o : PortId) : ((s.defaultCfg r).port o).frozen = (s.port o).frozen := by
  unfold State.defaultCfg
  split
  · rfl
  · rfl
  · rfl
  · next p =>
    by_cases ho : o = p
    · subst ho
      rw [State.port_modPort]
    · rw [State.port_modPort_ne s _ ho]
  · rfl

/-- A frame-table word reads as it was stored. -/
theorem frameWord_of_frames {s t : State} {i : Fin 32} {lo hi : BitVec 16}
    (h : t.boot.frames = (s.setFrames i (fld 16 hi ||| fld 0 lo)).boot.frames) : t.frameWord i = fld 16 hi ||| fld 0 lo := by
  have hne : 2 * i.val + 1 ≠ 2 * i.val := by omega
  unfold State.frameWord
  simp only [h, State.setFrames, Vector.getElem_set_self, Vector.getElem_set_ne _ _ hne,
    bits_fld_or_low 16 hi lo (by decide) (by decide), bits_fld_or_high 16 hi lo (by decide) (by decide)]

/-- A failing register of no port or region (R291). -/
structure Defaulted (s : State) (r : Reg) (a : BitVec 16) (t : State) : Prop where
  good : a ∉ t.boot.cfgBad
  frozen : ∀ o, (t.port o).frozen = (s.port o).frozen
  trkCfg : r = .trkCfg → t.boot.trkCfg = Config.builtinTrkCfg
  imgDevice : r = .imgDevice → t.boot.imgDevice = Config.builtinImgDevice
  frame : ∀ i, r = .frameTable i → t.frameWord i = fld 16 Config.builtinFrame ||| fld 0 Config.builtinFrame
  psel : ∀ p, r = .benchPsel p → (t.port p).benchEn = false ∧ (t.port p).benchLevel = 0

theorem parityFails_defaulted {r : Reg} {s : State} (hp : ∀ p x, r ≠ .port p x) (hd : ∀ p d, r ≠ .resv p d) (a : BitVec 16) :
    Defaulted s r a (s.parityFails r a) := by
  obtain ⟨hbad, htrk, himg, hframes, hports⟩ := parityFails_device hp hd a (s := s)
  generalize State.parityFails r a s = t at hbad htrk himg hframes hports ⊢
  refine ⟨?_, fun o => ?_, ?_, ?_, ?_, ?_⟩
  · rw [hbad, List.mem_filter]
    rintro ⟨-, hne⟩
    simp at hne
  · rw [hports]
    exact defaultCfg_frozen r s o
  · rintro rfl
    exact htrk
  · rintro rfl
    exact himg
  · rintro i rfl
    exact frameWord_of_frames hframes
  · rintro p rfl
    rw [hports, show (s.defaultCfg (.benchPsel p)).port p = _ from State.port_modPort ..]
    exact ⟨rfl, rfl⟩

/-- Settles O26: an upset that makes a register fail is `upsetCfg_eq` with what `State.parityFails` does to each kind of
register; a fuse word is read again by `reloadFuse_found` or halts the device by `reloadFuse_lost`. -/
theorem parityScanActs : Obligations.ParityScanActs := by
  unfold Obligations.ParityScanActs
  intro s hs
  refine ⟨fun hgood => ?_, fun a f p k hreg hp hgood hodd hrec => scan_profile hs hreg hp hgood hodd hrec,
    fun a f r hreg hcfg hgood hodd hrec hport => ?_, fun w f reads hw hodd => ?_⟩
  · refine congrArg Host.Outcome.next ((if_neg (by rw [hs]; decide)).trans ?_)
    dsimp only
    rw [hgood]
    rfl
  · have hrun := (exec_scanCfg hs a f).trans (congrArg Host.Outcome.next (upsetCfg_eq hreg hcfg hgood hodd))
    obtain ⟨hrecord, hflash, hsvc⟩ := struck_fails r a f hrec
    refine ⟨_, hrun, hflash, hsvc, fun p d hr => ?_, fun hresv => ?_⟩
    · subst hr
      obtain ⟨hregion, hports⟩ := parityFails_resv p d a (s.struck (.resv p d) a f)
      exact ⟨hrecord.trans (congrArg (· ||| _) scopeWord_region), hregion,
        fun o ho hro => hports o ((struck_present ..).trans ho) hro⟩
    · have hd := parityFails_defaulted (s := s.struck r a f) hport hresv a
      have hscope : cfgScope r = 2#2 := by
        unfold cfgScope
        split
        · exact absurd rfl (hport _ _)
        · exact absurd rfl (hresv _ _)
        · rfl
      rw [hscope] at hrecord
      exact ⟨hrecord.trans (congrArg (· ||| _) scopeWord_device), hd.good, fun o => (hd.frozen o).trans (struck_frozen ..), hd.trkCfg,
        hd.imgDevice, hd.frame, hd.psel⟩
  · have hrun := exec_scanFuse hs hw reads hodd
    refine ⟨fun x hx => ?_, fun hall hreg => ?_⟩
    · have hfound := hrun.trans (congrArg Host.Outcome.next (reloadFuse_found hx))
      have hself : (((s.boot.fuseShadow.set w (s.boot.fuseShadow[w] ^^^ f)).set w x) : Vector Word 32)[w] = x :=
        Vector.getElem_set_self ..
      generalize s.boot.fuseShadow.set w (s.boot.fuseShadow[w] ^^^ f) = shadow at hfound hself
      obtain ⟨a, e, hform⟩ := startEvent_form 2 { s with boot := { s.boot with fuseShadow := shadow.set w x } }
      exact ⟨_, hfound.trans (congrArg Host.Outcome.next hform), hself, rfl, stage_of_serving hs, rfl⟩
    · have hnone : (s.rereads w reads).find? (fuseWordOk w) = none := by
        rw [List.find?_eq_none]
        intro x hx
        have hbad := List.all_eq_true.mp hall x hx
        simpa using hbad
      obtain ⟨u, hu, hureg, huon⟩ := reloadFuse_lost (s := { s with boot := { s.boot with
        fuseShadow := s.boot.fuseShadow.set w (s.boot.fuseShadow[w] ^^^ f) } }) hnone
      obtain ⟨hstage, hhalt, hports, -, -, -, hfault⟩ := halt_halted u
      exact ⟨_, hrun.trans (congrArg Host.Outcome.next hu), hstage, hhalt,
        hfault (hureg.trans hreg) (huon.trans (inputOn_of_serving hs)), hports⟩

end Sys2Proof.Machine
end

section
/-! SUPPORT. READ and WRITE requests of a device that serves the host (09 R256 to R258, 17 R440 to R447), and the obligation on
them. -/

namespace Sys2Proof.Machine

/-! ### READ -/

theorem exec_read {s : State} (h : s.hostReady) (q : Req) (size : BitVec 2) (m : BitVec 6) (addr : BitVec 16) :
    exec (.read q size m addr) s = .next (s.acceptBlk.readReq q size (m.toNat + 1) addr) :=
  congrArg Host.Outcome.next (hostCtl_of_blocksFlow _ h.1)

theorem readReq_of_refusal {u : State} {q : Req} {size : BitVec 2} {addr a : BitVec 16} {n : Nat}
    (h : u.refusal q false size addr n [] = some a) : u.readReq q size n addr = u.accessError q a n := by
  unfold State.readReq
  rw [h]

theorem txCommitAt_toNat (p : PortId) : (0x1030#16 + BitVec.ofNat 16 (0x100 * p.val)).toNat = 0x1000 + (0x100 * p.val + 0x30) := by
  have := p.isLt
  simp only [BitVec.toNat_add, BitVec.toNat_ofNat]
  omega

/-- The register at offset `o` of a port's block. -/
theorem regAt_port (p : PortId) {o : Nat} (h : o < 256) (h4 : o % 4 = 0) :
    regAt (0x1000 + (0x100 * p.val + o)) = (portReg (o / 4)).map (fun r => .port p r) := by
  have hp := p.isLt
  have hword : (0x1000 + (0x100 * p.val + o)) / 4 * 4 = 0x1000 + (0x100 * p.val + o) := by omega
  have hlow : ¬ 0x1000 + (0x100 * p.val + o) < 0x1000 := by omega
  have hhigh : 0x1000 + (0x100 * p.val + o) < 0x2000 := by omega
  have hoff : (0x1000 + (0x100 * p.val + o)) % 256 / 4 = o / 4 := by omega
  have hport : (⟨(0x1000 + (0x100 * p.val + o) - 0x1000) / 256 % 16, by omega⟩ : PortId) = p := Fin.ext (by dsimp only; omega)
  simp only [regAt, hword, hlow, hhigh, hoff, if_false, dif_pos, hport]

theorem regAt_txCommit (p : PortId) :
    regAt (0x1030#16 + BitVec.ofNat 16 (0x100 * p.val)).toNat = some (.port p .txCommit) := by
  rw [txCommitAt_toNat, regAt_port p (by decide) (by decide)]
  rfl

/-- A single-access register refuses a beat that is no word, and a burst (Table 9.3). -/
theorem refusal_of_single {u : State} {q : Req} {write : Bool} {size : BitVec 2} {addr : BitVec 16} {n : Nat} {vs : List Word}
    {r : Reg} (hreg : regAt addr.toNat = some r) (hs : r.single = true) (hn : 1 ≤ n) (h : size ≠ 2#2 ∨ n ≠ 1) :
    ∃ a, u.refusal q write size addr n vs = some a := by
  have hbeat : beatAddr addr 0 = addr.toNat := by unfold beatAddr; omega
  unfold State.refusal
  split
  · exact ⟨_, rfl⟩
  · next hnone =>
    refine ⟨addr, if_pos ?_⟩
    have hfirst := List.find?_eq_none.mp hnone 0 (List.mem_range.mpr hn)
    have hsize : size = 2#2 := by
      by_contra hne
      refine hfirst ?_
      unfold State.beatRefused State.regRefuses
      rw [hbeat, hreg]
      dsimp only
      rw [hs, bne_iff_ne.mpr hne]
      simp
    have hmany : 1 < n := by
      have := h.resolve_left (not_not_intro hsize)
      omega
    unfold burstRefused
    rw [decide_eq_true hmany, Bool.true_and, Bool.or_eq_true]
    refine .inr (List.any_eq_true.mpr ⟨0, List.mem_range.mpr hn, ?_⟩)
    unfold singleAt
    rw [hbeat, hreg, Bool.or_eq_true]
    exact .inr hs

/-- A word that no rule refuses is aligned (R258). -/
theorem aligned_of_unrefused {u : State} {q : Req} {write : Bool} {addr : BitVec 16} {vs : List Word}
    (h : u.refusal q write 2 addr 1 vs = none) : addr.toNat % 4 = 0 := by
  have hbeat : beatAddr addr 0 = addr.toNat := by unfold beatAddr; omega
  unfold State.refusal at h
  rw [List.range_one] at h
  by_contra hne
  have hfirst : u.beatRefused q write true 2 addr.toNat (vs.getD 0 0) = true := by
    unfold State.beatRefused
    rw [show sizeBytes 2 = 4 from rfl, decide_eq_true hne]
    simp
  rw [List.find?_cons_of_pos (by rw [hbeat]; exact hfirst)] at h
  cases h

theorem wordAddr_of_aligned {addr : BitVec 16} (h : addr.toNat % 4 = 0) : BitVec.ofNat 16 (addr.toNat / 4 * 4) = addr := by
  rw [Nat.div_mul_cancel (Nat.dvd_of_mod_eq_zero h), BitVec.ofNat_toNat, BitVec.setWidth_eq]

/-- A word read from a register of more accesses than one (R258, R447). -/
theorem readReq_word {u : State} {q : Req} {addr : BitVec 16} {r : Reg} (hreg : regAt addr.toNat = some r)
    (hok : u.refusal q false 2 addr 1 [] = none) (hs : r.single = false) :
    u.readReq q 2 1 addr = (u.checkCfg addr).complete q 0 0 0 [u.readReg (u.secure q) r] := by
  have haligned := wordAddr_of_aligned (aligned_of_unrefused hok)
  have hbeat : u.readBeat q 2 addr.toNat = ([u.readReg (u.secure q) r], u.checkCfg addr) := by
    unfold State.readBeat
    rw [hreg, haligned]
    dsimp only
    congr 1
    cases r <;> rfl
  have hbeats : u.readBeats q 2 ((List.range 1).map (beatAddr addr)) = ([u.readReg (u.secure q) r], u.checkCfg addr) := by
    rw [List.range_one, List.map_singleton, show beatAddr addr 0 = addr.toNat from by unfold beatAddr; omega]
    unfold State.readBeats
    rw [hbeat]
    rfl
  unfold State.readReq
  rw [hok]
  unfold State.doRead
  rw [hreg]
  dsimp only
  split
  · next he => cases he; cases hs
  · next he => cases he; cases hs
  · next he => cases he; cases hs
  · next he => cases he; cases hs
  · rw [hbeats]

/-! ### The parity check that goes with it (R290, R291, R447) -/

/-- A failing register has frozen its port or region already. -/
def State.actedOn (u : State) : Reg → Bool
  | .port p _ => (u.port p).frozen
  | .resv p _ => (u.region (regionOf p)).frozen
  | _ => false

theorem actedOn_cases {u : State} {r : Reg} (h : u.actedOn r = true) : (∃ p x, r = .port p x ∧ (u.port p).frozen = true) ∨
    ∃ p d, r = .resv p d ∧ (u.region (regionOf p)).frozen = true := by
  unfold State.actedOn at h
  split at h
  · exact .inl ⟨_, _, rfl, h⟩
  · exact .inr ⟨_, _, rfl, h⟩
  · cases h

theorem checkCfg_eq {u : State} {addr : BitVec 16} {r : Reg} (hreg : regAt addr.toNat = some r) : u.checkCfg addr =
    if u.isCfg r && u.boot.cfgBad.contains addr && !(u.parityRecord.getLsbD 31 && u.actedOn r) then u.parityFails r addr
    else u := by
  unfold State.checkCfg
  rw [hreg]
  rfl

theorem checkCfg_of_good {u : State} {addr : BitVec 16} {r : Reg} (hreg : regAt addr.toNat = some r)
    (h : u.isCfg r = false ∨ addr ∉ u.boot.cfgBad) : u.checkCfg addr = u := by
  rw [checkCfg_eq hreg]
  refine if_neg ?_
  rcases h with h | h
  · rw [h]
    simp
  · have hbad : u.boot.cfgBad.contains addr = false := by simpa using h
    rw [hbad]
    simp

/-- The check of a register that fails acts, or has acted on its port or region before. -/
theorem checkCfg_of_bad {u : State} {addr : BitVec 16} {r : Reg} (hreg : regAt addr.toNat = some r) (hcfg : u.isCfg r = true)
    (hbad : addr ∈ u.boot.cfgBad) : u.checkCfg addr = u.parityFails r addr ∨
      (u.checkCfg addr = u ∧ u.parityRecord.getLsbD 31 = true ∧ ((∃ p x, r = .port p x ∧ (u.port p).frozen = true) ∨
        ∃ p d, r = .resv p d ∧ (u.region (regionOf p)).frozen = true)) := by
  have hcontains : u.boot.cfgBad.contains addr = true := by simpa using hbad
  rw [checkCfg_eq hreg, hcfg, hcontains]
  cases hdone : u.parityRecord.getLsbD 31 && u.actedOn r
  · exact .inl rfl
  · obtain ⟨hrec, hacted⟩ := (Bool.and_eq_true ..).mp hdone
    exact .inr ⟨rfl, hrec, actedOn_cases hacted⟩

/-- What the check leaves of a register that fails. -/
theorem checkCfg_acts {u : State} {addr : BitVec 16} {r : Reg} (hreg : regAt addr.toNat = some r) (hcfg : u.isCfg r = true)
    (hbad : addr ∈ u.boot.cfgBad) :
    let t := u.checkCfg addr
    t.parityRecord.getLsbD 31 = true ∧
      (∀ p x, r = .port p x → (t.port p).frozen = true ∧ (t.port p).cfg = (u.port p).cfg) ∧
      (∀ p d, r = .resv p d → (t.region (regionOf p)).frozen = true) ∧
      ((∀ p x, r ≠ .port p x) → (∀ p d, r ≠ .resv p d) → Defaulted u r addr t) := by
  intro t
  rcases checkCfg_of_bad hreg hcfg hbad with h | ⟨h, hrec, hfrozen⟩
  · unfold t
    rw [h]
    refine ⟨parityFails_valid .., ?_, ?_, fun hp hd => parityFails_defaulted hp hd addr⟩
    · rintro p x rfl
      exact parityFails_profile p x addr u
    · rintro p d rfl
      exact (parityFails_resv p d addr u).1
  · unfold t
    rw [h]
    refine ⟨hrec, ?_, ?_, fun hp hd => ?_⟩
    · rintro p x rfl
      rcases hfrozen with ⟨p', x', he, hf⟩ | ⟨p', d', he, hf⟩
      · cases he
        exact ⟨hf, rfl⟩
      · cases he
    · rintro p d rfl
      rcases hfrozen with ⟨p', x', he, hf⟩ | ⟨p', d', he, hf⟩
      · cases he
      · cases he
        exact hf
    · rcases hfrozen with ⟨p', x', he, -⟩ | ⟨p', d', he, -⟩
      · exact absurd he (hp _ _)
      · exact absurd he (hd _ _)

/-! ### WRITE -/

theorem exec_write {s : State} (h : s.hostReady) (q : Req) (size : BitVec 2) (m : BitVec 6) (addr : BitVec 16) (ws : List Word)
    (mids : List Mid) : exec (.write q size m addr ws mids) s = .next (s.acceptBlk.writeReq q size (m.toNat + 1) addr ws mids) :=
  congrArg Host.Outcome.next (hostCtl_of_blocksFlow _ h.1)

theorem exec_registerWrite {s : State} (h : s.hostReady) (q : Req) (addr : BitVec 16) (v : Word) :
    exec (.registerWrite q 2 addr v) s = .next (s.acceptBlk.writeReq q 2 1 addr [v] []) :=
  congrArg Host.Outcome.next (hostCtl_of_blocksFlow _ h.1)

theorem writeReq_of_refusal {u : State} {q : Req} {size : BitVec 2} {addr a : BitVec 16} {n : Nat} {ws : List Word} {mids : List Mid}
    (hlen : ws.length = if size = 3#2 then 2 * n else n) (h : u.refusal q true size addr n ws = some a) :
    u.writeReq q size n addr ws mids = u.accessError q a n := by
  unfold State.writeReq
  rw [if_neg (not_not_intro hlen), h]

theorem writeReq_of_length {u : State} {q : Req} {size : BitVec 2} {addr : BitVec 16} {n : Nat} {ws : List Word} {mids : List Mid}
    (hlen : ws.length ≠ if size = 3#2 then 2 * n else n) : u.writeReq q size n addr ws mids = u.complete q 5 0 0 [] :=
  if_pos hlen

/-- A word written that leaves the device state alone. -/
theorem writeReq_word {u t : State} {q : Req} {addr : BitVec 16} {v : Word} {mids : List Mid} {r : Reg} {res : BeatRes}
    (hreg : regAt addr.toNat = some r) (hok : u.refusal q true 2 addr 1 [v] = none)
    (hw : u.writeReg q addr r v mids = (t, res)) (hd : t.dev.changing = u.dev.changing) :
    u.writeReq q 2 1 addr [v] mids = t.wordDone q addr res := by
  have hlen : [v].length = if (2 : BitVec 2) = 3#2 then 2 * 1 else 1 := rfl
  unfold State.writeReq
  rw [if_neg (not_not_intro hlen), hok]
  dsimp only
  rw [doWrite_word (aligned_of_unrefused hok) hreg, hw]
  exact beginChange_of_changing ((wordDone_changing ..).trans hd)

/-- A write to event bits clears those written as 1 (R441). -/
theorem writeReg_w1c {u : State} {q : Req} {addr : BitVec 16} {r : Reg} {v : Word} {mids : List Mid} (hacc : r.acc = .w1c)
    (hidden : u.hidden q r = false) : u.writeReg q addr r v mids = (u.clearEvents r v, .ok) := by
  unfold State.writeReg
  rw [if_neg (ne_true_of_eq_false hidden)]
  split
  case h_30 => rfl
  all_goals cases hacc

theorem clearPort_dev (p : PortId) (x : PortReg) (v : Word) (u : State) : (u.clearPort p x v).dev = u.dev := by
  unfold State.clearPort
  split <;> rfl

theorem clearEvents_dev (r : Reg) (v : Word) (u : State) : (u.clearEvents r v).dev = u.dev := by
  unfold State.clearEvents
  split
  case h_2 => exact keeps_if (π := State.dev) rfl rfl
  case h_3 => exact forEach_keeps (π := State.dev) (f := State.attFall) (fun _ _ _ => rfl) _
  case h_6 => exact forEach_keeps (π := State.dev) (f := State.attFall) (fun _ _ _ => rfl) _
  case h_8 => exact forEach_keeps (π := State.dev) (f := State.clearTie v) (fun _ _ _ => rfl) u
  case h_10 => exact keeps_if (π := State.dev) rfl rfl
  case h_12 => exact clearPort_dev ..
  all_goals rfl

/-- The registers that a write to event bits leaves. -/
theorem clearEvents_hostErrors (v : Word) (u : State) :
    (u.clearEvents .hostErrors v).host.errors = u.host.errors &&& ~~~(bits v 0 6) ∧
      (u.clearEvents .hostErrors v).ports = u.ports ∧
      (u.clearEvents .powerEvents v).pw.events = u.pw.events &&& ~~~(bits v 0 7) := ⟨rfl, rfl, rfl⟩

/-- Settles O53: a READ is `readReq_word` with the check of `checkCfg_acts`, a WRITE `writeReq_word`; a refused one is
`readReq_of_refusal` or `writeReq_of_refusal`. -/
theorem requestsComplete : Obligations.RequestsComplete := by
  unfold Obligations.RequestsComplete
  intro s q addr r v mids h u
  have hports (p : PortId) : u.port p = s.port p := acceptBlk_port s p
  have hbad : u.boot.cfgBad = s.boot.cfgBad := acceptBlk_cfgBad s
  refine ⟨fun size m a href => ?_, fun p size m hshape => ?_, fun hreg hok hs => ?_, fun size m ws a hlen href => ?_,
    fun size m ws hlen => ?_, fun hreg hok hacc hidden => ?_, fun hreg hok hidden => ?_, ?_, ?_, ?_, fun op tag w1 => ?_⟩
  · rw [exec_read h, readReq_of_refusal href]
  · obtain ⟨a, ha⟩ := refusal_of_single (u := u) (q := q) (write := false) (size := size) (vs := []) (n := m.toNat + 1)
      (regAt_txCommit p) rfl (Nat.le_add_left ..) (hshape.imp_right fun hm hone => hm (BitVec.eq_of_toNat_eq (Nat.succ.inj hone)))
    refine ⟨a, ?_⟩
    rw [exec_read h, readReq_of_refusal ha]
  · intro t
    refine ⟨?_, fun hgood => checkCfg_of_good hreg ?_, fun hcfg hmem => ?_⟩
    · rw [exec_read h]
      exact congrArg Host.Outcome.next (readReq_word hreg hok hs)
    · rw [hbad]
      exact hgood
    · have hmem' : addr ∈ u.boot.cfgBad := by rw [hbad]; exact hmem
      obtain ⟨hrec, hport, hresv, hdev⟩ := checkCfg_acts hreg hcfg hmem'
      refine ⟨hrec, fun p x hr => ?_, hresv, fun hr => ?_, fun hr => ?_, fun i hr => ?_, fun p hr => ?_⟩
      · obtain ⟨hf, hc⟩ := hport p x hr
        exact ⟨hf, by rw [← hports]; exact hc⟩
      all_goals
        have hd := hdev (by rintro p x rfl; cases hr) (by rintro p d rfl; cases hr)
      · exact ⟨hd.trkCfg hr, hd.good⟩
      · exact ⟨hd.imgDevice hr, hd.good⟩
      · exact hd.good
      · exact hd.psel p hr
  · rw [exec_write h, writeReq_of_refusal hlen href]
  · rw [exec_write h, writeReq_of_length hlen]
  · have hd : (u.clearEvents r v).dev.changing = u.dev.changing := congrArg Dev.changing (clearEvents_dev r v u)
    rw [exec_write h, exec_registerWrite h]
    exact ⟨congrArg Host.Outcome.next (writeReq_word hreg hok (writeReg_w1c hacc hidden) hd),
      congrArg Host.Outcome.next (writeReq_word hreg hok (writeReg_w1c hacc hidden) hd)⟩
  · rw [exec_registerWrite h]
    exact congrArg Host.Outcome.next (writeReq_word (res := .ok) hreg hok (if_pos hidden) rfl)
  · rw [(clearEvents_hostErrors v u).1]
    rw [acceptBlk_errors]
  · exact (clearEvents_hostErrors v u).2.2
  · exact (clearEvents_hostErrors v u).2.1.trans (acceptBlk_ports s)
  · refine congrArg Host.Outcome.next ((hostCtl_of_blocksFlow _ h.1).trans ?_)
    rfl

end Sys2Proof.Machine
end

section
/-! SUPPORT. QWRITE, TX_COMMIT and RX_CREDIT of a device that serves the host (09 R270 to R275), and the obligation on them. -/

namespace Sys2Proof.Machine

/-! ### What the acceptance and the cells of a QWRITE leave -/

theorem acceptBlk_accepted (s : State) : s.acceptBlk.host.accepted = s.host.accepted + 1 := by
  obtain ⟨x, n, l, a, c, e, h⟩ := acceptBlk_form s
  rw [h]

theorem acceptBlk_qwrites (s : State) : s.acceptBlk.host.qwrites = s.host.qwrites := by
  obtain ⟨x, n, l, a, c, e, h⟩ := acceptBlk_form s
  rw [h]

theorem acceptBlk_commits (s : State) : s.acceptBlk.host.commits = s.host.commits := by
  obtain ⟨x, n, l, a, c, e, h⟩ := acceptBlk_form s
  rw [h]

theorem acceptBlk_stage {s : State} (h : s.hostReady) : s.acceptBlk.boot.stage = .released :=
  (stage_of_offTrunk (acceptBlk_offTrunk s)).trans h.2.1

theorem serving_of_hostReady {s : State} (h : s.hostReady) : s.serving = true := by
  obtain ⟨hflow, hstage, hst⟩ := h
  unfold State.blocksFlow State.trunkOn at hflow
  simp only [Bool.and_eq_true] at hflow
  rw [State.serving, State.released, hstage, hst, hflow.1.1]
  rfl

theorem acceptBlk_present (s : State) (p : PortId) : s.acceptBlk.present p = s.present p :=
  present_of_presentMask (presentMask_acceptBlk s) p

theorem length_qwriteCells (odd : Bool) (ws : List Word) :
    (qwriteCells odd ws).length = 2 * ws.length - (if odd then 1 else 0) := by
  have hall : (ws.map (fun w => [bits w 0 16, bits w 16 16])).flatten.length = 2 * ws.length := by
    induction ws with
    | nil => rfl
    | cons w ws ih =>
      rw [List.map_cons, List.flatten_cons, List.length_append, ih, List.length_cons, List.length_cons, List.length_cons,
        List.length_nil]
      omega
  cases odd
  · exact hall
  · exact (List.length_dropLast ..).trans (congrArg (· - 1) hall)

theorem hostError_qwrites (b : Fin 6) (s : State) : (s.hostError b).host.qwrites = s.host.qwrites := by
  obtain ⟨a, c, e, h⟩ := hostError_form b s
  rw [h]

theorem carry_qwrites (p n) (s : State) : (s.carry p n).host.qwrites = s.host.qwrites := by
  unfold State.carry
  dsimp only
  split
  · exact hostError_qwrites ..
  · rfl

theorem carry_accepted (p n) (s : State) : (s.carry p n).host.accepted = s.host.accepted := by
  unfold State.carry
  dsimp only
  split
  · obtain ⟨a, c, e, h⟩ := hostError_form 4 (s.modPort p (fun x => { x with carried := x.carried + n }))
    rw [h]
    rfl
  · rfl

theorem carry_port (p n) (s : State) : (s.carry p n).port p = { s.port p with carried := (s.port p).carried + n } := by
  unfold State.carry
  dsimp only
  split
  · rw [port_of_hostError, State.port_modPort]
  · rw [State.port_modPort]

/-! ### What the entry of a port's items keeps -/

/-- No operation on a port's items reaches the reads of TX_COMMIT that wait. -/
theorem commits_blind (p : PortId) : ItemBlind p (fun s => s.host.commits) where
  keep _ _ _ := rfl
  modRegion _ _ _ := rfl
  modTie _ _ _ := rfl
  portEvent k s := by
    obtain ⟨a, e, h⟩ := attEvent_form (portSrc p k) s
    rw [h]
  tieEvent g s := by
    obtain ⟨a, e, h⟩ := attEvent_form (tieSrc g) s
    rw [h]
  tieFall _ _ := rfl
  count code s := by
    obtain ⟨a, c, e, h⟩ := count_form code s
    rw [h]
  hostError s := by
    obtain ⟨a, c, e, h⟩ := hostError_form 4 s
    rw [h]

theorem enterQwrites_commits (p : PortId) (order : Nat) (s : State) :
    (s.enterQwrites p order).host.commits = s.host.commits :=
  forEach_keeps (π := fun s => s.host.commits) (fun _ _ _ => (commits_blind p).txEnter ..) _

/-! ### The limits of an RX_CREDIT -/

theorem maskPorts_oneBit (p : PortId) : maskPorts (oneBit 16 p.val) = [p] := by
  revert p
  decide

theorem readPort_txCommit (s : State) (p : PortId) :
    s.readPort p .txCommit = ((s.port p).gaps.setWidth 32 <<< 24) ||| (s.port p).entered.setWidth 32 := by
  unfold State.readPort fld
  simp

/-! ### A QWRITE (R270, R272) -/

/-- A QWRITE as it waits, accepted next. -/
def State.nextQwrite (s : State) (q : Req) (p : PortId) (urgent odd : Bool) (ws : List Word) : QWrite :=
  { q := q, p := p, order := s.host.accepted + 1, beats := ws.length,
    left := qwriteItems urgent (cellItems (qwriteCells odd ws)) 0, failedAt := none }

/-- A QWRITE of a port that is there waits, its cells carried. -/
theorem exec_qwrite_waits {s : State} (hflow : s.blocksFlow = true) (hstage : s.boot.stage = .released) (q : Req) {p : PortId}
    (hpres : s.present p = true) (urgent odd : Bool) {ws : List Word} (hpos : 0 < ws.length) (hmax : ws.length ≤ 64) :
    ∃ t, exec (.qwrite q urgent p odd ws) s = .next t ∧
      t.host.qwrites = s.host.qwrites ++ [s.nextQwrite q p urgent odd ws] ∧
      (t.port p).carried = (s.port p).carried + BitVec.ofNat 24 (2 * ws.length - (if odd then 1 else 0)) ∧
      (t.port p).txq = (s.port p).txq := by
  have hstage' : s.acceptBlk.boot.stage = .released := (stage_of_offTrunk (acceptBlk_offTrunk s)).trans hstage
  have hrun : exec (.qwrite q urgent p odd ws) s = .next (s.acceptBlk.qwriteReq q urgent p odd ws) :=
    congrArg Host.Outcome.next (hostCtl_of_blocksFlow _ hflow)
  refine ⟨_, hrun.trans (congrArg Host.Outcome.next ((if_neg ?_).trans ((if_neg ?_).trans (if_neg ?_)))), ?_, ?_, ?_⟩
  · omega
  · rw [hstage']; decide
  · rw [acceptBlk_present, hpres]; decide
  · dsimp only
    rw [carry_qwrites, carry_accepted, acceptBlk_qwrites, acceptBlk_accepted]
    rfl
  · refine (congrArg Port.carried (carry_port ..)).trans ?_
    rw [acceptBlk_port, length_qwriteCells]
  · refine (congrArg Port.txq (carry_port ..)).trans ?_
    rw [acceptBlk_port]

/-- Settles O54: a QWRITE's cells are carried (`carry_port`) and its items wait; the two reads that wait complete from what
has entered, which no later operation on items takes back (`commits_blind`); an RX_CREDIT of one port is `takeLimit`. -/
theorem hostItemsAct : Obligations.HostItemsAct := by
  intro s q p urgent odd ws n hr u
  have hqwrite : exec (.qwrite q urgent p odd ws) s = .next (u.qwriteReq q urgent p odd ws) :=
    congrArg Host.Outcome.next (hostCtl_of_blocksFlow _ hr.1)
  have hserves := serving_of_hostReady hr
  have hst : s.dev.st = .awake := hr.2.2
  have hlen (hpos : 0 < ws.length) (hmax : ws.length ≤ 64) : ¬(ws.length = 0 ∨ 64 < ws.length) := by omega
  have hlive : ¬(u.boot.stage == .halted) = true := by rw [acceptBlk_stage hr]; decide
  have hcommit : exec (.txCommit q p) s = .next (u.doRead q 2 (0x1030#16 + BitVec.ofNat 16 (0x100 * p.val)) 1) :=
    congrArg Host.Outcome.next (read1_word hr (by rw [txCommitAt_toNat]; omega) (regAt_txCommit p) rfl)
  refine ⟨fun h => ?_, fun hpos hmax habs => ?_, fun hpos hmax hpres => ?_, fun w hw => ?_, fun hpres => ?_, fun habs => ?_,
    fun c hc => ?_, fun hpres => ?_⟩
  · rw [hqwrite]
    exact congrArg Host.Outcome.next (if_pos h)
  · rw [hqwrite]
    refine congrArg Host.Outcome.next ((if_neg (hlen hpos hmax)).trans ((if_neg hlive).trans (if_pos ?_)))
    rw [acceptBlk_present, habs]
    rfl
  · exact exec_qwrite_waits hr.1 hr.2.1 q hpres urgent odd hpos hmax
  · have hrun : ¬(!s.serving || s.dev.st == .sleep) = true := by rw [hserves, hst]; decide
    have heq (x) (hx : x = (let e := s.enterQwrites w.p (w.order + 1)
        let r := { e with host := { e.host with qwrites := e.host.qwrites.filter (fun y => y.order != w.order) } }
        match w.failedAt with
        | none => r.complete w.q 0 0 0 []
        | some k => r.complete w.q 3 (w.beats - k) (BitVec.ofNat 16 k) [])) :
        exec (.qwriteComplete q) s = .next x := by
      refine congrArg Host.Outcome.next ?_
      rw [hw, hx]
      exact if_neg hrun
    refine ⟨fun hf => heq _ ?_, fun k hf => heq _ ?_⟩ <;> rw [hf]
  · rw [hcommit]
    unfold State.doRead
    rw [regAt_txCommit]
    dsimp only
    rw [acceptBlk_present, hpres, if_pos rfl, acceptBlk_commits, acceptBlk_accepted]
  · rw [hcommit]
    unfold State.doRead
    rw [regAt_txCommit]
    dsimp only
    rw [acceptBlk_present, habs]
    rfl
  · have hstore : s.storeOn = true := by rw [State.storeOn, hserves, hst]; rfl
    have hsettled : s.settled c.p c.order = true := by rw [State.settled, hstore, Bool.true_or]
    have heq : exec (.txCommitReturn q) s = .next (
        let e := (s.enterQwrites c.p c.order).tryGap c.p .tx false
        if !(e.port c.p).lossesShown c.order then e
        else
          let t := { e with host := { e.host with commits := e.host.commits.filter (fun y => y.order != c.order) } }
          t.complete c.q 0 0 0 [t.readPort c.p .txCommit]) := by
      refine congrArg Host.Outcome.next ?_
      rw [hc]
      dsimp only
      rw [hserves, hsettled, hstore]
      rfl
    have hkept : ((s.enterQwrites c.p c.order).tryGap c.p .tx false).host.commits = s.host.commits :=
      ((commits_blind c.p).tryGap ..).trans (enterQwrites_commits ..)
    intro e
    refine ⟨fun hshown => ⟨{ e with host := { e.host with commits := e.host.commits.filter (fun y => y.order != c.order) } },
      heq.trans (congrArg Host.Outcome.next ((if_neg (by rw [hshown]; decide)).trans ?_)),
      congrArg (List.filter _) hkept, rfl⟩, fun hhid => heq.trans (congrArg Host.Outcome.next (if_pos (by rw [hhid]; rfl)))⟩
    exact congrArg (fun w => State.complete c.q 0 0 0 [w]
      { e with host := { e.host with commits := e.host.commits.filter (fun y => y.order != c.order) } })
      (readPort_txCommit ..)
  · have heq : exec (.rxCredit (oneBit 16 p.val) [n]) s = .next (u.takeLimit p n) := by
      refine congrArg Host.Outcome.next ((hostCtl_of_blocksFlow _ hr.1).trans ?_)
      refine (if_neg hlive).trans ?_
      rw [maskPorts_oneBit]
      rfl
    have hp : ¬(!u.present p) = true := by rw [acceptBlk_present, hpres]; decide
    have hcar : (u.port p).rxCarried = (s.port p).rxCarried := by rw [acceptBlk_port]
    refine ⟨_, heq, fun hlt => ?_, fun hge => ?_⟩ <;> unfold State.takeLimit <;> rw [if_neg hp, hcar]
    · rw [if_neg (Nat.not_le.mpr hlt), State.port_modPort]
      exact ⟨rfl, rfl, acceptBlk_errors s⟩
    · rw [if_pos hge]
      obtain ⟨a, c, e, h⟩ := hostError_form 5 u
      rw [h]
      exact ⟨acceptBlk_ports s, congrArg (· ||| _) (acceptBlk_errors s)⟩

end Sys2Proof.Machine
end

section
/-! SUPPORT. Bench writes to the IMG registers and the RW registers of a device that serves the host (13 R371, R372; 14 R392;
17 R441, R447 to R449), and the obligation on them. -/

namespace Sys2Proof.Machine

/-! ### What the checks of a bench write read, the block accepted -/

theorem acceptBlk_secure (s : State) (q : Req) : s.acceptBlk.secure q = s.secure q :=
  have := congrArg (fun x : State => x.secure q) (acceptBlk_offTrunk s)
  this

theorem acceptBlk_benchMode (s : State) : s.acceptBlk.benchMode = s.benchMode :=
  have := congrArg State.benchMode (acceptBlk_offTrunk s)
  this

theorem acceptBlk_presentPorts (s : State) : s.acceptBlk.presentPorts = s.presentPorts :=
  have := congrArg State.presentPorts (acceptBlk_offTrunk s)
  this

theorem acceptBlk_shadow (s : State) : s.acceptBlk.boot.shadow = s.boot.shadow :=
  have := congrArg (fun x : State => x.boot.shadow) (acceptBlk_offTrunk s)
  this

theorem acceptBlk_minRxNow (s : State) : s.acceptBlk.minRxNow = s.minRxNow := by
  unfold State.minRxNow
  rw [acceptBlk_presentPorts]
  simp only [acceptBlk_port]

theorem present_of_mem {s : State} {p : PortId} (h : p ∈ s.presentPorts) : s.present p = true := (List.mem_filter.mp h).2

/-! ### A word written to an IMG register -/

/-- How a write to an IMG register answers: with the register written and its parity good, or ignored and flagged (R263). -/
def State.imgAnswer (q : Req) (a : BitVec 16) (u : State) : Option State → State
  | some t => (t.parityGood a).complete q 0 0 0 []
  | none => ((u.recordErr q a).hostError 1).complete q 4 1 0 []

theorem write1_img {s : State} {q : Req} {addr : BitVec 16} {v : Word} {r : Reg} {t : Option State} (h : s.hostReady)
    (halign : addr.toNat % 4 = 0) (hreg : regAt addr.toNat = some r)
    (hok : s.acceptBlk.regRefuses q true true 2 v r = false)
    (hw : s.acceptBlk.writeReg q addr r v [] = imgDone addr s.acceptBlk t)
    (hd : ∀ y, t = some y → y.dev = s.acceptBlk.dev) : s.write1 q addr v [] = s.acceptBlk.imgAnswer q addr t := by
  rcases ht : t with _ | y
  · rw [ht] at hw
    exact write1_still h halign hreg hok hw (acceptBlk_changing s)
  · rw [ht] at hw
    exact write1_still h halign hreg hok hw ((congrArg Dev.changing (hd y ht)).trans (acceptBlk_changing s))

/-- A SEC register hides a write of a non-secure origin (R262). -/
theorem write1_hidden {s : State} {q : Req} {addr : BitVec 16} {v : Word} {r : Reg} (h : s.hostReady)
    (halign : addr.toNat % 4 = 0) (hreg : regAt addr.toNat = some r)
    (hok : s.acceptBlk.regRefuses q true true 2 v r = false) (hsec : r.isSec = true) (hopen : s.secure q = false) :
    s.write1 q addr v [] = s.acceptBlk.complete q 0 0 0 [] := by
  refine write1_still h halign hreg hok (if_pos ?_) (acceptBlk_changing s)
  unfold State.hidden
  rw [hsec, acceptBlk_secure, hopen]
  rfl

theorem visible_of_secure {s : State} {q : Req} {r : Reg} (hsec : s.secure q = true) (habsent : s.acceptBlk.regAbsent r = false) :
    ¬s.acceptBlk.hidden q r = true := by
  unfold State.hidden
  rw [acceptBlk_secure, hsec, habsent]
  simp

/-! ### The addresses -/

theorem pselAt_toNat (p : PortId) : (0x200#16 + BitVec.ofNat 16 (4 * p.val)).toNat = 0x200 + 4 * p.val := by
  have := p.isLt
  simp only [BitVec.toNat_add, BitVec.toNat_ofNat]
  omega

theorem regAt_pselAt (p : PortId) : regAt (0x200#16 + BitVec.ofNat 16 (4 * p.val)).toNat = some (.benchPsel p) := by
  rw [pselAt_toNat]
  revert p
  decide

theorem frameAt_toNat (k : Fin 32) : (0x480#16 + BitVec.ofNat 16 (4 * k.val)).toNat = 0x480 + 4 * k.val := by
  have := k.isLt
  simp only [BitVec.toNat_add, BitVec.toNat_ofNat]
  omega

theorem regAt_frameAt (k : Fin 32) : regAt (0x480#16 + BitVec.ofNat 16 (4 * k.val)).toNat = some (.frameTable k) := by
  rw [frameAt_toNat]
  revert k
  decide

theorem threshAt_toNat (p : PortId) (d : Dir) : (0x10DC#16 + BitVec.ofNat 16 (0x100 * p.val + if d = .rx then 0 else 4)).toNat =
    0x1000 + (0x100 * p.val + if d = .rx then 0xDC else 0xE0) := by
  have := p.isLt
  cases d <;> simp only [BitVec.toNat_add, BitVec.toNat_ofNat, if_true, reduceCtorEq, if_false] <;> omega

theorem regAt_threshAt (p : PortId) (d : Dir) :
    regAt (0x10DC#16 + BitVec.ofNat 16 (0x100 * p.val + if d = .rx then 0 else 4)).toNat = some (.port p (.thresh d)) := by
  rw [threshAt_toNat, regAt_port p (by cases d <;> decide) (by cases d <;> rfl)]
  cases d <;> rfl

theorem threshAt_aligned (p : PortId) (d : Dir) :
    (0x10DC#16 + BitVec.ofNat 16 (0x100 * p.val + if d = .rx then 0 else 4)).toNat % 4 = 0 := by
  rw [threshAt_toNat]
  cases d <;> simp only [if_true, reduceCtorEq, if_false] <;> omega

theorem regAt_rxIlv : regAt 0x6020 = some .rxIlv := regAt_cmd (o := 0x20) (by decide) rfl

/-! ### What a bench write keeps of the device's state -/

theorem imgWinCmd_dev (v : Word) (u : State) : (u.imgWinCmd v).dev = u.dev := by
  unfold State.imgWinCmd State.closeSession
  exact keeps_if (π := State.dev) (keeps_if (π := State.dev) rfl (keeps_if (π := State.dev) rfl rfl)) rfl

theorem setResv_dev (p : PortId) (d : Dir) (n : BitVec 12) (u : State) : (u.setResv p d n).dev = u.dev := by
  unfold State.setResv
  exact ((dev_blind.run p).putQueue ..).trans (dev_blind.modPort ..)

/-! ### When a bench write takes (R371, R392, Table 13.6) -/

theorem writePsel_of_open {u : State} {p : PortId} (hm : u.benchMode = true) (ho : (u.port p).benchOpen = true) (v : Word) :
    u.writePsel p v =
      some ((u.modPort p (fun x => { x with benchEn := v.getLsbD 31, benchLevel := bits v 0 4 })).loadProfile p) :=
  if_pos (by rw [hm, ho]; rfl)

theorem writePsel_of_shut {u : State} {p : PortId} (h : u.benchMode = false ∨ (u.port p).benchOpen = false) (v : Word) :
    u.writePsel p v = none :=
  if_neg (by rcases h with h | h <;> rw [h] <;> simp)

theorem writePsel_dev {u y : State} {p : PortId} {v : Word} (h : u.writePsel p v = some y) : y.dev = u.dev := by
  obtain ⟨-, hy⟩ := Option.ite_none_right_eq_some.mp h
  rw [← Option.some.inj hy]
  rfl

theorem writePortImg_dev {u y : State} {p : PortId} {i : Fin 24} {format : Bool} {v : Word}
    (h : u.writePortImg p i format v = some y) : y.dev = u.dev := by
  obtain ⟨-, hy⟩ := Option.ite_none_right_eq_some.mp h
  rw [← Option.some.inj hy]
  rfl

theorem writeResv_dev {u y : State} {p : PortId} {d : Dir} {n : BitVec 12} (h : u.writeResv p d n = some y) : y.dev = u.dev := by
  obtain ⟨-, hy⟩ := Option.ite_none_right_eq_some.mp h
  rw [← Option.some.inj hy]
  exact setResv_dev ..

/-- A profile that R125's rows of Table 14.6 refuse: a mode of the receive path that its format does not carry. -/
def profileModeBad (w : Vector Word 24) : Prop :=
  (w[7].getLsbD 17 = true ∧ bits w[0] 2 2 ≠ 2#2) ∨ (w[16].getLsbD 0 = true ∧ bits w[0] 2 2 ≠ 1#2)

theorem profileFormOk_eq_false {w : Vector Word 24} (h : profileModeBad w) : profileFormOk w = false := by
  have hrow : (!w[7].getLsbD 17 || bits w[0] 2 2 == 2#2) = false ∨ (!w[16].getLsbD 0 || bits w[0] 2 2 == 1#2) = false := by
    rcases h with ⟨hbit, hne⟩ | ⟨hbit, hne⟩
    · exact .inl (by rw [hbit, beq_false_of_ne hne]; rfl)
    · exact .inr (by rw [hbit, beq_false_of_ne hne]; rfl)
  unfold profileFormOk
  rcases hrow with h | h <;> rw [h] <;> simp

theorem writePortImg_taken {u : State} {p : PortId} {i : Fin 24} {format : Bool} {v : Word}
    (hm : u.benchMode = true) (ho : (u.port p).benchOpen = true)
    (hform : profileFormOk ((u.port p).benchCfg i format v) = true)
    (hflow : profileFlowOk u.minRxNow ((u.port p).benchCfg i format v) = true) :
    u.writePortImg p i format v = some (u.modPort p (fun x =>
      ({ x with cfg := (u.port p).benchCfg i format v } : Port).withLine
        (x.line.forProfile ({ x with cfg := (u.port p).benchCfg i format v } : Port).multidrop))) :=
  if_pos (by rw [hm, ho, hform, hflow]; rfl)

theorem writePortImg_ignored {u : State} {p : PortId} {i : Fin 24} {format : Bool} {v : Word}
    (h : ¬(u.benchMode = true ∧ (u.port p).benchOpen = true) ∨ profileFormOk ((u.port p).benchCfg i format v) = false ∨
      profileFlowOk u.minRxNow ((u.port p).benchCfg i format v) = false) : u.writePortImg p i format v = none := by
  refine if_neg (fun hall => ?_)
  simp only [Bool.and_eq_true] at hall
  obtain ⟨⟨hopen, hform⟩, hflow⟩ := hall
  rcases h with h | h | h
  · exact h hopen
  · rw [h] at hform; cases hform
  · rw [h] at hflow; cases hflow

/-- A profile word pair fits a receive reservation of `n` segments (R162). -/
def flowFits (n : BitVec 12) (w : Vector Word 24) : Prop := bits w[17] 30 2 ≠ 0#2 → (bits w[18] 0 16).toNat < 64 * n.toNat

theorem flowFits_iff (n : BitVec 12) (w : Vector Word 24) :
    (bits w[17] 30 2 == 0#2 || decide ((bits w[18] 0 16).toNat < 64 * n.toNat)) = true ↔ flowFits n w := by
  rw [Bool.or_eq_true, beq_iff_eq, decide_eq_true_iff]
  exact ⟨fun h hne => h.resolve_left hne, fun h => or_iff_not_imp_left.mpr h⟩

/-- The conditions under which a bench write to a reservation takes (Table 13.6, R392). -/
def State.resvTaken (u : State) (p : PortId) (d : Dir) (n : BitVec 12) : Prop :=
  let ps := (regionPorts (regionOf p)).filter u.present
  let total := (ps.map (fun o => (u.port o).resv .rx + (u.port o).resv .tx)).sum - (u.port p).resv d + n.toNat
  u.benchMode = true ∧ (∀ o, o ∈ ps → (u.port o).st = .off ∧ (u.port o).trans = none) ∧
    8 ≤ n.toNat ∧ n.toNat ≤ 2048 ∧ total ≤ 8192 ∧
    (d = .rx → (∀ k : Fin 16, flowFits n u.boot.shadow.profiles[k]) ∧ ∀ o, u.present o = true → flowFits n (u.port o).cfg)

theorem profiles_all_iff (n : BitVec 12) (ps : Vector (Vector Word 24) 16) :
    ps.all (fun w => bits w[17] 30 2 == 0#2 || decide ((bits w[18] 0 16).toNat < 64 * n.toNat)) = true ↔
      ∀ k : Fin 16, flowFits n ps[k] := by
  rw [Vector.all_eq_true]
  exact ⟨fun h k => (flowFits_iff n _).mp (h k.val k.isLt), fun h i hi => (flowFits_iff n _).mpr (h ⟨i, hi⟩)⟩

theorem ports_all_iff (n : BitVec 12) (u : State) :
    u.presentPorts.all (fun o => bits (u.port o).cfg[17] 30 2 == 0#2 ||
      decide ((bits (u.port o).cfg[18] 0 16).toNat < 64 * n.toNat)) = true ↔
      ∀ o, u.present o = true → flowFits n (u.port o).cfg := by
  rw [List.all_eq_true]
  exact ⟨fun h o ho => (flowFits_iff n _).mp (h o (mem_presentPorts ho)),
    fun h o ho => (flowFits_iff n _).mpr (h o (present_of_mem ho))⟩

theorem writeResv_eq (u : State) (p : PortId) (d : Dir) (n : BitVec 12) :
    (u.resvTaken p d n → u.writeResv p d n = some (u.setResv p d n)) ∧ (¬u.resvTaken p d n → u.writeResv p d n = none) := by
  have hdir (b : Bool) : (d == Dir.tx || b) = true ↔ (d = .rx → b = true) := by cases d <;> simp
  have hiff : (u.benchMode && ((regionPorts (regionOf p)).filter u.present).all (fun o =>
        (u.port o).st == .off && (u.port o).trans.isNone) &&
      decide (8 ≤ n.toNat ∧ n.toNat ≤ 2048 ∧ (((regionPorts (regionOf p)).filter u.present).map (fun o =>
        (u.port o).resv .rx + (u.port o).resv .tx)).sum - (u.port p).resv d + n.toNat ≤ Config.maxResv) &&
      (d == .tx || (u.boot.shadow.profiles.all (fun w => bits w[17] 30 2 == 0#2 ||
          decide ((bits w[18] 0 16).toNat < 64 * n.toNat)) &&
        u.presentPorts.all (fun o => bits (u.port o).cfg[17] 30 2 == 0#2 ||
          decide ((bits (u.port o).cfg[18] 0 16).toNat < 64 * n.toNat))))) = true ↔ u.resvTaken p d n := by
    unfold State.resvTaken
    rw [Bool.and_eq_true, Bool.and_eq_true, Bool.and_eq_true, hdir, Bool.and_eq_true, profiles_all_iff, ports_all_iff,
      List.all_eq_true, decide_eq_true_iff]
    simp only [Bool.and_eq_true, beq_iff_eq, Option.isNone_iff_eq_none, and_assoc]
    rfl
  exact ⟨fun h => if_pos (hiff.mpr h), fun h => if_neg (fun hall => h (hiff.mp hall))⟩

theorem resvTaken_acceptBlk (s : State) (p : PortId) (d : Dir) (n : BitVec 12) :
    s.acceptBlk.resvTaken p d n ↔ s.resvTaken p d n := by
  have hpresent : s.acceptBlk.present = s.present := funext (acceptBlk_present s)
  unfold State.resvTaken
  rw [acceptBlk_benchMode, acceptBlk_shadow, hpresent]
  simp only [acceptBlk_port]

/-! ### The frame table -/

theorem writeFrame_of_open {u : State} (hm : u.benchMode = true) (ho : ∀ o, u.present o = true → (u.port o).benchOpen = true)
    (k : Fin 32) (v : Word) : u.writeOtherImg (.frameTable k) v = some (u.setFrames k (v &&& 0xE3FFE3FF#32)) := by
  refine if_pos ?_
  rw [hm, Bool.true_and, List.all_eq_true]
  exact fun o hmem => ho o (present_of_mem hmem)

theorem writeFrame_of_noBench {u : State} (hm : u.benchMode = false) (k : Fin 32) (v : Word) :
    u.writeOtherImg (.frameTable k) v = none := if_neg (by rw [hm]; simp)

theorem writeFrame_dev {u y : State} {k : Fin 32} {v : Word} (h : u.writeOtherImg (.frameTable k) v = some y) :
    y.dev = u.dev := by
  obtain ⟨-, hy⟩ := Option.ite_none_right_eq_some.mp h
  rw [← Option.some.inj hy]
  rfl

/-! ### Each register's word -/

theorem portReg_open {s : State} (q : Req) {p : PortId} {r : Reg} (hsec : r.isSec = false) (hport : r.portOf = some p) (hp : s.present p = true) :
    s.acceptBlk.hidden q r = false := by
  refine hidden_of_open _ q hsec ?_
  unfold State.regAbsent
  rw [hport]
  dsimp only
  rw [acceptBlk_present, hp]
  rfl

section
variable {s : State} (hr : s.hostReady) (q : Req)
include hr

theorem exec_benchPsel {p : PortId} {v : Word} (hsec : s.secure q = true) (hp : s.present p = true) :
    exec (.benchPsel q p v) s = .next (s.acceptBlk.imgAnswer q (0x200#16 + BitVec.ofNat 16 (4 * p.val))
      (s.acceptBlk.writePsel p v)) := by
  have habsent : s.acceptBlk.regAbsent (.benchPsel p) = false := by
    unfold State.regAbsent
    dsimp only [Reg.portOf]
    rw [acceptBlk_present, hp]
    rfl
  exact congrArg Host.Outcome.next (write1_img hr (by rw [pselAt_toNat]; omega) (regAt_pselAt p) rfl
    (if_neg (visible_of_secure hsec habsent)) (fun _ hy => writePsel_dev hy))

theorem exec_imgWrite_frame {k : Fin 32} {v : Word} :
    exec (.imgWrite q (0x480#16 + BitVec.ofNat 16 (4 * k.val)) v) s =
      .next (s.acceptBlk.imgAnswer q (0x480#16 + BitVec.ofNat 16 (4 * k.val)) (s.acceptBlk.writeOtherImg (.frameTable k) v)) :=
  congrArg Host.Outcome.next (write1_img hr (by rw [frameAt_toNat]; omega) (regAt_frameAt k) rfl
    (if_neg (ne_true_of_eq_false (hidden_of_open _ q rfl rfl))) (fun _ hy => writeFrame_dev hy))

theorem exec_imgWrite_port {a : BitVec 16} {p : PortId} {i : Fin 24} {format : Bool} {v : Word} (halign : a.toNat % 4 = 0)
    (hreg : regAt a.toNat = some (.port p (if format then .format else .cfg i))) (hp : s.present p = true) :
    exec (.imgWrite q a v) s = .next (s.acceptBlk.imgAnswer q a (s.acceptBlk.writePortImg p i format v)) := by
  cases format
  · exact congrArg Host.Outcome.next (write1_img hr halign hreg rfl
      (if_neg (ne_true_of_eq_false (portReg_open q rfl rfl hp))) (fun _ hy => writePortImg_dev hy))
  · exact congrArg Host.Outcome.next (write1_img hr halign hreg rfl
      (if_neg (ne_true_of_eq_false (portReg_open q rfl rfl hp))) (fun _ hy => writePortImg_dev hy))

theorem exec_imgWrite_resv {a : BitVec 16} {p : PortId} {d : Dir} {v : Word} (halign : a.toNat % 4 = 0)
    (hreg : regAt a.toNat = some (.resv p d)) (hp : s.present p = true) :
    exec (.imgWrite q a v) s = .next (s.acceptBlk.imgAnswer q a (s.acceptBlk.writeResv p d (bits v 0 12))) :=
  congrArg Host.Outcome.next (write1_img hr halign hreg rfl
    (if_neg (ne_true_of_eq_false (portReg_open q rfl rfl hp))) (fun _ hy => writeResv_dev hy))

theorem exec_registerWrite_thresh {p : PortId} {d : Dir} {v : Word} (hp : s.present p = true) :
    exec (.registerWrite q 2 (0x10DC#16 + BitVec.ofNat 16 (0x100 * p.val + if d = .rx then 0 else 4)) v) s =
      .next ((s.acceptBlk.modPort p (fun x => { x with cfg := match d with
        | .rx => x.cfg.set 20 (v &&& 0xFFFFF#32)
        | .tx => x.cfg.set 21 (v &&& 0xFFFFF#32) })).complete q 0 0 0 []) := by
  have hopen := ne_true_of_eq_false (portReg_open q (r := .port p (.thresh d)) rfl rfl hp)
  have hreg := regAt_threshAt p d
  have halign := threshAt_aligned p d
  generalize 0x10DC#16 + BitVec.ofNat 16 (0x100 * p.val + if d = .rx then 0 else 4) = a at hreg halign ⊢
  cases d
  · exact congrArg Host.Outcome.next (write1_still hr halign hreg rfl (if_neg hopen) (acceptBlk_changing s))
  · exact congrArg Host.Outcome.next (write1_still hr halign hreg rfl (if_neg hopen) (acceptBlk_changing s))

end

/-- Settles O52: a bench write is its register's word (`write1_img`), and each register has its conditions, which read
nothing that the block's acceptance moves. -/
theorem benchWritesAct : Obligations.BenchWritesAct := by
  intro s q p k v hr u pselAt frameAt ignored
  have hmode : u.benchMode = s.benchMode := acceptBlk_benchMode s
  have hport (o : PortId) : u.port o = s.port o := acceptBlk_port s o
  refine ⟨fun hopen => ⟨?_, ?_⟩, fun hsec => ?_, fun hsec hp hm ho => ?_, fun hsec hp hshut => ?_, fun hm ho => ?_, fun hm => ?_,
    fun a i format halign hreg hp => ?_, fun a d halign hreg hp => ?_, fun hp d => exec_registerWrite_thresh hr q hp, ?_⟩
  · exact congrArg Host.Outcome.next (write1_hidden hr (by rw [pselAt_toNat]; omega) (regAt_pselAt p) rfl rfl hopen)
  · exact congrArg Host.Outcome.next (write1_hidden (addr := 0x300) hr rfl regAt_imgWinCtl rfl rfl hopen)
  · exact congrArg Host.Outcome.next (write1_still (addr := 0x300) hr rfl regAt_imgWinCtl rfl
      (if_neg (visible_of_secure hsec rfl)) ((congrArg Dev.changing (imgWinCmd_dev ..)).trans (acceptBlk_changing s)))
  · rw [exec_benchPsel hr q hsec hp, writePsel_of_open (hmode.trans hm) ((congrArg Port.benchOpen (hport p)).trans ho)]
    rfl
  · rw [exec_benchPsel hr q hsec hp, writePsel_of_shut (hshut.imp hmode.trans ((congrArg Port.benchOpen (hport p)).trans ·))]
    rfl
  · rw [exec_imgWrite_frame hr q, writeFrame_of_open (hmode.trans hm)
      (fun o hpres => (congrArg Port.benchOpen (hport o)).trans (ho o ((acceptBlk_present s o).symm.trans hpres)))]
    rfl
  · rw [exec_imgWrite_frame hr q, writeFrame_of_noBench (hmode.trans hm)]
    rfl
  · have himg := exec_imgWrite_port hr q (v := v) halign hreg hp
    have hcfg : (u.port p).benchCfg i format v = (s.port p).benchCfg i format v := by rw [hport]
    have hrx : u.minRxNow = s.minRxNow := acceptBlk_minRxNow s
    have hopenEq : u.benchMode = true ∧ (u.port p).benchOpen = true ↔ s.benchMode = true ∧ (s.port p).benchOpen = true := by
      rw [hmode, hport]
    intro w open_ refused
    refine ⟨fun ho hok => ?_, fun hbad => ?_⟩
    · obtain ⟨hform, hflow⟩ := not_or.mp (not_or.mp (not_or.mp hok).2).2
      rw [himg, writePortImg_taken (hopenEq.mpr ho).1 (hopenEq.mpr ho).2 (by rw [hcfg]; exact Bool.of_not_eq_false hform)
        (by rw [hcfg, hrx]; exact Bool.of_not_eq_false hflow), hcfg]
      rfl
    · have hnone : u.writePortImg p i format v = none := by
        refine writePortImg_ignored ?_
        rw [hopenEq, hcfg, hrx]
        rcases hbad with hshut | hm | hm | hform | hflow
        · exact .inl hshut
        · exact .inr (.inl (profileFormOk_eq_false (.inl hm)))
        · exact .inr (.inl (profileFormOk_eq_false (.inr hm)))
        · exact .inr (.inl hform)
        · exact .inr (.inr hflow)
      rw [himg, hnone]
      rfl
  · have hiff := resvTaken_acceptBlk s p d (bits v 0 12)
    obtain ⟨htake, hleave⟩ := writeResv_eq u p d (bits v 0 12)
    rw [exec_imgWrite_resv hr q halign hreg hp]
    intro n ps total fits taken
    refine ⟨fun ht => ?_, fun ht => ?_⟩
    · rw [htake (hiff.mpr ht)]
      rfl
    · rw [hleave (fun h => ht (hiff.mp h))]
      rfl
  · exact congrArg Host.Outcome.next (write1_still (addr := 0x6020) hr rfl regAt_rxIlv rfl
      (if_neg (ne_true_of_eq_false (hidden_of_open _ q rfl rfl))) (acceptBlk_changing s))

end Sys2Proof.Machine
end

section
/-! SUPPORT. Acknowledgements, rewinds and link blocks (08 R233, R241 to R246), and the obligation on them. -/

namespace Sys2Proof.Machine

/-! ### What an event of the trunk and a count leave of the trunk and the ports -/

theorem count_tr (code : Nat) (s : State) : (s.count code).tr = s.tr := by
  obtain ⟨a, c, e, h⟩ := count_form code s
  rw [h]

theorem countN_tr (code n : Nat) (s : State) : (s.countN code n).tr = s.tr :=
  forEach_keeps (π := State.tr) (f := State.count) (xs := List.replicate n code) (fun c _ t => count_tr c t) s

theorem count_ports (code : Nat) (s : State) : (s.count code).ports = s.ports := by
  obtain ⟨a, c, e, h⟩ := count_form code s
  rw [h]

theorem trkEvent_tr (b : Fin 11) (s : State) :
    (s.trkEvent b).tr = { s.tr with trkEvents := s.tr.trkEvents ||| oneBit 11 b } := by
  obtain ⟨a, c, e, h⟩ := trkEvent_form b s
  rw [h]

theorem trkEvent_ports (b : Fin 11) (s : State) : (s.trkEvent b).ports = s.ports := by
  obtain ⟨a, c, e, h⟩ := trkEvent_form b s
  rw [h]

theorem rewind_tr (s : State) : s.rewind.tr = { s.tr with
    stored := s.tr.stored.map (fun b => { b with sent := true, fresh := false })
    trkEvents := s.tr.trkEvents ||| 1024#11 } := by
  unfold State.rewind
  dsimp only
  rw [countN_tr, countN_tr, trkEvent_tr]
  rfl

/-! ### An acknowledgement (R243, R246) -/

section
variable {s : State} {a : BitVec 12}

theorem ackUpTo_of_sent {k : Nat} (h : s.tr.stored.findIdx? (fun b => b.seq == a && b.sent) = some k) :
    s.ackUpTo a = (s.modTr (fun t => { t with stored := t.stored.drop (k + 1), passing := false }), true) := by
  unfold State.ackUpTo
  rw [h]

theorem ackUpTo_of_mark (h : s.tr.stored.findIdx? (fun b => b.seq == a && b.sent) = none) (ha : a = s.tr.rewindSeq - 1) :
    s.ackUpTo a = (s, true) := by
  unfold State.ackUpTo
  rw [h]
  exact if_pos ha

theorem ackUpTo_of_none (h : s.tr.stored.findIdx? (fun b => b.seq == a && b.sent) = none) (ha : a ≠ s.tr.rewindSeq - 1) :
    s.ackUpTo a = (s.trkEvent 7, false) := by
  unfold State.ackUpTo
  rw [h]
  exact if_neg ha

theorem exec_ackReceived (h : s.blocksFlow = true) : exec (.ackReceived a) s = .next (s.ackUpTo a).1.pump :=
  congrArg Host.Outcome.next (if_pos h)

theorem exec_nakReceived {e : BitVec 12} (h : s.blocksFlow = true) (hvalid : ((s.trkEvent 6).ackUpTo (e - 1)).2 = true) :
    exec (.nakReceived e) s = .next ((s.trkEvent 6).ackUpTo (e - 1)).1.rewind.pump :=
  congrArg Host.Outcome.next ((if_pos h).trans (if_pos hvalid))

/-- A NAK releases the blocks before the one it expects, and every block left is sent again. -/
theorem nakReceived_rewinds {k : Nat} (h : s.blocksFlow = true)
    (hk : s.tr.stored.findIdx? (fun b => b.seq == a && b.sent) = some k) :
    ∃ t : State, exec (.nakReceived (a + 1)) s = .next t.rewind.pump ∧ t.tr.stored = s.tr.stored.drop (k + 1) ∧
      t.tr.trkEvents = s.tr.trkEvents ||| 64#11 ∧ t.ports = s.ports := by
  have hprev : a + 1 - 1 = a := BitVec.add_sub_cancel a 1
  have hstored : (s.trkEvent 6).tr.stored = s.tr.stored := by rw [trkEvent_tr]
  have hack := ackUpTo_of_sent (s := s.trkEvent 6) (a := a) (by rw [hstored]; exact hk)
  refine ⟨_, exec_nakReceived h (by rw [hprev, hack]), ?_, ?_, ?_⟩
  · rw [hprev, hack]
    exact congrArg (List.drop (k + 1)) hstored
  · rw [hprev, hack]
    exact congrArg Trunk.trkEvents (trkEvent_tr 6 s)
  · rw [hprev, hack]
    exact trkEvent_ports 6 s

theorem exec_ackTimer (h : s.blocksFlow = true) : exec .ackTimer s =
    .next ((s.modTr (fun t => { t with linkOut := .ack (t.rxExpect - 1), sinceAck := 0 })).count 0x073) :=
  congrArg Host.Outcome.next (if_pos h)

end

/-! ### The acceptance of a block acknowledges every eighth (R242) -/

theorem acceptBlk_rxExpect (s : State) : s.acceptBlk.tr.rxExpect = s.tr.rxExpect + 1 := by
  unfold State.acceptBlk
  dsimp only
  split
  · rw [count_tr]
    change (State.count 0x072 _).tr.rxExpect + 1 = _
    rw [count_tr]
  · change (State.count 0x072 _).tr.rxExpect + 1 = _
    rw [count_tr]

theorem acceptBlk_eighth {s : State} (h : 7 ≤ s.tr.sinceAck) :
    s.acceptBlk.tr.linkOut = .ack s.tr.rxExpect ∧ s.acceptBlk.tr.sinceAck = 0 := by
  unfold State.acceptBlk
  dsimp only
  rw [count_tr, if_pos (by dsimp only; omega), count_tr]
  refine ⟨?_, rfl⟩
  change LinkBlk.ack (s.tr.rxExpect + 1 - 1) = _
  rw [BitVec.add_sub_cancel]

/-! ### The stall limit (R246) -/

theorem exec_stallLimitExpiry_full {s : State} (h : 2047 ≤ s.tr.stored.length) : exec .stallLimitExpiry s = .next s := by
  refine congrArg Host.Outcome.next (if_neg ?_)
  rw [show decide (s.tr.stored.length < Config.maxStored) = false from decide_eq_false (Nat.not_lt.mpr h)]
  simp

theorem exec_stallLimitExpiry {s : State} {b : BlkBody} (hs : s.serving = true) (hstall : s.tr.stalled = true)
    (hpass : s.tr.passing = false) (hlimit : bits s.boot.trkCfg 16 16 ≠ 0) (hroom : s.tr.stored.length < 2047)
    (hb : s.tr.waitBlk = some b) :
    exec .stallLimitExpiry s = .next (State.place b { s with tr := { s.tr with passing := true } }).pump := by
  refine congrArg Host.Outcome.next ((if_pos ?_).trans ?_)
  · rw [hs, hstall, hpass, show decide (s.tr.stored.length < Config.maxStored) = true from decide_eq_true hroom,
      bne_iff_ne.mpr hlimit]
    rfl
  · unfold State.modTr
    dsimp only
    rw [hb]

/-! ### Link blocks (R241, Table 8.8) -/

theorem bits_or (x y : Word) (lo n : Nat) : bits (x ||| y) lo n = bits x lo n ||| bits y lo n := by
  refine BitVec.eq_of_getLsbD_eq fun i hi => ?_
  simp [bits, hi]

theorem bits_fld_above {m : Nat} (a : BitVec m) {lo n : Nat} (h : m ≤ lo) : bits (fld 0 a) lo n = 0 := by
  refine BitVec.eq_of_getLsbD_eq fun i hi => ?_
  have ha : a.getLsbD (lo + i) = false := BitVec.getLsbD_of_ge a _ (by omega)
  simp [bits, fld, ha]

/-- The WORD0 of a link block: TYPE 8, the subtype and the number. -/
def linkWord (sub : BitVec 4) (n : BitVec 12) : Word := fld 28 8#4 ||| fld 24 sub ||| fld 0 n

theorem linkWord_ack (n : BitVec 12) : fld 28 8#4 ||| fld 0 n = linkWord 0 n :=
  congrArg (· ||| fld 0 n) (by decide : fld 28 8#4 = fld 28 8#4 ||| fld 24 0#4)

section
variable (sub : BitVec 4) (n : BitVec 12)

theorem linkWord_type : bits (linkWord sub n) 28 4 = 8#4 := by
  unfold linkWord
  rw [bits_or, bits_or, bits_fld_above n (by decide)]
  revert sub
  decide

theorem linkWord_subtype : bits (linkWord sub n) 24 4 = sub := by
  unfold linkWord
  rw [bits_or, bits_or, bits_fld_above n (by decide)]
  revert sub
  decide

theorem linkWord_reserved : bits (linkWord sub n) 12 12 = 0#12 := by
  unfold linkWord
  rw [bits_or, bits_or, bits_fld_above n (by decide)]
  revert sub
  decide

theorem linkWord_number : bits (linkWord sub n) 0 12 = n := by
  have hhead : bits (fld 28 8#4 ||| fld 24 sub) 0 12 = 0#12 := by
    revert sub
    decide
  unfold linkWord
  rw [bits_or, hhead, bits_fld_zero n (by decide)]
  exact BitVec.zero_or

theorem blockClass_linkWord : blockClass (linkWord sub n) = some .link := by
  unfold blockClass
  rw [linkWord_type]
  rfl

end

theorem linkBlkOf_ack (n : BitVec 12) : linkBlkOf (linkWord 0 n) = .ack n := by
  unfold linkBlkOf
  rw [blockClass_linkWord, linkWord_subtype, linkWord_number]
  rfl

theorem linkBlkOf_nak (n : BitVec 12) : linkBlkOf (linkWord 1 n) = .nak n := by
  unfold linkBlkOf
  rw [blockClass_linkWord, linkWord_subtype, linkWord_number]
  rfl

theorem linkBytes_of_word0 {b : LinkBlk} {w : Word} (h : b.word0 = some w) :
    b.bytes = wordBytes w ++ cellBytes (crc16 (wordBytes w)) := by
  unfold LinkBlk.bytes
  rw [h]

/-- A link block's word says what it was built from (R241). -/
theorem linkBlkOf_word0 {b : LinkBlk} {w : Word} (h : b.word0 = some w) :
    linkBlkOf w = b ∧ bits w 28 4 = 8#4 ∧ bits w 12 12 = 0#12 := by
  rcases b with _ | n | n
  · cases h
  · rw [← Option.some.inj h, linkWord_ack]
    exact ⟨linkBlkOf_ack n, linkWord_type .., linkWord_reserved ..⟩
  · rw [← Option.some.inj h]
    exact ⟨linkBlkOf_nak n, linkWord_type 1 n, linkWord_reserved 1 n⟩

/-- Settles O57: an acknowledgement releases a prefix of the replay buffer (`ackUpTo_of_sent`), a NAK and the timer rewind
what is left, and the words of the link blocks are read field by field. -/
theorem acknowledgementsAct : Obligations.AcknowledgementsAct := by
  refine ⟨fun s a h => ⟨fun k hk => ⟨?_, nakReceived_rewinds h hk⟩, fun hnone => ⟨fun ha => ?_, fun ha => ?_⟩, fun hne => ?_,
    ?_, ?_, ⟨_, exec_ackTimer h, ?_, ?_, ?_, ?_⟩, acceptBlk_eighth, acceptBlk_rxExpect s, exec_stallLimitExpiry_full,
    fun b hs hstall hpass hlimit hroom hb => exec_stallLimitExpiry hs hstall hpass hlimit hroom hb⟩, fun b w h => ?_⟩
  · rw [exec_ackReceived h, ackUpTo_of_sent hk]
    rfl
  · rw [exec_ackReceived h, ackUpTo_of_mark hnone ha]
  · rw [exec_ackReceived h, ackUpTo_of_none hnone ha]
  · refine congrArg Host.Outcome.next (if_pos ?_)
    rw [h, List.isEmpty_eq_false_iff.mpr hne]
    rfl
  · rw [rewind_tr]
  · rw [rewind_tr]
  · rw [count_tr]
    rfl
  · rw [count_tr]
    rfl
  · rw [count_tr]
    rfl
  · rw [count_ports]
    rfl
  · obtain ⟨hof, htype, hres⟩ := linkBlkOf_word0 h
    refine ⟨hof, htype, hres, ?_⟩
    rw [linkBytes_of_word0 h]
    exact ⟨rfl, rfl, rfl⟩

end Sys2Proof.Machine
end

section
/-! SUPPORT. Host blocks and the framing of a block on the lanes (08 R231, R233, R238, R240; 09 R265, R266), and the
obligation on them. -/

namespace Sys2Proof.Machine

/-! ### What the items of a block leave alone -/

/-- What a malformed block has set and moved, and no operation on items moves again. -/
def State.malformedMarks (s : State) : Bool × Nat × BitVec 12 := (s.host.errors.getLsbD 3, s.host.accepted, s.tr.rxExpect)

theorem malformedMarks_blind (p : PortId) : ItemBlind p State.malformedMarks where
  keep _ _ _ := rfl
  modRegion _ _ _ := rfl
  modTie _ _ _ := rfl
  portEvent k s := by
    obtain ⟨a, e, h⟩ := attEvent_form (portSrc p k) s
    rw [h]
    rfl
  tieEvent g s := by
    obtain ⟨a, e, h⟩ := attEvent_form (tieSrc g) s
    rw [h]
    rfl
  tieFall _ _ := rfl
  count code s := by
    obtain ⟨a, c, e, h⟩ := count_form code s
    rw [h]
    rfl
  hostError s := by
    obtain ⟨a, c, e, h⟩ := hostError_form 4 s
    rw [h]
    unfold State.malformedMarks
    dsimp only
    rw [BitVec.getLsbD_or]
    exact Prod.ext (Bool.or_false _) rfl

theorem malformedLoss_marks (p n order) (s : State) : (s.malformedLoss p n order).malformedMarks = s.malformedMarks := by
  have hb := malformedMarks_blind p
  have hin : (s.enterQwrites p order).malformedMarks = s.malformedMarks :=
    forEach_keeps (π := State.malformedMarks) (fun _ _ _ => hb.txEnter ..) _
  unfold State.malformedLoss
  exact (hb.tieSync ..).trans ((hb.tryGap ..).trans ((hb.addLoss ..).trans ((hb.lossSince ..).trans hin)))

theorem placeData_malformed {b : DataBlk} (h : blkDecode b = none) (order cells gone) (s : State) :
    (s.placeData b order cells gone).malformedMarks = s.malformedMarks := by
  unfold State.placeData
  rw [h]
  exact forEach_keeps (π := State.malformedMarks) (fun _ _ _ => malformedLoss_marks ..) s

/-! ### A data block in sequence (R240, R265, R266) -/

/-- The cells of a block are carried. -/
def State.carryAll (cells : List (PortId × BitVec 24)) (s : State) : State := forEach cells (fun x t => t.carry x.1 x.2) s

theorem carry_rxExpect (p n) (s : State) : (s.carry p n).tr.rxExpect = s.tr.rxExpect := by
  unfold State.carry
  dsimp only
  split
  · obtain ⟨a, c, e, h⟩ := hostError_form 4 (s.modPort p (fun x => { x with carried := x.carried + n }))
    rw [h]
    rfl
  · rfl

theorem carryAll_rxExpect (cells) (s : State) : (s.carryAll cells).tr.rxExpect = s.tr.rxExpect :=
  forEach_keeps (π := fun s => s.tr.rxExpect) (fun _ _ _ => carry_rxExpect ..) s

theorem carryAll_accepted (cells) (s : State) : (s.carryAll cells).host.accepted = s.host.accepted :=
  forEach_keeps (π := fun s => s.host.accepted) (fun _ _ _ => carry_accepted ..) s

section
variable {s : State} {b : DataBlk} (h : s.hostReady)
include h

theorem exec_hostDataBlock {rs : List (PortId × List TxItem)} (hrs : blkDecode b = some rs) : exec (.hostDataBlock b) s =
    .next ((s.acceptBlk.carryAll (s.blkCells b)).placeData b (s.host.accepted + 1) (s.blkCells b) []) := by
  obtain ⟨hflow, hstage, hst⟩ := h
  have hrel : s.released = true := by rw [State.released, hstage]; rfl
  refine congrArg Host.Outcome.next ?_
  rw [← acceptBlk_accepted s, ← carryAll_accepted (s.blkCells b)]
  dsimp only
  rw [hflow, hrel, hst, hrs]
  rfl

theorem exec_hostDataBlock_malformed (hbad : blkDecode b = none) :
    let v := { s.acceptBlk with freeCtr := s.acceptBlk.freeCtr + 16 }
    let w := (v.carryAll (s.blkCells b)).hostError 3
    exec (.hostDataBlock b) s = .next (w.placeData b w.host.accepted (s.blkCells b) []) := by
  obtain ⟨hflow, hstage, hst⟩ := h
  have hrel : s.released = true := by rw [State.released, hstage]; rfl
  refine congrArg Host.Outcome.next ?_
  rw [hflow, hrel, hst, hbad]
  rfl

theorem hostDataBlock_malformed (hbad : blkDecode b = none) : ∃ t, exec (.hostDataBlock b) s = .next t ∧
    t.host.errors.getLsbD 3 = true ∧ t.host.accepted = s.host.accepted + 1 ∧ t.tr.rxExpect = s.tr.rxExpect + 1 := by
  refine ⟨_, exec_hostDataBlock_malformed h hbad, ?_⟩
  generalize hv : ({ s.acceptBlk with freeCtr := s.acceptBlk.freeCtr + 16 } : State) = v
  have hacc : (v.carryAll (s.blkCells b)).host.accepted = s.host.accepted + 1 := by
    rw [carryAll_accepted, ← hv]
    exact acceptBlk_accepted s
  have hexp : (v.carryAll (s.blkCells b)).tr.rxExpect = s.tr.rxExpect + 1 := by
    rw [carryAll_rxExpect, ← hv]
    exact acceptBlk_rxExpect s
  generalize v.carryAll (s.blkCells b) = w at hacc hexp ⊢
  have hplaced := placeData_malformed hbad (w.hostError 3).host.accepted (s.blkCells b) [] (w.hostError 3)
  generalize State.placeData b _ _ _ _ = t at hplaced ⊢
  obtain ⟨a, c, e, hform⟩ := hostError_form 3 w
  rw [hform] at hplaced
  have hset : (w.host.errors ||| oneBit 6 (3 : Fin 6)).getLsbD 3 = true := getLsbD_or_oneBit (by decide) _
  exact ⟨(congrArg Prod.fst hplaced).trans hset, (congrArg (fun x => x.2.1) hplaced).trans hacc,
    (congrArg (fun x => x.2.2) hplaced).trans hexp⟩

end

/-! ### A block discarded (R238, R240) -/

theorem discardBlk_form (s : State) : ∃ a c e, s.discardBlk = { s with
    att := a, cnt := c, boot := { s.boot with early := e }
    tr := { s.tr with discards := satInc s.tr.discards, trkEvents := s.tr.trkEvents ||| 32#11 } } :=
  trkEvent_form 5 (s.modTr (fun t => { t with discards := satInc t.discards }))

/-- A block that fails its check is counted and changes neither the numbers, nor the ports and requests. -/
theorem discardBlk_discards (s : State) : s.discardBlk.tr.discards = satInc s.tr.discards ∧
    s.discardBlk.tr.trkEvents = s.tr.trkEvents ||| 32#11 ∧ s.discardBlk.tr.rxExpect = s.tr.rxExpect ∧
    s.discardBlk.ports = s.ports ∧ s.discardBlk.host = s.host := by
  obtain ⟨a, c, e, h⟩ := discardBlk_form s
  rw [h]
  exact ⟨rfl, rfl, rfl, rfl, rfl⟩

section
variable {s : State} (h : s.blocksFlow = true)
include h

theorem exec_blockDiscard_bad {why : DiscardWhy} (hwhy : why = .crc ∨ why = .escapes ∨ (∃ k, why = .aborted k) ∨
    ∃ w, why = .reservedType w ∧ blockClass w = none) :
    exec (.blockDiscard why) s = .next s.discardBlk ∨ ∃ k, exec (.blockDiscard why) s = .next (s.codeErrs k 1).discardBlk := by
  have hrun : ¬(!s.blocksFlow) = true := by rw [h]; decide
  rcases hwhy with rfl | rfl | ⟨k, rfl⟩ | ⟨w, rfl, hw⟩
  · exact .inl (congrArg Host.Outcome.next (if_neg hrun))
  · exact .inl (congrArg Host.Outcome.next (if_neg hrun))
  · rcases k with _ | k
    · exact .inl (congrArg Host.Outcome.next (if_neg hrun))
    · exact .inr ⟨k, congrArg Host.Outcome.next (if_neg hrun)⟩
  · exact .inl (congrArg Host.Outcome.next ((if_neg hrun).trans (if_pos (by rw [hw]; rfl))))

theorem exec_blockDiscard_dup {seq : BitVec 12} {ten : Bool} (hdup : (s.tr.rxExpect - seq).toNat ≤ 2047) :
    exec (.blockDiscard (.outOfSeq seq ten)) s = .next s :=
  congrArg Host.Outcome.next ((if_neg (by rw [h]; decide)).trans (if_pos hdup))

theorem exec_blockDiscard_asked {seq : BitVec 12} (hseq : 2047 < (s.tr.rxExpect - seq).toNat)
    (hnak : s.tr.nakFor = some s.tr.rxExpect) : exec (.blockDiscard (.outOfSeq seq false)) s = .next s :=
  congrArg Host.Outcome.next ((if_neg (by rw [h]; decide)).trans ((if_neg (Nat.not_le.mpr hseq)).trans
    (if_pos (by rw [hnak, beq_self_eq_true]; rfl))))

theorem exec_blockDiscard_nak {seq : BitVec 12} {ten : Bool} (hseq : 2047 < (s.tr.rxExpect - seq).toNat)
    (hdue : s.tr.nakFor ≠ some s.tr.rxExpect ∨ ten = true) : exec (.blockDiscard (.outOfSeq seq ten)) s =
      .next ((s.modTr (fun t => { t with linkOut := .nak t.rxExpect, nakFor := some t.rxExpect, sinceAck := 0 })).count 0x073) := by
  refine congrArg Host.Outcome.next ((if_neg (by rw [h]; decide)).trans ((if_neg (Nat.not_le.mpr hseq)).trans (if_neg ?_)))
  rcases hdue with hne | hten
  · rw [beq_false_of_ne hne]
    simp
  · rw [hten]
    simp

end

/-! ### A block on the lanes (R231) -/

theorem dvd_column {w : Nat} (hw : 0 < w) (n : Nat) : (n + (w - n % w) % w) % w = 0 := by
  have hlt := Nat.mod_lt n hw
  have hsum : n + (w - n % w) = w * (n / w + 1) := by
    have := Nat.div_add_mod n w
    rw [Nat.mul_add, Nat.mul_one]
    omega
  rw [Nat.add_mod_mod, hsum, Nat.mul_mod_right]

theorem length_frameSyms (w : Nat) (bytes : List Byte) :
    (frameSyms w bytes).length = bytes.length + 2 + (w - (bytes.length + 2) % w) % w := by
  unfold frameSyms
  simp only [List.length_append, List.length_cons, List.length_map, List.length_nil, List.length_replicate]

/-- How many of the numbers below `j` are `j` modulo `w`. -/
theorem length_lane_below {w : Nat} (hw : 0 < w) {xs : List Sym} {j : Nat} (hj : j ≤ xs.length) :
    (((xs.take j).zipIdx).filter (fun x => x.2 % w == j % w)).length = j / w := by
  rw [← List.countP_eq_length_filter]
  have hmap : ((xs.take j).zipIdx).countP (fun x => x.2 % w == j % w) =
      (((xs.take j).zipIdx).map Prod.snd).countP (fun i => i % w == j % w) := by
    rw [List.countP_map]
    rfl
  have hidx : ((xs.take j).zipIdx).map Prod.snd = List.range j := by
    rw [List.zipIdx_map_snd, List.length_take, Nat.min_eq_left hj, List.range_eq_range']
  have hcount : (List.range j).countP (fun i => i % w == j % w) = j / w + if j % w < j % w then 1 else 0 :=
    Nat.count_modEq_card j hw j
  rw [hmap, hidx, hcount, if_neg (Nat.lt_irrefl _), Nat.add_zero]

theorem laneSyms_getElem? {w : Nat} (hw : 0 < w) (xs : List Sym) {j : Nat} (hj : j < xs.length) :
    (laneSyms w (j % w) xs)[j / w]? = some xs[j] := by
  have hsplit : xs = xs.take j ++ xs[j] :: xs.drop (j + 1) := by
    rw [← List.drop_eq_getElem_cons hj, List.take_append_drop]
  have hlen : (xs.take j).length = j := by rw [List.length_take]; omega
  have hlane : laneSyms w (j % w) xs = (((xs.take j).zipIdx).filter (fun x => x.2 % w == j % w)).map Prod.fst ++
      xs[j] :: (((xs.drop (j + 1)).zipIdx (j + 1)).filter (fun x => x.2 % w == j % w)).map Prod.fst := by
    conv_lhs => rw [laneSyms, hsplit]
    rw [List.zipIdx_append, List.filter_append, List.map_append, hlen, Nat.zero_add, List.zipIdx_cons,
      List.filter_cons_of_pos (by exact beq_self_eq_true _), List.map_cons]
  rw [hlane, List.getElem?_append_right (by rw [List.length_map, length_lane_below hw hj.le]), List.length_map,
    length_lane_below hw hj.le, Nat.sub_self, List.getElem?_cons_zero]

section
variable (w : Nat) (bytes : List Byte)

theorem frameSyms_eq : frameSyms w bytes = symK 27 7 :: (bytes.map Sym.d ++ symK 29 7 ::
    List.replicate ((w - (bytes.length + 2) % w) % w) (symK 23 7)) := by
  simp [frameSyms]

theorem frameSyms_end : (frameSyms w bytes)[bytes.length + 1]? = some (symK 29 7) := by
  rw [frameSyms_eq, List.getElem?_cons_succ, List.getElem?_append_right (by rw [List.length_map]), List.length_map, Nat.sub_self,
    List.getElem?_cons_zero]

theorem frameSyms_pad {k : Nat} (hk : bytes.length + 2 ≤ k) (hlt : k < (frameSyms w bytes).length) :
    (frameSyms w bytes)[k]? = some (symK 23 7) := by
  obtain ⟨m, rfl⟩ := Nat.exists_eq_add_of_le hk
  rw [length_frameSyms] at hlt
  rw [frameSyms_eq, show bytes.length + 2 + m = bytes.length + (m + 1) + 1 by omega, List.getElem?_cons_succ,
    List.getElem?_append_right (by rw [List.length_map]; omega), List.length_map, Nat.add_sub_cancel_left,
    List.getElem?_cons_succ, List.getElem?_replicate_of_lt (by omega)]

theorem frameSyms_byte {i : Nat} (h : i < bytes.length) : (frameSyms w bytes)[i + 1]? = some (.d bytes[i]) := by
  rw [frameSyms_eq, List.getElem?_cons_succ, List.getElem?_append_left (by rw [List.length_map]; exact h), List.getElem?_map,
    List.getElem?_eq_getElem h]
  rfl

end

/-- Settles O56: a data block in sequence is carried and placed, a malformed one sets its bit, which no placing clears
(`placeData_malformed`); a block that is not accepted has one answer per reason; and a lane carries every `w`-th symbol
(`laneSyms_getElem?`). -/
theorem hostBlocksAct : Obligations.HostBlocksAct := by
  refine ⟨fun s b st => ⟨fun h rs hrs => ⟨exec_hostDataBlock h hrs, ?_⟩, hostDataBlock_malformed, fun h why hwhy => ?_,
    fun h seq ten => exec_blockDiscard_dup h, fun h seq ten hseq => ⟨exec_blockDiscard_asked h hseq, fun hdue => ?_⟩, rfl⟩,
    fun w bytes hw => ⟨?_, ?_, frameSyms_end w bytes, fun k hk => frameSyms_pad w bytes hk, fun i hi => ?_⟩⟩
  · exact (carryAll_rxExpect ..).trans (acceptBlk_rxExpect s)
  · rcases exec_blockDiscard_bad h hwhy with hx | ⟨k, hx⟩
    · exact ⟨_, hx, discardBlk_discards s⟩
    · exact ⟨_, hx, discardBlk_discards (s.codeErrs k 1)⟩
  · refine ⟨_, exec_blockDiscard_nak h hseq hdue, ?_⟩
    rw [count_tr, count_ports]
    exact ⟨rfl, rfl, rfl, rfl, rfl⟩
  · rw [length_frameSyms]
    exact dvd_column hw _
  · rw [frameSyms_eq]
    rfl
  · have hlt : i + 1 < (frameSyms w bytes).length := by rw [length_frameSyms]; omega
    rw [laneSyms_getElem? hw _ hlt, ← frameSyms_byte w bytes hi, List.getElem?_eq_getElem hlt]

end Sys2Proof.Machine
end

section
/-! SUPPORT. What the tie rounds' upkeep can change, the ends of transmission, the port's own codes, the rate steps (04 R114 to
R121; 06 R163 to R177), and the obligations on them. -/

namespace Sys2Proof.Machine

/-! ### The upkeep of the tie rounds (R171 to R175) -/

/-- The state with other tie rounds, and the attention unit told. -/
def State.Retied (s t : State) : Prop := ∃ ts a e, t = { s with ties := ts, att := a, boot := { s.boot with early := e } }

theorem State.Retied.refl (s : State) : s.Retied s := ⟨s.ties, s.att, s.boot.early, rfl⟩

theorem State.Retied.trans {s t u : State} (h : s.Retied t) (h' : t.Retied u) : s.Retied u := by
  obtain ⟨ts, a, e, rfl⟩ := h
  obtain ⟨ts', a', e', rfl⟩ := h'
  exact ⟨ts', a', e', rfl⟩

theorem modTie_retied (g : Fin 4) (f : Tie → Tie) (s : State) : s.Retied (s.modTie g f) := ⟨_, s.att, s.boot.early, rfl⟩

theorem attEvent_retied (i : SrcId) (s : State) : s.Retied (s.attEvent i) := by
  obtain ⟨a, e, h⟩ := attEvent_form i s
  exact ⟨s.ties, a, e, h⟩

theorem attFall_retied (i : SrcId) (s : State) : s.Retied (s.attFall i) := ⟨s.ties, _, s.boot.early, rfl⟩

theorem tieReady_retied (g : Fin 4) (s : State) : s.Retied (s.tieReady g) := by
  unfold State.tieReady
  dsimp only
  split
  · exact State.Retied.refl s
  · split
    · exact (modTie_retied ..).trans (attEvent_retied ..)
    · exact (modTie_retied ..).trans (attFall_retied ..)

theorem tieOpen_retied (g : Fin 4) (s : State) : s.Retied (s.tieOpen g) := by
  unfold State.tieOpen
  exact modTie_retied g _ s
theorem tieLeave_retied (p : PortId) (g : Fin 4) (s : State) : s.Retied (s.tieLeave p g) := modTie_retied g _ s

theorem tieRounds_retied (gs : List (Fin 4)) (s : State) : s.Retied (forEach gs (fun g t => (t.tieOpen g).tieReady g) s) :=
  forEach_upholds (I := s.Retied) (fun g _ _ h => h.trans ((tieOpen_retied g _).trans (tieReady_retied g _))) (State.Retied.refl s)

/-- A port that waits at its TIE mark, or at none. -/
def Port.waitingAt (x : Port) (w : Option (Fin 4)) : Port := { x with flow := { x.flow with tieWait := w } }

theorem modPort_waitingAt_self (p : PortId) (s : State) :
    s.modPort p (fun x => x.waitingAt (s.port p).flow.tieWait) = s := by
  refine congrArg (fun v : Vector Port 16 => ({ s with ports := v } : State)) ?_
  exact Vector.set_getElem_self p.isLt

theorem port_of_retied {s t : State} (h : s.Retied t) (q : PortId) : t.port q = s.port q := by
  obtain ⟨ts, a, e, rfl⟩ := h
  rfl

/-- The group at whose TIE mark a port waits (R171). -/
def State.tieMark (s : State) (p : PortId) : Option (Fin 4) :=
  match (s.port p).tieHead with
  | some g => if (s.tie g).members.getLsbD p.val then some g else none
  | none => none

/-- A port waits at `w` from now on, and leaves the round at whose mark it waited. -/
def State.moveWait (p : PortId) (w : Option (Fin 4)) (s : State) : State :=
  match (s.port p).flow.tieWait with
  | some g => (s.modPort p (fun x => x.waitingAt w)).tieLeave p g
  | none => s.modPort p (fun x => x.waitingAt w)

theorem tieSync_eq (p : PortId) (s : State) : s.tieSync p = forEach (List.finRange 4) (fun g t => (t.tieOpen g).tieReady g)
    (if s.tieMark p == (s.port p).flow.tieWait then s else s.moveWait p (s.tieMark p)) := rfl

theorem moveWait_retied (p : PortId) (w : Option (Fin 4)) (s : State) :
    (s.modPort p (fun x => x.waitingAt w)).Retied (s.moveWait p w) := by
  unfold State.moveWait
  split
  · exact tieLeave_retied ..
  · exact State.Retied.refl _

/-- The upkeep after a port's sequence changed moves where the port waits, and the rounds. -/
theorem tieSync_retied (p : PortId) (s : State) : ∃ w, (s.modPort p (fun x => x.waitingAt w)).Retied (s.tieSync p) := by
  rw [tieSync_eq]
  rcases hsame : s.tieMark p == (s.port p).flow.tieWait with _ | _
  · rw [if_neg Bool.false_ne_true]
    exact ⟨_, (moveWait_retied p _ s).trans (tieRounds_retied ..)⟩
  · refine ⟨(s.port p).flow.tieWait, ?_⟩
    rw [if_pos rfl, modPort_waitingAt_self]
    exact tieRounds_retied ..

theorem tieSync_port (p : PortId) (s : State) : ∃ w, (s.tieSync p).port p = (s.port p).waitingAt w := by
  obtain ⟨w, h⟩ := tieSync_retied p s
  exact ⟨w, (port_of_retied h p).trans (State.port_modPort ..)⟩

end Sys2Proof.Machine
end

section
/-! SUPPORT. The ends of transmission, the port's own codes and the rate steps (04 R114 to R121; 06 R161 to R167), and the
obligations on them. -/

namespace Sys2Proof.Machine

/-! ### What the events and the upkeep leave of their port -/

theorem tieSync_hull (p : PortId) (s : State) : ((s.tieSync p).port p).hull = (s.port p).hull := (hull_blind p).tieSync s

theorem tieSync_tx (p : PortId) (s : State) : ((s.tieSync p).port p).tx = (s.port p).tx := by
  obtain ⟨w, h⟩ := tieSync_port p s
  rw [h]
  rfl

theorem portCount_port (e : Nat) (p q : PortId) (s : State) : (s.portCount e p).port q = s.port q := port_of_count ..

theorem flowEvent_port (b : Fin 3) (p : PortId) (s : State) : (s.flowEvent b p).port p =
    { s.port p with flow := { (s.port p).flow with events := (s.port p).flow.events ||| oneBit 3 b } } := by
  unfold State.flowEvent
  rw [port_of_attEvent, portCount_port, State.port_modPort]

theorem modPort_modPort (p : PortId) (f g : Port → Port) (s : State) :
    (s.modPort p f).modPort p g = s.modPort p (fun x => g (f x)) := by
  refine congrArg (fun v : Vector Port 16 => ({ s with ports := v } : State)) ?_
  rw [State.port_modPort]
  exact Vector.set_set ..

/-- Settles O38: each command moves one field of its port's transmitter or flow controller, and the upkeep of the ties that
follows moves none of them (`tieSync_tx`). -/
theorem transmitterRests : Obligations.TransmitterRests := by
  intro s p hs hp x
  refine ⟨fun hbusy => ?_, fun hhalf hdrv hidle => ?_, fun hrun => ?_, fun hheld hwarn hlong => ?_⟩
  · refine ⟨_, congrArg Host.Outcome.next (if_pos ?_), ?_, (tieSync_steady ..).trans (modTx_steady ..)⟩
    · rw [hs, hp, bne_iff_ne.mpr hbusy]
      rfl
    · rw [tieSync_tx]
      exact congrArg (fun x : Port => x.tx.now) (State.port_modPort ..)
  · refine congrArg Host.Outcome.next ((if_pos ?_).trans ?_)
    · rw [hs, hp, show (s.port p).halfDuplex = true from hhalf, show (s.port p).tx.driver = true from hdrv,
        show (s.port p).tx.now = .idle from hidle]
      rfl
    · exact modPort_modPort ..
  · refine ⟨_, congrArg Host.Outcome.next (if_pos ?_), ?_, (tieSync_steady ..).trans (modTx_steady ..)⟩
    · rw [hs, hp, show (s.port p).inRun = true from hrun]
      rfl
    · rw [tieSync_tx]
      exact congrArg (fun x : Port => x.tx.paceCount) (State.port_modPort ..)
  · refine ⟨_, congrArg Host.Outcome.next (if_pos ?_), ?_, ?_, (flowEvent_steady ..).trans (modFlow_steady ..)⟩
    · rw [hs, hp, show (s.port p).flow.held = true from hheld, show (s.port p).flow.holdWarned = false from hwarn,
        decide_eq_true (show 0 < (s.port p).holdWarn from hlong)]
      rfl
    · rw [flowEvent_port, State.modFlow, State.port_modPort]
    · rw [flowEvent_port, State.modFlow, State.port_modPort]
      rfl

/-! ### The port's own codes (R163, R164, R166) -/

/-- The transmitter busy with a code of the port's own: neither paced nor charged. -/
def Port.coding (x : Port) (v : BitVec 9) : Port := { x with tx := { x.tx with now := .code v, driver := true, backoff := false } }

theorem startCode_port (p : PortId) (v : BitVec 9) (s : State) : (s.startCode p v).port p = (s.port p).coding v :=
  State.port_modPort ..

theorem holdPaid_port (p : PortId) (s : State) : (s.holdPaid p).port p = s.port p := rfl

section
variable {s : State} {p : PortId} {mid : Mid} (hdrive : s.mayDrive p mid = true)
include hdrive

/-- A hold that is due (R163). -/
theorem flowCodeSend_hold (hdue : s.holdDue p = true) (hentry : (s.port p).flow.entryResume = false) :
    ∃ t w, exec (.flowCodeSend ⟨p, mid⟩) s = .next t ∧ t.steady = s.steady ∧
      t.port p = (({ s.port p with flow := { (s.port p).flow with holdSent := true, holdsTx := satInc (s.port p).flow.holdsTx } } :
        Port).coding ((s.port p).codeValue 0x1F0 (s.port p).holdCode)).waitingAt w := by
  have hrun : exec (.flowCodeSend ⟨p, mid⟩) s = .next (State.tieSync p (State.portCount 35 p (State.startCode p
      ((s.port p).codeValue 0x1F0 (s.port p).holdCode) (State.holdPaid p (s.modFlow p (fun f =>
        { f with holdSent := true, holdsTx := satInc f.holdsTx })))))) :=
    congrArg Host.Outcome.next ((if_neg (by rw [hdrive]; decide)).trans (if_pos (by rw [hdue, hentry]; rfl)))
  obtain ⟨w, hw⟩ := tieSync_port p (State.portCount 35 p (State.startCode p
      ((s.port p).codeValue 0x1F0 (s.port p).holdCode) (State.holdPaid p (s.modFlow p (fun f =>
        { f with holdSent := true, holdsTx := satInc f.holdsTx })))))
  refine ⟨_, w, hrun, (tieSync_steady ..).trans ((portCount_steady ..).trans ((startCode_steady ..).trans
    ((modRegion_steady _ (regionOf p) _).trans (modFlow_steady ..)))), ?_⟩
  rw [hw, portCount_port, startCode_port, holdPaid_port, State.modFlow, State.port_modPort]

/-- A resume that is due (R163, R339). -/
theorem flowCodeSend_resume (hhold : (s.holdDue p && !(s.port p).flow.entryResume) = false) (hdue : s.resumeDue p = true) :
    ∃ t w, exec (.flowCodeSend ⟨p, mid⟩) s = .next t ∧ t.steady = s.steady ∧
      t.port p = (({ s.port p with flow := { (s.port p).flow with holdSent := false, entryResume := false } } : Port).coding
        ((s.port p).codeValue 0x1F1 (s.port p).resumeCode)).waitingAt w := by
  have hrun : exec (.flowCodeSend ⟨p, mid⟩) s = .next (State.tieSync p (State.startCode p
      ((s.port p).codeValue 0x1F1 (s.port p).resumeCode) (s.modFlow p (fun f =>
        { f with holdSent := false, entryResume := false })))) :=
    congrArg Host.Outcome.next ((if_neg (by rw [hdrive]; decide)).trans ((if_neg (ne_true_of_eq_false hhold)).trans (if_pos hdue)))
  obtain ⟨w, hw⟩ := tieSync_port p (State.startCode p
      ((s.port p).codeValue 0x1F1 (s.port p).resumeCode) (s.modFlow p (fun f =>
        { f with holdSent := false, entryResume := false })))
  refine ⟨_, w, hrun, (tieSync_steady ..).trans ((startCode_steady ..).trans (modFlow_steady ..)), ?_⟩
  rw [hw, startCode_port, State.modFlow, State.port_modPort]

/-- A credit code that is due (R166). -/
theorem flowCodeSend_credit {k : Nat} (hhold : s.holdDue p = false) (hresume : s.resumeDue p = false)
    (hdue : s.creditDue p = some k) :
    ∃ t w, exec (.flowCodeSend ⟨p, mid⟩) s = .next t ∧ t.steady = s.steady ∧
      t.port p = (({ s.port p with flow := { (s.port p).flow with
        rxOutstanding := (s.port p).flow.rxOutstanding + BitVec.ofNat 14 (2 ^ k) } } : Port).coding
        (BitVec.ofNat 9 (0x1F2 + k))).waitingAt w := by
  have hrun : exec (.flowCodeSend ⟨p, mid⟩) s = .next (State.tieSync p (State.startCode p
      (BitVec.ofNat 9 (0x1F2 + k)) (s.modFlow p (fun f =>
        { f with rxOutstanding := f.rxOutstanding + BitVec.ofNat 14 (2 ^ k) })))) := by
    refine congrArg Host.Outcome.next ((if_neg (by rw [hdrive]; decide)).trans ((if_neg ?_).trans ((if_neg ?_).trans ?_)))
    · rw [hhold]
      exact Bool.false_ne_true
    · exact ne_true_of_eq_false hresume
    · rw [hdue]
  obtain ⟨w, hw⟩ := tieSync_port p (State.startCode p
      (BitVec.ofNat 9 (0x1F2 + k)) (s.modFlow p (fun f =>
        { f with rxOutstanding := f.rxOutstanding + BitVec.ofNat 14 (2 ^ k) })))
  refine ⟨_, w, hrun, (tieSync_steady ..).trans ((startCode_steady ..).trans (modFlow_steady ..)), ?_⟩
  rw [hw, startCode_port, State.modFlow, State.port_modPort]

end

theorem resumeDue_of_entry {s : State} {p : PortId} (hmode : (s.port p).fcMode ≠ 0)
    (hentry : (s.port p).flow.entryResume = true) : s.resumeDue p = true := by
  unfold State.resumeDue
  dsimp only
  rw [hentry, bne_iff_ne.mpr hmode]
  rfl

/-- Settles O39: each code has its equation in the order in which the codes are due, and the upkeep of the ties moves no
field that the statement names. -/
theorem flowCodesSent : Obligations.FlowCodesSent := by
  intro s p mid hdrive x
  refine ⟨fun hdue hentry => ?_, fun hresume => ?_, fun k hhold hresume hdue => ?_⟩
  · obtain ⟨t, w, hrun, hsteady, hport⟩ := flowCodeSend_hold hdrive hdue hentry
    refine ⟨t, hrun, ?_⟩
    rw [hport]
    exact ⟨rfl, rfl, rfl, rfl, rfl, rfl, hsteady⟩
  · have hcond : (s.holdDue p && !(s.port p).flow.entryResume) = false ∧ s.resumeDue p = true := by
      rcases hresume with ⟨hmode, hentry⟩ | ⟨hhold, hdue⟩
      · exact ⟨by rw [show (s.port p).flow.entryResume = true from hentry]; simp, resumeDue_of_entry hmode hentry⟩
      · exact ⟨by rw [hhold]; rfl, hdue⟩
    obtain ⟨t, w, hrun, hsteady, hport⟩ := flowCodeSend_resume hdrive hcond.1 hcond.2
    refine ⟨t, hrun, ?_⟩
    rw [hport]
    exact ⟨rfl, rfl, rfl, rfl, hsteady⟩
  · obtain ⟨t, w, hrun, hsteady, hport⟩ := flowCodeSend_credit hdrive hhold hresume hdue
    refine ⟨t, hrun, ?_⟩
    rw [hport]
    exact ⟨rfl, rfl, hsteady⟩

end Sys2Proof.Machine
end

section
/-! SUPPORT. The rate steps (04 R115, R116; 06 R161), and the obligation on them. -/

namespace Sys2Proof.Machine

/-! ### An event of CHAR_EVENTS -/

theorem charEvent_charEvents (b : Fin 7) (p : PortId) (s : State) :
    ((s.charEvent b p).port p).rx.charEvents = (s.port p).rx.charEvents ||| oneBit 7 b := by
  have hide (x : Port) : (x.hide 2 b.val).rx = x.rx := by unfold Port.hide; split <;> rfl
  unfold State.charEvent State.tell State.markChar
  rw [port_of_attEvent, State.port_modPort, portCount_port, State.port_modPort]
  unfold Port.reveal
  dsimp only
  rw [hide]

theorem charEvent_hull (b : Fin 7) (p : PortId) (s : State) : ((s.charEvent b p).port p).hull = (s.port p).hull :=
  (hull_blind p).charEvent b s

/-! ### A step that both directions have taken -/

theorem stepDone_hull (fd : Bool) (x : Port) : (x.stepDone fd).hull = (x.hull.stepDone fd).hull := by
  rcases hc : (x.fastEntry fd x.rate.pendEntry && !x.rate.fcFast && x.fcMode == 2) with _ | _
  all_goals
    have hc' : (x.hull.fastEntry fd x.hull.rate.pendEntry && !x.hull.rate.fcFast && x.hull.fcMode == 2) = _ := hc
    unfold Port.stepDone
    dsimp only
    rw [hc, hc']
    rfl

theorem rateDone_of_waiting {s : State} {p : PortId} (h : ((s.port p).rate.rxTaken && (s.port p).rate.txTaken) = false) :
    s.rateDone p = s := if_pos (by rw [h]; rfl)

theorem rateDone_of_taken {s : State} {p : PortId} (h : ((s.port p).rate.rxTaken && (s.port p).rate.txTaken) = true) :
    s.rateDone p = ((s.modPort p (Port.stepDone s.fastDisable)).charEvent 6 p).tieSync p := if_neg (by rw [h]; decide)

theorem rateDone_hull {s : State} {p : PortId} (h : ((s.port p).rate.rxTaken && (s.port p).rate.txTaken) = true) :
    ((s.rateDone p).port p).hull = ((s.port p).stepDone s.fastDisable).hull := by
  rw [rateDone_of_taken h, tieSync_hull, charEvent_hull, State.port_modPort]

theorem rateDone_event {s : State} {p : PortId} (h : ((s.port p).rate.rxTaken && (s.port p).rate.txTaken) = true) :
    ((s.rateDone p).port p).rx.charEvents.getLsbD 6 = true := by
  obtain ⟨w, hw⟩ := tieSync_port p ((s.modPort p (Port.stepDone s.fastDisable)).charEvent 6 p)
  rw [rateDone_of_taken h, hw]
  refine (congrArg (fun v : BitVec 7 => v.getLsbD 6) (charEvent_charEvents 6 p _)).trans ?_
  exact getLsbD_or_oneBit (by decide) _

/-- Entry `e` is current at a port, no step is pending, and the event is set; the flow state is cleared where the entry
into fast mode asks for it (`clears`). -/
structure StepDone (p : PortId) (e : BitVec 2) (clears : Prop) (t : State) : Prop where
  pend : (t.port p).rate.pend = false
  cur : (t.port p).rate.cur = e
  event : (t.port p).rx.charEvents.getLsbD 6 = true
  cleared : clears → (t.port p).flow.held = false ∧ (t.port p).flow.txCredit = 0 ∧ (t.port p).flow.rxOutstanding = 0

/-- The step of a port `x` is completed by the direction that leaves the port as `y`, but for its items. -/
theorem rateDone_stepDone {s : State} {p : PortId} {x y : Port} {fd : Bool} (hport : (s.port p).hull = y.hull)
    (hfd : s.fastDisable = fd) (hboth : (y.rate.rxTaken && y.rate.txTaken) = true) (hentry : y.rate.pendEntry = x.rate.pendEntry)
    (hfc : y.rate.fcFast = x.rate.fcFast) (hcfg : y.cfg = x.cfg) :
    StepDone p x.rate.pendEntry (x.fastEntry fd x.rate.pendEntry = true ∧ x.rate.fcFast = false ∧ x.fcMode = 2)
      (s.rateDone p) := by
  have hrate : (s.port p).rate = y.rate := by
    have h : (s.port p).hull.rate = y.hull.rate := congrArg (fun z : Port => z.rate) hport
    exact h
  have hdone : ((s.rateDone p).port p).hull = (y.stepDone fd).hull := by
    rw [rateDone_hull (by rw [hrate]; exact hboth), hfd, stepDone_hull, hport, ← stepDone_hull]
  have hfast : y.fastEntry fd y.rate.pendEntry = x.fastEntry fd x.rate.pendEntry := by
    unfold Port.fastEntry Port.div Port.multidrop
    rw [hentry, hcfg]
  have hmode : y.fcMode = x.fcMode := by
    unfold Port.fcMode
    rw [hcfg]
  refine ⟨congrArg (fun z : Port => z.rate.pend) hdone, ?_, rateDone_event (by rw [hrate]; exact hboth), fun hclear => ?_⟩
  · exact (congrArg (fun z : Port => z.rate.cur) hdone).trans hentry
  · obtain ⟨hf, hnot, hm⟩ := hclear
    have hif : (y.fastEntry fd y.rate.pendEntry && !y.rate.fcFast && y.fcMode == 2) = true := by
      rw [hfast, hf, hfc, hnot, hmode, hm]
      rfl
    have hflow : (y.stepDone fd).flow = { y.flow with held := false, holdWarned := false, txCredit := 0, rxOutstanding := 0 } :=
      if_pos hif
    exact ⟨(congrArg (fun z : Port => z.flow.held) hdone).trans (congrArg FlowSt.held hflow),
      (congrArg (fun z : Port => z.flow.txCredit) hdone).trans (congrArg FlowSt.txCredit hflow),
      (congrArg (fun z : Port => z.flow.rxOutstanding) hdone).trans (congrArg FlowSt.rxOutstanding hflow)⟩

/-! ### Each direction's own boundary -/

/-- The receiver at a pending entry (R115). -/
def Port.rxStepped (x : Port) : Port :=
  { x with rate := { x.rate with rxEntry := x.rate.pendEntry, rxTaken := true }, rx := { x.rx with centre := 0 } }

/-- The transmitter at a pending entry (R116). -/
def Port.txStepped (x : Port) : Port := { x with rate := { x.rate with txEntry := x.rate.pendEntry, txTaken := true } }

/-- The RATE mark of the receiver's step, where the port writes marks (R115). -/
def State.markRate (p : PortId) (x : Port) (s : State) : State :=
  if x.marksNow then s.offerMark p (rateMark x.rate.rxEntry x.rate.pendEntry) x.markLane else s

theorem markRate_hull (p : PortId) (x : Port) (s : State) : ((s.markRate p x).port p).hull = (s.port p).hull :=
  keeps_if (π := fun s : State => (s.port p).hull) ((hull_blind p).offerMark ..) rfl

theorem fastDisable_of_apart {s t : State} {p : PortId} (h : t.apart p = s.apart p) : t.fastDisable = s.fastDisable := by
  have hdis : (t.apart p).fastDisable = (s.apart p).fastDisable := congrArg State.fastDisable h
  exact hdis

theorem markRate_fastDisable (p : PortId) (x : Port) (s : State) : (s.markRate p x).fastDisable = s.fastDisable := by
  unfold State.markRate
  split
  · exact fastDisable_of_apart (offerMark_apart ..)
  · rfl

section
variable {s : State} {p : PortId} (hs : s.serving = true) (hp : s.present p = true) (hrun : (s.port p).inRun = true)
  (hpend : (s.port p).rate.pend = true)
include hs hp hrun hpend

theorem exec_rxRateStep (htaken : (s.port p).rate.rxTaken = false) (hphase : (s.port p).rx.phase ≠ .inBreak) :
    exec (.rxRateStep p) s = .next (((s.modPort p Port.rxStepped).markRate p (s.port p)).rateDone p) := by
  refine congrArg Host.Outcome.next ((if_pos ?_).trans ?_)
  · rw [hs, hp, hrun, hpend, htaken, bne_iff_ne.mpr hphase]
    rfl
  · unfold State.markRate Port.rxStepped
    rfl

theorem exec_txRateStep (htaken : (s.port p).rate.txTaken = false) (hidle : (s.port p).tx.now = .idle) :
    exec (.txRateStep p) s = .next ((s.modPort p Port.txStepped).rateDone p) :=
  congrArg Host.Outcome.next (if_pos (by rw [hs, hp, hrun, hpend, htaken, hidle]; rfl))

end

/-- What a direction's step leaves of its port, whether the other direction has taken it or not. -/
theorem rateDone_leaves {s : State} {p : PortId} {y : Port} {fd : Bool} {α : Type} (f : Port → α) (hport : (s.port p).hull = y.hull)
    (hfd : s.fastDisable = fd) (hf : ∀ z : Port, f z.hull = f z) (hstep : f (y.stepDone fd) = f y) :
    f ((s.rateDone p).port p) = f y := by
  rcases hboth : ((s.port p).rate.rxTaken && (s.port p).rate.txTaken) with _ | _
  · rw [rateDone_of_waiting hboth, ← hf, hport, hf]
  · rw [← hf, rateDone_hull hboth, hfd, stepDone_hull, hport, ← stepDone_hull, hf, hstep]

/-- Settles O40: the direction that takes the step second completes it (`rateDone_stepDone`); the first leaves it pending. -/
theorem rateStepsTaken : Obligations.RateStepsTaken := by
  intro s p hs hp hrun hpend r done
  have hdone {t : State} (h : StepDone p r.pendEntry ((s.port p).fastEntry s.fastDisable r.pendEntry = true ∧ r.fcFast = false ∧
      (s.port p).fcMode = 2) t) : done t := ⟨h.pend, h.cur, h.event, fun h1 h2 h3 => h.cleared ⟨h1, h2, h3⟩⟩
  refine ⟨fun htaken hphase => ?_, fun htaken hidle => ?_⟩
  · have hport : ((State.markRate p (s.port p) (s.modPort p Port.rxStepped)).port p).hull = (s.port p).rxStepped.hull := by
      rw [markRate_hull, State.port_modPort]
    have hfd : (State.markRate p (s.port p) (s.modPort p Port.rxStepped)).fastDisable = s.fastDisable := markRate_fastDisable ..
    refine ⟨_, exec_rxRateStep hs hp hrun hpend htaken hphase, rateDone_leaves (fun z => z.rate.rxEntry) hport hfd (fun _ => rfl) rfl,
      rateDone_leaves (fun z => z.rx.centre) hport hfd (fun _ => rfl) rfl, fun hother => ?_, fun hother => hdone ?_⟩
    · have hrate : ((State.markRate p (s.port p) (s.modPort p Port.rxStepped)).port p).rate = (s.port p).rxStepped.rate := by
        have h := congrArg (fun z : Port => z.rate) hport
        exact h
      rw [rateDone_of_waiting (by rw [hrate]; exact hother)]
      rw [hrate]
      exact ⟨hpend, rfl⟩
    · exact rateDone_stepDone hport hfd hother rfl rfl rfl
  · have hport : ((s.modPort p Port.txStepped).port p).hull = (s.port p).txStepped.hull := by rw [State.port_modPort]
    refine ⟨_, exec_txRateStep hs hp hrun hpend htaken hidle, rateDone_leaves (fun z => z.rate.txEntry) hport rfl (fun _ => rfl) rfl,
      fun hother => ?_, fun hother => hdone ?_⟩
    · rw [rateDone_of_waiting (by rw [State.port_modPort]; exact (Bool.and_true _).trans hother), State.port_modPort]
      exact ⟨hpend, rfl⟩
    · exact rateDone_stepDone hport rfl ((Bool.and_true _).trans hother) rfl rfl rfl

end Sys2Proof.Machine
end

section
/-! SUPPORT. The release of a tie group (06 R173, R174), and the obligation on it. -/

namespace Sys2Proof.Machine

/-! ### What the upkeep leaves of a group: its releases, the line starts it has scheduled, its members -/

/-- The scheduled line starts of a group, its releases, its members and their choice of release, and its STRAY bit. -/
def Tie.record (t : Tie) : List PortId × BitVec 4 × BitVec 16 × Bool × Bool :=
  (t.starting, t.releases, t.members, t.hostRel, t.stray)

/-- Those of group `g`. -/
def State.tieRecord (g : Fin 4) (s : State) : List PortId × BitVec 4 × BitVec 16 × Bool × Bool := (s.tie g).record

theorem modTie_record {f : Tie → Tie} (hf : ∀ t, (f t).record = t.record) (g h : Fin 4) (s : State) :
    (s.modTie h f).tieRecord g = s.tieRecord g := by
  unfold State.tieRecord
  by_cases hg : g = h
  · rw [hg, State.tie_modTie, hf]
  · rw [State.tie_modTie_ne s f hg]

theorem attEvent_record (g : Fin 4) (i : SrcId) (s : State) : (s.attEvent i).tieRecord g = s.tieRecord g := by
  obtain ⟨a, e, h⟩ := attEvent_form i s
  rw [h]
  rfl

theorem count_record (g : Fin 4) (code : Nat) (s : State) : (s.count code).tieRecord g = s.tieRecord g := by
  obtain ⟨a, c, e, h⟩ := count_form code s
  rw [h]
  rfl

theorem tieReady_record (g h : Fin 4) (s : State) : (s.tieReady h).tieRecord g = s.tieRecord g := by
  have hset (r : Bool) : (s.modTie h (fun t => { t with ready := r })).tieRecord g = s.tieRecord g :=
    modTie_record (by exact fun _ => rfl) g h s
  unfold State.tieReady
  dsimp only
  exact keeps_if (π := State.tieRecord g) rfl (keeps_if (π := State.tieRecord g) ((attEvent_record ..).trans (hset _)) (hset _))

theorem tieOpen_record (g h : Fin 4) (s : State) : (s.tieOpen h).tieRecord g = s.tieRecord g := by
  unfold State.tieOpen
  refine modTie_record (fun t => ?_) g h s
  split <;> rfl

theorem tieLeave_record (g h : Fin 4) (p : PortId) (s : State) : (s.tieLeave p h).tieRecord g = s.tieRecord g := by
  refine modTie_record (fun t => ?_) g h s
  dsimp only
  split
  · rfl
  · split <;> rfl

theorem moveWait_record (g : Fin 4) (p : PortId) (w : Option (Fin 4)) (s : State) :
    (s.moveWait p w).tieRecord g = s.tieRecord g := by
  unfold State.moveWait
  split
  · exact tieLeave_record ..
  · rfl

theorem tieSync_record (g : Fin 4) (p : PortId) (s : State) : (s.tieSync p).tieRecord g = s.tieRecord g := by
  rw [tieSync_eq]
  refine (forEach_keeps (π := State.tieRecord g) (fun h _ t => (tieReady_record g h _).trans (tieOpen_record g h t)) _).trans ?_
  exact keeps_if (π := State.tieRecord g) rfl (moveWait_record ..)

/-! ### The mark of a waiting member leaves -/

theorem count_ties (code : Nat) (s : State) : (s.count code).ties = s.ties := by
  obtain ⟨a, c, e, h⟩ := count_form code s
  rw [h]

theorem putQueue_ties (p : PortId) (d : Dir) (q : Queue) (n : Nat) (s : State) : (s.putQueue p d q n).ties = s.ties := by
  unfold State.putQueue State.setPool
  exact keeps_if (π := State.ties) (count_ties ..) rfl

theorem takeItem_ties {p : PortId} {d : Dir} {e : Entry} {l : QLane} {s t : State} (h : s.takeItem p d = some (e, l, t)) :
    t.ties = s.ties := by
  unfold State.takeItem at h
  split at h
  · cases h
  · split at h
    · cases h
    · cases h
      exact putQueue_ties ..

theorem passTie_ties (p : PortId) (s : State) : (s.passTie p).ties = s.ties := by
  unfold State.passTie
  refine keeps_if (π := State.ties) (keeps_if (π := State.ties) rfl rfl) ?_
  split
  · exact takeItem_ties ‹_›
  · rfl

theorem endWait_ties (p : PortId) (s : State) : (s.endWait p).ties = s.ties := passTie_ties p s

theorem endWaits_tie (ps : List PortId) (g : Fin 4) (s : State) : (forEach ps State.endWait s).tie g = s.tie g :=
  congrArg (fun v : Vector Tie 4 => v[g]) (forEach_keeps (π := State.ties) (fun p _ t => endWait_ties p t) s)

/-! ### A release (R173, R174) -/

/-- A group as its release leaves it: closed, the release counted, the line starts of `ps` scheduled. -/
def Tie.releasing (t : Tie) (ps : List PortId) : Tie :=
  { t.closed with ready := false, releases := t.releases + 1, starting := t.starting ++ ps }

theorem tieRelease_record (g : Fin 4) (s : State) : (s.tieRelease g).tieRecord g =
    ((s.tie g).starting ++ (s.tieWaiting g).filter (fun p => (s.port p).usable), (s.tie g).releases + 1, (s.tie g).members,
      (s.tie g).hostRel, (s.tie g).stray) := by
  unfold State.tieRelease
  dsimp only
  rw [tieReady_record, forEach_keeps (π := State.tieRecord g) (fun p _ t => tieSync_record g p t)]
  rw [count_record]
  change (((forEach (s.tieWaiting g) State.endWait s).modTie g (fun t =>
    t.releasing ((s.tieWaiting g).filter (fun p => (s.port p).usable)))).tie g).record = _
  rw [State.tie_modTie, endWaits_tie]
  rfl

theorem mem_tieWaiting (s : State) (g : Fin 4) (p : PortId) :
    p ∈ s.tieWaiting g ↔ s.present p = true ∧ (s.port p).flow.tieWait = some g := by
  unfold State.tieWaiting State.presentPorts
  rw [List.mem_filter, List.mem_filter, beq_iff_eq]
  exact ⟨fun h => ⟨h.1.2, h.2⟩, fun h => ⟨⟨List.mem_finRange p, h.1⟩, h.2⟩⟩

/-- Settles O41: a release schedules the line starts of its usable waiting members (`tieRelease_record`), and the upkeep that
follows keeps the schedule. -/
theorem tieRoundsRelease : Obligations.TieRoundsRelease := by
  intro s g hs
  refine ⟨fun hopen hrel hall => ⟨_, congrArg Host.Outcome.next (if_pos (by rw [hs, hopen, hrel, hall]; rfl)), rfl, ?_, fun p => ?_⟩,
    fun mids => congrArg Host.Outcome.next (if_pos hs)⟩
  · exact congrArg (fun r => r.2.1) (tieRelease_record g s)
  · rw [show ((s.tieRelease g).tie g).starting = _ from congrArg Prod.fst (tieRelease_record g s), List.mem_append, List.mem_filter,
      mem_tieWaiting, and_assoc]

end Sys2Proof.Machine
end

section
/-! SUPPORT. Pair conditions, the line mode and what a port applies to its pairs (03 R63, R67, R80, R81, R85), and the
obligation on them. -/

namespace Sys2Proof.Machine

/-! ### The order of the causes (R80, Table 3.6) -/

/-- What the highest cause of a pair says of the others. -/
def PairSt.CondTable (q : PairSt) : Prop :=
  (q.cond = 8#4 ↔ q.lane = true) ∧
  (q.cond = 7#4 ↔ q.prot = true ∧ q.lane = false) ∧
  (q.cond = 4#4 ↔ q.foreign = true ∧ q.prot = false ∧ q.lane = false) ∧
  (q.cond = 3#4 ↔ q.short = true ∧ q.foreign = false ∧ q.prot = false ∧ q.lane = false) ∧
  (q.cond = 5#4 ↔ q.ground = true ∧ q.short = false ∧ q.foreign = false ∧ q.prot = false ∧ q.lane = false) ∧
  (q.cond = 6#4 ↔ q.contention = true ∧ q.ground = false ∧ q.short = false ∧ q.foreign = false ∧ q.prot = false ∧
    q.lane = false) ∧
  (q.cond = 2#4 ↔ q.opn = true ∧ q.contention = false ∧ q.ground = false ∧ q.short = false ∧ q.foreign = false ∧
    q.prot = false ∧ q.lane = false) ∧
  (q.cond = 1#4 ↔ q.undriven = true ∧ q.opn = false ∧ q.contention = false ∧ q.ground = false ∧ q.short = false ∧
    q.foreign = false ∧ q.prot = false ∧ q.lane = false) ∧
  (q.cond = 9#4 ↔ q.notUsed = true ∧ q.undriven = false ∧ q.opn = false ∧ q.contention = false ∧ q.ground = false ∧
    q.short = false ∧ q.foreign = false ∧ q.prot = false ∧ q.lane = false) ∧
  (q.cond = 0#4 ↔ q.lane = false ∧ q.prot = false ∧ q.foreign = false ∧ q.short = false ∧ q.ground = false ∧
    q.contention = false ∧ q.opn = false ∧ q.undriven = false ∧ q.notUsed = false)

/-- The causes are taken in the order of the table: the first that is present decides, whatever the later ones are. -/
theorem condTable (q : PairSt) : q.CondTable := by
  unfold PairSt.CondTable PairSt.cond
  cases q.lane
  case true => simp
  cases q.prot
  case true => simp
  cases q.foreign
  case true => simp
  cases q.short
  case true => simp
  cases q.ground
  case true => simp
  cases q.contention
  case true => simp
  cases q.opn
  case true => simp
  cases q.undriven
  case true => simp
  cases q.notUsed <;> simp

/-! ### The line mode (R85, Table 3.7) -/

/-- The table of R85 by the conditions of a full-duplex port's two pairs. -/
def Port.fullTable (x : Port) (l : LineSt) : LineMode :=
  let tx := (l.pair (l.txRole false)).cond
  let rx := (l.pair l.rxRole).cond
  if tx = 8#4 ∨ rx = 8#4 then .lineFault
  else if tx = 0#4 ∧ (rx = 0#4 ∨ rx = 1#4) then .full
  else if tx = 0#4 ∧ x.fbEn = true then .fallback (l.txRole false)
  else if tx ≠ 0#4 ∧ rx = 0#4 ∧ x.fbEn = true then .fallback l.rxRole
  else .lineFault

theorem tableMode_bus {x : Port} (h : x.multidrop = true) (l : LineSt) :
    x.tableMode l = if (l.pair l.rxRole).cond = 0#4 then .multidrop else .lineFault := if_pos h

theorem tableMode_full {x : Port} (h : x.multidrop = false) (l : LineSt) : x.tableMode l = x.fullTable l := by
  unfold Port.tableMode Port.fullTable
  rw [if_neg (ne_true_of_eq_false h)]
  simp only [Bool.or_eq_true, decide_eq_true_eq]
  by_cases hlane : (l.pair (l.txRole false)).cond = 8#4 ∨ (l.pair l.rxRole).cond = 8#4
  · rw [if_pos hlane, if_pos hlane]
  rw [if_neg hlane, if_neg hlane]
  by_cases htx : (l.pair (l.txRole false)).cond = 0#4
  · rw [if_pos htx]
    simp only [htx, true_and, ne_eq, not_true_eq_false, false_and, if_false]
  · rw [if_neg htx]
    simp only [htx, false_and, if_false, ne_eq, not_false_eq_true, true_and]
    by_cases hrx : (l.pair l.rxRole).cond = 0#4
    · simp only [hrx, if_true, true_and]
    · simp only [hrx, if_false, false_and]

theorem decideMode_of_other {x : Port} (h : ∀ pr, x.line.mode ≠ .fallback pr) (l : LineSt) :
    x.decideMode l = x.tableMode l := by
  unfold Port.decideMode
  split
  · next pr he => exact absurd he (h pr)
  · rfl

theorem decideMode_of_fallback {x : Port} {sh : PairId} (h : x.line.mode = .fallback sh) (hm : x.multidrop = false) (l : LineSt) :
    x.decideMode l = if (l.pair sh).cond = 0#4 ∧ x.tableMode l ≠ .lineFault then .fallback sh else x.tableMode l := by
  unfold Port.decideMode
  rw [h]
  dsimp only
  rw [hm]
  simp only [Bool.not_false, Bool.true_and, Bool.and_eq_true, decide_eq_true_eq, bne_iff_ne]

/-- A bus never keeps a fall-back (R63, R85). -/
theorem decideMode_bus {x : Port} (h : x.multidrop = true) (l : LineSt) : x.decideMode l = x.tableMode l := by
  unfold Port.decideMode
  split
  · rw [h]
    exact if_neg (by simp)
  · rfl

/-! ### What a powered port applies to its pairs (R67, R81, R117) -/

section
variable {s : State} {p : PortId} (hon : s.lineUnitsOn p = true)
include hon

theorem drivesPrbs_of_on (pr : PairId) : s.drivesPrbs p pr = false := by
  have hst : ((s.port p).st == .off) = false := by
    unfold State.lineUnitsOn at hon
    rw [Bool.and_eq_true, Bool.or_eq_true, beq_iff_eq, beq_iff_eq] at hon
    rcases hon.2 with h | h <;> rw [h] <;> rfl
  unfold State.drivesPrbs
  dsimp only
  rw [hst]
  simp

theorem termination_of_role {pr : PairId} (h : pr = (s.port p).line.rxRole) : s.termination p pr =
    if (s.port p).fastEntry s.fastDisable (s.port p).rate.rxEntry = true ∨ bits (s.port p).cfg[0] 28 2 = 1#2 then .ohm100
    else if bits (s.port p).cfg[0] 28 2 = 2#2 then .ohm120 else .off := by
  have hcases : ∀ v : BitVec 2, (match v.toNat with | 1 => Term.ohm100 | 2 => Term.ohm120 | _ => Term.off) =
      if v = 1#2 then .ohm100 else if v = 2#2 then .ohm120 else .off := by decide
  unfold State.termination
  dsimp only
  rw [hon, h, if_neg (by simp)]
  rcases (s.port p).fastEntry s.fastDisable (s.port p).rate.rxEntry with _ | _
  · rw [if_neg Bool.false_ne_true]
    simp only [Bool.false_eq_true, false_or]
    exact hcases (bits (s.port p).cfg[0] 28 2)
  · rw [if_pos rfl, if_pos (.inl rfl)]

theorem bias_iff {pr : PairId} (h : pr = (s.port p).line.rxRole) :
    s.bias p pr = true ↔ ((s.port p).multidrop = false ∨ (s.port p).cfg[0].getLsbD 25 = true) := by
  unfold State.bias
  rw [hon, h]
  simp

theorem unterminated_of_other {pr : PairId} (h : pr ≠ (s.port p).line.rxRole) : s.termination p pr = .off ∧ s.bias p pr = false := by
  unfold State.termination State.bias
  dsimp only
  rw [hon, bne_iff_ne.mpr h, beq_false_of_ne h]
  exact ⟨rfl, rfl⟩

theorem driverOn_iff (pr : PairId) : s.driverOn p pr = true ↔ ((s.port p).tx.driver = true ∧ pr = (s.port p).sendPair) ∨
    (((s.port p).line.pair pr).retry = true ∧ (((s.port p).line.pair pr).cond = 3#4 ∨ ((s.port p).line.pair pr).cond = 5#4 ∨
      ((s.port p).line.pair pr).cond = 0#4)) := by
  unfold State.driverOn PairSt.retrying
  dsimp only
  rw [hon, drivesPrbs_of_on hon]
  simp only [Bool.true_and, Bool.or_false, Bool.or_eq_true, Bool.and_eq_true, beq_iff_eq, or_assoc]
  rfl

end

/-- Settles O28: the causes by their order (`condTable`), the line mode by its table (`tableMode_full`), and each pin of a
powered port by its definition. -/
theorem lineModeDecision : Obligations.LineModeDecision := by
  refine ⟨condTable, fun x l h => ?_, fun x l h => ⟨fun hother => ?_, fun sh hsh => ?_⟩, fun s p pr hon =>
    ⟨unterminated_of_other hon, termination_of_role hon, bias_iff hon, driverOn_iff hon pr⟩⟩
  · rw [decideMode_bus h, tableMode_bus h]
  · rw [decideMode_of_other hother, tableMode_full h]
    rfl
  · rw [decideMode_of_fallback hsh h, tableMode_full h]
    rfl

end Sys2Proof.Machine
end

section
/-! SUPPORT. The causes of a pair's conditions (03 R80, R81, R83), and the obligation on the commands that set and end them. -/

namespace Sys2Proof.Machine

/-! ### A change of a port's pairs, seen by what is steady -/

/-- The line of a port as a change of its pairs leaves it (R85, R81). -/
def Port.relinedTo (x : Port) (l : LineSt) : LineSt := ({ l with mode := x.decideMode l } : LineSt).endRetries

theorem lineChange_relined (p : PortId) (mid : Mid) (f : LineSt → LineSt) (s : State) :
    (s.lineChange p mid f).steady = s.relined p f := lineChange_steady p mid f s

theorem pairCause_relined (p : PortId) (pr : PairId) (mid : Mid) (f : PairSt → PairSt) (s : State) :
    (s.pairCause p pr mid f).steady = s.relined p (fun l => l.modPair pr f) := lineChange_relined ..

theorem noteFound_eq (q : PairSt) (unchecked : Bool) (f : CheckFound → CheckFound) :
    q.noteFound unchecked f = { q with found := if unchecked = true then f q.found else q.found } := by
  cases unchecked <;> rfl

theorem port_steady {s t : State} (h : t.steady = s.steady) (p : PortId) : (t.port p).steady = (s.port p).steady := by
  have hp := congrArg (fun v : Vector Port 16 => v[p]) h
  simp only [State.steady, Vector.getElem_map, Fin.getElem_fin] at hp
  exact hp

/-- The steady part of the port whose line changes. -/
theorem lineChange_port (p : PortId) (mid : Mid) (f : LineSt → LineSt) (s : State) :
    ((s.lineChange p mid f).port p).steady =
      ({ s.port p with line := (s.port p).relinedTo (f (s.port p).line) } : Port).steady :=
  (port_steady (lineChange_steady p mid f s) p).trans (congrArg Port.steady (State.port_modPort ..))

theorem inRun_of_steady {x y : Port} (h : x.steady = y.steady) : x.inRun = y.inRun := by
  have hrun : x.steady.inRun = y.steady.inRun := congrArg Port.inRun h
  exact hrun

theorem lineChange_inRun (p : PortId) (mid : Mid) (f : LineSt → LineSt) (s : State) :
    ((s.lineChange p mid f).port p).inRun = (s.port p).inRun := (inRun_of_steady (lineChange_port p mid f s)).trans rfl

theorem pairCause_inRun (p : PortId) (pr : PairId) (mid : Mid) (f : PairSt → PairSt) (s : State) :
    ((s.pairCause p pr mid f).port p).inRun = (s.port p).inRun := lineChange_inRun ..

/-! ### The quick sense that follows (R83) -/

theorem startSense_port {s : State} {p : PortId} (h : (s.port p).inRun = true) (prs : List PairId) :
    ((s.startSense p prs).port p).line = { (s.port p).line with
      a := { (s.port p).line.a with waits := (s.port p).line.a.waits || prs.contains .a }
      b := { (s.port p).line.b with waits := (s.port p).line.b.waits || prs.contains .b }
      sensing := true } := by
  unfold State.startSense
  rw [if_pos h, State.modLine, State.port_modPort]

theorem startSense_waits {s : State} {p : PortId} (h : (s.port p).inRun = true) {prs : List PairId} {pr : PairId}
    (hpr : prs.contains pr = true) :
    ((s.startSense p prs).port p).line.sensing = true ∧ (((s.startSense p prs).port p).line.pair pr).waits = true := by
  rw [startSense_port h]
  refine ⟨rfl, ?_⟩
  cases pr
  · exact (congrArg ((s.port p).line.a.waits || ·) hpr).trans (Bool.or_true _)
  · exact (congrArg ((s.port p).line.b.waits || ·) hpr).trans (Bool.or_true _)

theorem startSense_both {s : State} {p : PortId} (h : (s.port p).inRun = true) :
    ((s.startSense p [.a, .b]).port p).line.sensing = true ∧ ((s.startSense p [.a, .b]).port p).line.a.waits = true ∧
      ((s.startSense p [.a, .b]).port p).line.b.waits = true := by
  rw [startSense_port h]
  exact ⟨rfl, Bool.or_true _, Bool.or_true _⟩

/-! ### A trip of a sensor, counted with its short (R11) -/

theorem relined_trips (p : PortId) (pr : PairId) (f : PairSt → PairSt) (s : State) :
    (s.modLine p (fun l => { l with trips := satInc l.trips })).relined p (fun l => l.modPair pr f) =
      s.relined p (fun l => { l.modPair pr f with trips := satInc l.trips }) := by
  unfold State.relined State.modLine
  rw [modPort_modPort, State.port_modPort]
  cases pr <;> rfl

/-! ### The driver of a retry whose short has cleared (R81; log 101) -/

/-- A pair whose short is over. -/
def PairSt.unshorted (q : PairSt) : PairSt := { q with short := false, ground := false }

theorem pair_modPair (l : LineSt) (pr : PairId) (f : PairSt → PairSt) : (l.modPair pr f).pair pr = f (l.pair pr) := by
  cases pr <;> rfl

/-- A line but for what its events and its quick sense move. -/
def LineSt.hushed (l : LineSt) : LineSt :=
  { l with lineEvents := 0, reported := {}, lfDiscard := false, sensing := false
           a := { l.a with waits := false }, b := { l.b with waits := false } }

theorem line_steady {x y : Port} (h : x.steady = y.steady) : x.line.hushed = y.line.hushed := by
  have hline : x.steady.line = y.steady.line := congrArg Port.line h
  exact hline

section
variable {k l : LineSt} (h : k.hushed = l.hushed)
include h

theorem cond_hushed (pr : PairId) : (k.pair pr).cond = (l.pair pr).cond := by
  have hc : (k.hushed.pair pr).cond = (l.hushed.pair pr).cond := congrArg (fun z : LineSt => (z.pair pr).cond) h
  cases pr <;> exact hc

theorem retry_hushed (pr : PairId) : (k.pair pr).retry = (l.pair pr).retry := by
  have hc : (k.hushed.pair pr).retry = (l.hushed.pair pr).retry := congrArg (fun z : LineSt => (z.pair pr).retry) h
  cases pr <;> exact hc

theorem mode_hushed : k.mode = l.mode := by
  have hm : k.hushed.mode = l.hushed.mode := congrArg LineSt.mode h
  exact hm

theorem txRole_hushed : k.txRole false = l.txRole false := by
  have hr : k.hushed.txRole false = l.hushed.txRole false := congrArg (fun z : LineSt => z.txRole false) h
  exact hr

end

theorem retry_endRetries (l : LineSt) (pr : PairId) :
    (l.endRetries.pair pr).retry = ((l.pair pr).retrying && ((l.pair pr).cond != 0#4 || l.idlesDriven pr)) := by
  cases pr <;> rfl

theorem cond_endRetries (l : LineSt) (pr : PairId) : (l.endRetries.pair pr).cond = (l.pair pr).cond := by cases pr <;> rfl

/-- A retry goes on through the end of its short, on a transmit-role pair in full duplex that is good again. -/
theorem retry_of_cleared {k l : LineSt} {pr : PairId} (h : k.hushed = l.endRetries.hushed) (hretry : (l.pair pr).retry = true)
    (hrole : pr = k.txRole false) (hmode : k.mode = .full) (hgood : (k.pair pr).cond = 0#4) : (k.pair pr).retry = true := by
  have hcond : (l.pair pr).cond = 0#4 := by rw [← cond_endRetries, ← cond_hushed h, hgood]
  have hfull : l.mode = .full := (mode_hushed h).symm.trans hmode
  have htx : pr = l.txRole false := hrole.trans ((txRole_hushed h).trans rfl)
  have hidle : l.idlesDriven pr = true := by
    unfold LineSt.idlesDriven
    rw [hfull, ← htx, beq_self_eq_true]
    rfl
  rw [retry_hushed h, retry_endRetries, PairSt.retrying, hretry, hcond, hidle]
  rfl

/-! ### What the change of pairs keeps of the device -/

theorem lineUnitsOn_of_kept {s t : State} {p : PortId} (h : t.apart p = s.apart p) (hst : (t.port p).st = (s.port p).st) :
    t.lineUnitsOn p = s.lineUnitsOn p := by
  have hserving : (t.apart p).serving = (s.apart p).serving := congrArg State.serving h
  have hpresent : (t.apart p).present p = (s.apart p).present p := congrArg (fun z : State => z.present p) h
  unfold State.lineUnitsOn
  rw [hst, show t.serving = s.serving from hserving, show t.present p = s.present p from hpresent]

theorem st_of_steady {x y : Port} (h : x.steady = y.steady) : x.st = y.st := by
  have hst : x.steady.st = y.steady.st := congrArg Port.st h
  exact hst

theorem lineChange_lineUnitsOn (p : PortId) (mid : Mid) (f : LineSt → LineSt) (s : State) :
    (s.lineChange p mid f).lineUnitsOn p = s.lineUnitsOn p :=
  lineUnitsOn_of_kept (lineChange_apart ..) ((st_of_steady (lineChange_port ..)).trans rfl)

/-! ### The causes (R80) -/

section
variable {s : State} {p : PortId} {pr : PairId}

/-- A cause that a sensor finds: set in the pair, and kept for the line check that has not ended (log 148). -/
theorem causeFound_relined (mid : Mid) (f : PairSt → PairSt) (g : CheckFound → CheckFound) :
    (s.pairCause p pr mid (fun q => (f q).noteFound (s.port p).unchecked g)).steady = s.relined p (fun l => l.modPair pr (fun q =>
      { f q with found := if (s.port p).unchecked = true then g (f q).found else (f q).found })) := by
  rw [pairCause_relined]
  simp only [noteFound_eq]

theorem shortDetected_relined (mid : Mid) (hlive : s.lineLive p = true) :
    ∃ t, exec (.shortDetected p pr mid) s = .next t ∧ t.steady = s.relined p (fun l =>
      { l.modPair pr (fun q => { ({ q with short := true, retry := false } : PairSt) with
          found := if (s.port p).unchecked = true then { q.found with short := true } else q.found }) with
        trips := satInc l.trips }) := by
  refine ⟨_, congrArg Host.Outcome.next (if_pos hlive), ?_⟩
  rw [pairCause_relined, relined_trips]
  simp only [noteFound_eq]

end

theorem driverOn_of_retry {t : State} {p : PortId} {pr : PairId} (hon : t.lineUnitsOn p = true)
    (hretry : ((t.port p).line.pair pr).retry = true) (hgood : ((t.port p).line.pair pr).cond = 0#4) : t.driverOn p pr = true :=
  (driverOn_iff hon pr).mpr (.inr ⟨hretry, .inr (.inr hgood)⟩)

/-- The driver of a retry that did not trip stays on as its short clears. -/
theorem driverOn_of_cleared {s : State} {p : PortId} {pr : PairId} (hretry : ((s.port p).line.pair pr).retry = true)
    (hon : s.lineUnitsOn p = true) (hrole : pr = ((s.pairCause p pr .idle PairSt.unshorted).port p).line.txRole false)
    (hmode : ((s.pairCause p pr .idle PairSt.unshorted).port p).line.mode = .full)
    (hgood : (((s.pairCause p pr .idle PairSt.unshorted).port p).line.pair pr).cond = 0#4) :
    (s.pairCause p pr .idle PairSt.unshorted).driverOn p pr = true := by
  have hport := line_steady (lineChange_port p .idle (fun l => l.modPair pr PairSt.unshorted) s)
  have hunits : (s.pairCause p pr .idle PairSt.unshorted).lineUnitsOn p = true := (lineChange_lineUnitsOn ..).trans hon
  refine driverOn_of_retry hunits (retry_of_cleared hport ?_ hrole hmode hgood) hgood
  exact (congrArg PairSt.retry (pair_modPair ..)).trans hretry

section
variable {s : State} {p : PortId} {pr : PairId} (hlive : s.lineLive p = true)
include hlive

theorem shortCleared_acts (hshort : ((s.port p).line.pair pr).short = true ∨ ((s.port p).line.pair pr).ground = true)
    (hretry : ((s.port p).line.pair pr).retry = true) :
    ∃ t, exec (.shortCleared p pr) s = .next t ∧ t.steady = s.relined p (fun l => l.modPair pr PairSt.unshorted) ∧
      (pr = (t.port p).line.txRole false → (t.port p).line.mode = .full → ((t.port p).line.pair pr).cond = 0#4 →
        s.lineUnitsOn p = true → t.driverOn p pr = true) := by
  refine ⟨s.pairCause p pr .idle PairSt.unshorted, congrArg Host.Outcome.next (if_pos ?_), pairCause_relined ..,
    fun hrole hmode hgood hon => driverOn_of_cleared hretry hon hrole hmode hgood⟩
  rw [hlive, hretry]
  rcases hshort with h | h <;> rw [h] <;> simp

theorem foreignVoltageEnd_acts (hforeign : ((s.port p).line.pair pr).foreign = true) :
    ∃ t, exec (.foreignVoltageEnd p pr) s = .next t ∧ t.steady = s.relined p (fun l => l.modPair pr (fun q =>
      { ({ q with foreign := false } : PairSt) with
        found := if (s.port p).unchecked = true then { q.found with foreign := false } else q.found })) :=
  ⟨_, congrArg Host.Outcome.next (if_pos (by rw [hlive, hforeign]; rfl)), causeFound_relined .idle
    (fun q => { q with foreign := false }) (fun f => { f with foreign := false })⟩

theorem openWireEnd_acts (hopn : ((s.port p).line.pair pr).opn = true) :
    ∃ t, exec (.openWireEnd p pr) s = .next t ∧ t.steady = s.relined p (fun l => l.modPair pr (fun q =>
      { ({ q with opn := false } : PairSt) with
        found := if (s.port p).unchecked = true then { q.found with opn := false } else q.found })) ∧
      ((s.port p).inRun = true → (t.port p).line.sensing = true ∧ ((t.port p).line.pair pr).waits = true) :=
  ⟨_, congrArg Host.Outcome.next (if_pos (by rw [hlive, hopn]; rfl)), (startSense_steady ..).trans
    (causeFound_relined .idle (fun q => { q with opn := false }) (fun f => { f with opn := false })),
    fun hrun => startSense_waits ((pairCause_inRun ..).trans hrun) (by cases pr <;> rfl)⟩

end

/-- When a retry of a short is made (R63, R81, R290, R330). -/
theorem retryMade_iff {s : State} {p : PortId} {pr : PairId} :
    (s.lineLive p && (s.port p).marksNow && !((s.port p).line.pair pr).notUsed &&
      (((s.port p).line.pair pr).cond == 3 || ((s.port p).line.pair pr).cond == 5) && !(s.port p).tx.driver &&
      !((s.port p).line.pair (otherPair pr)).retrying) = true ↔
    s.lineLive p = true ∧ (s.port p).tx.driver = false ∧ ((s.port p).line.pair (otherPair pr)).retrying = false ∧
      (s.port p).inRun = true ∧ (s.port p).frozen = false ∧ ((s.port p).line.pair pr).notUsed = false ∧
      (((s.port p).line.pair pr).cond = 3#4 ∨ ((s.port p).line.pair pr).cond = 5#4) := by
  unfold Port.marksNow
  simp only [Bool.and_eq_true, Bool.or_eq_true, Bool.not_eq_true', beq_iff_eq]
  tauto

/-- Settles O27: every command of a cause is a change of its pair (`lineChange_relined`), and a retry of a short is made, or
not, by its conditions. -/
theorem pairCausesAct : Obligations.PairCausesAct := by
  refine ⟨fun s p mid hs hp => ?_, fun s p hs hp hlane => ?_, fun s p => ?_, fun s p pr mid hlive => ?_, fun s p pr hlive => ?_,
    fun s p pr trips hlive hshort hdriver hother => ?_⟩
  · exact ⟨_, congrArg Host.Outcome.next (if_pos (by rw [hs, hp]; rfl)), lineChange_relined ..⟩
  · refine ⟨_, congrArg Host.Outcome.next (if_pos ?_), (startSense_steady ..).trans (lineChange_relined ..), fun hrun => ?_⟩
    · rw [hs, hp]
      rcases hlane with h | h <;> rw [h] <;> simp
    · exact startSense_both ((lineChange_inRun ..).trans hrun)
  · unfold State.lineLive
    rw [Bool.and_eq_true, Bool.and_eq_true, Bool.or_eq_true, bne_iff_ne, Option.isSome_iff_exists, and_assoc]
  · intro found
    exact ⟨shortDetected_relined mid hlive,
      ⟨_, congrArg Host.Outcome.next (if_pos hlive), causeFound_relined mid
        (fun q => { q with ground := true, retry := false }) (fun f => { f with ground := true })⟩,
      ⟨_, congrArg Host.Outcome.next (if_pos hlive), causeFound_relined mid
        (fun q => { q with foreign := true }) (fun f => { f with foreign := true })⟩,
      ⟨_, congrArg Host.Outcome.next (if_pos hlive), causeFound_relined mid
        (fun q => { q with opn := true }) (fun f => { f with opn := true })⟩,
      ⟨_, congrArg Host.Outcome.next (if_pos hlive), causeFound_relined mid
        (fun q => { q with contention := true }) (fun f => { f with contention := true })⟩,
      ⟨_, congrArg Host.Outcome.next (if_pos hlive), causeFound_relined mid
        (fun q => { q with undriven := true }) (fun f => { f with undriven := true })⟩⟩
  · intro found q
    exact ⟨shortCleared_acts hlive, foreignVoltageEnd_acts hlive, openWireEnd_acts hlive⟩
  · intro made
    refine ⟨fun h => ?_, fun h => ?_⟩
    · exact congrArg Host.Outcome.next (if_pos (retryMade_iff.mpr ⟨hlive, hdriver, hother, h⟩))
    · exact congrArg Host.Outcome.next (if_neg (fun hc => h (retryMade_iff.mp hc).2.2.2))

end Sys2Proof.Machine
end

section
/-! SUPPORT. What the receipt of characters and a change of a port's pairs leave of the port: all but its items and what its
receiver, transmitter, detectors and flow controller hold. One lemma per operation, in the order of their definitions. -/

namespace Sys2Proof.Machine

/-- A port but for its items, its receiver, transmitter, detectors and flow controller, and its outage charges. -/
def Port.shell (x : Port) : Port :=
  { x.hull with rx := {}, af := {}, flow := {}, tx := {}, outLane := none, outProt := none }

theorem shell_flow (x : Port) (f : FlowSt) : ({ x with flow := f } : Port).shell = x.shell := rfl

/-- The view `π` shows of port `p` at most its shell, and nothing of its region, the tie groups and the events that an
operation on its items raises. -/
structure ShellBlind (p : PortId) {α : Type} (π : State → α) : Prop extends ItemBlind p π where
  shift : ∀ s f, (∀ x : Port, (f x).shell = x.shell) → π (s.modPort p f) = π s

section
variable {α : Type} {p : PortId} {π : State → α} (hb : ShellBlind p π)
include hb

theorem ShellBlind.modAf (f s) : π (State.modAf p f s) = π s := hb.shift _ _ (by exact fun _ => rfl)
theorem ShellBlind.modRx (f s) : π (State.modRx p f s) = π s := hb.shift _ _ (by exact fun _ => rfl)
theorem ShellBlind.modTx (f s) : π (State.modTx p f s) = π s := hb.shift _ _ (by exact fun _ => rfl)
theorem ShellBlind.modFlow (f s) : π (State.modFlow p f s) = π s := hb.shift _ _ (by exact fun _ => rfl)
theorem ShellBlind.actFlowCode (ch s) : π (State.actFlowCode p ch s) = π s := by
  unfold State.actFlowCode
  dsimp only
  split
  · refine keeps_if rfl ((hb.tieSync ..).trans ((hb.portCount ..).trans (hb.shift _ _ ?_)))
    exact fun x => shell_flow x _
  · refine keeps_if (keeps_if ((hb.tieSync ..).trans (hb.shift _ _ ?_)) rfl) (keeps_if ((hb.tieSync ..).trans (hb.shift _ _ ?_)) rfl)
    · exact fun x => shell_flow x _
    · exact fun x => shell_flow x _
theorem ShellBlind.useGrant (s) : π (State.useGrant p s) = π s := by
  unfold State.useGrant
  refine keeps_if rfl (keeps_if (hb.flowEvent ..) ((hb.tieSync ..).trans (hb.shift _ _ ?_)))
  exact fun _ => rfl
theorem ShellBlind.muteDiscard (s) : π (State.muteDiscard p s) = π s := by
  unfold State.muteDiscard
  exact (hb.tieSync ..).trans ((hb.portCount ..).trans (hb.modAf ..))
theorem ShellBlind.frameErr (code s) : π (State.frameErr p code s) = π s := by
  unfold State.frameErr
  exact (hb.offer ..).trans (hb.modAf ..)
theorem ShellBlind.frameErrIfOpen (code s) : π (State.frameErrIfOpen p code s) = π s := by
  unfold State.frameErrIfOpen
  exact keeps_if rfl (hb.frameErr ..)
theorem ShellBlind.frameEnd (s) : π (State.frameEnd p s) = π s := by
  unfold State.frameEnd
  simp only [↓hb.portCount, ↓hb.offerMark, ↓hb.modAf]
theorem ShellBlind.frameStart (s) : π (State.frameStart p s) = π s := by
  unfold State.frameStart
  extract_lets x e arg s1 s2
  have h1 : π s1 = π s := hb.modAf _ s
  have h2 : π s2 = π s := (hb.offerMark _ _ s1).trans h1
  exact keeps_if ((hb.frameEnd s2).trans h2) h2
theorem ShellBlind.addrChar (cond ch s) : π (State.addrChar p cond ch s) = π s := by
  unfold State.addrChar
  simp only [↓hb.offer, ↓hb.modAf, ↓hb.muteDiscard, ↓apply_ite π, ite_self]
  repeat' (first | (with_reducible rfl) | split | (simp only [↓hb.offer, ↓hb.modAf, ↓hb.muteDiscard]))
theorem ShellBlind.frameChar (cond ch s) : π (State.frameChar p cond ch s) = π s := by
  unfold State.frameChar
  simp only []
  repeat' (first | (with_reducible rfl) | split | (simp only [↓hb.offer, ↓hb.modAf, ↓hb.frameErr, ↓hb.frameEnd, ↓hb.frameStart]))
theorem ShellBlind.enterChar (cond ch s) : π (State.enterChar p cond ch s) = π s := by
  unfold State.enterChar
  simp only [↓hb.offer, ↓hb.actFlowCode, ↓hb.useGrant, ↓hb.addrChar, ↓hb.frameChar, ↓apply_ite π, ite_self]
theorem ShellBlind.enterLineFault (s) : π (State.enterLineFault p s) = π s := by
  unfold State.enterLineFault
  refine (hb.leaveTie _).trans ((hb.shift _ _ (by exact fun _ => rfl)).trans (keeps_if ?_ rfl))
  exact (hb.drain _).trans ((hb.addLoss ..).trans (hb.shift _ _ (by exact fun _ => rfl)))
theorem ShellBlind.leaveLineFault (s) : π (State.leaveLineFault p s) = π s := by
  unfold State.leaveLineFault
  exact (hb.tieSync _).trans ((hb.tryGap ..).trans (hb.shift _ _ (by exact fun _ => rfl)))
end

/-! ### The shell itself -/

theorem shell_of_hull {x y : Port} (h : x.hull = y.hull) : x.shell = y.shell := by
  have hs : x.hull.shell = y.hull.shell := congrArg Port.shell h
  exact hs

theorem shell_blind (p : PortId) : ShellBlind p (fun s => (s.port p).shell) where
  shift s f h := by
    rw [State.port_modPort]
    exact h _
  keep s f h := shell_of_hull ((hull_blind p).keep s f h)
  modRegion _ _ _ := rfl
  modTie _ _ _ := rfl
  portEvent k s := shell_of_hull ((hull_blind p).portEvent k s)
  tieEvent g s := shell_of_hull ((hull_blind p).tieEvent g s)
  tieFall _ _ := rfl
  count code s := shell_of_hull ((hull_blind p).count code s)
  hostError s := shell_of_hull ((hull_blind p).hostError s)

/-! ### A change of a port's pairs -/

theorem chargeOutage_shell (now : Nat) (x : Port) : (x.chargeOutage now).shell = x.shell := by
  unfold Port.chargeOutage
  dsimp only
  split <;> split <;> rfl

/-- A line but for its events, its reports and the discard of line-fault. -/
def LineSt.plain (l : LineSt) : LineSt := { l with lineEvents := 0, reported := {}, lfDiscard := false }

theorem line_shell {x y : Port} (h : x.shell = y.shell) : x.line.plain = y.line.plain := by
  have hl : x.shell.line = y.shell.line := congrArg Port.line h
  exact hl

theorem shell_lined {x y : Port} (h : x.shell = y.shell) (l : LineSt) (e : BitVec 21) (t : TxSt) :
    ({ x with line := { l with lineEvents := e }, tx := t } : Port).shell = ({ y with line := l } : Port).shell := by
  change ({ x.shell with line := l.plain } : Port) = { y.shell with line := l.plain }
  rw [h]

theorem lineChange_shell (p : PortId) (mid : Mid) (f : LineSt → LineSt) (s : State) :
    ((s.lineChange p mid f).port p).shell =
      ({ s.port p with line := (s.port p).relinedTo (f (s.port p).line) } : Port).shell := by
  have hb := shell_blind p
  unfold State.lineChange
  extract_lets x l shorts wasFault isFault listen lost moved cut n s1 s2 s3 s4 s5 s6 s7 s8 s9
  have h1 : (s1.port p).shell = (s.port p).shell :=
    keeps_if (π := fun s : State => (s.port p).shell) ((hb.offerMark ..).trans (hb.shift _ _ (by exact fun _ => rfl))) rfl
  clear_value s1
  have h2 : (s2.port p).shell = (s.port p).shell :=
    (keeps_if (π := fun s : State => (s.port p).shell) (hb.discardHolding ..) rfl).trans h1
  clear_value s2
  have h3 : (s3.port p).shell = ({ s.port p with line := l } : Port).shell := by
    change ((s2.modPort p _).port p).shell = _
    rw [State.port_modPort]
    exact (chargeOutage_shell ..).trans (shell_lined h2 ..)
  clear_value s3
  have h4 : (s4.port p).shell = _ := (hb.writeLineMarks s3).trans h3
  clear_value s4
  have h5 : (s5.port p).shell = (s4.port p).shell := by
    change ((match mid with | .char b n => if cut then s4.enterChar p 4 (cutChar x.dataBits b n) else s4 | _ => s4 : State).port
      p).shell = _
    split
    · exact keeps_if (π := fun s : State => (s.port p).shell) (hb.enterChar ..) rfl
    · rfl
  clear_value s5
  have h6 : (s6.port p).shell = (s5.port p).shell :=
    keeps_if (π := fun s : State => (s.port p).shell) (hb.frameErrIfOpen ..) rfl
  clear_value s6
  have h7 : (s7.port p).shell = (s6.port p).shell :=
    keeps_if (π := fun s : State => (s.port p).shell) (hb.shift _ _ (by exact fun _ => rfl)) rfl
  clear_value s7
  have h8 : (s8.port p).shell = (s7.port p).shell :=
    keeps_if (π := fun s : State => (s.port p).shell) (hb.enterLineFault ..)
      (keeps_if (π := fun s : State => (s.port p).shell) (hb.leaveLineFault ..) rfl)
  clear_value s8
  have h9 : (s9.port p).shell = (s8.port p).shell :=
    keeps_if (π := fun s : State => (s.port p).shell) (congrArg Port.shell (port_of_powerEvent ..)) rfl
  exact (hb.tieSync _).trans (h9.trans (h8.trans (h7.trans (h6.trans (h5.trans h4)))))

end Sys2Proof.Machine
end

section
/-! SUPPORT. Roles, polarity and conditions as the senses give them (03 R70 to R72, R81 to R83), and the obligation on them. -/

namespace Sys2Proof.Machine

/-! ### One pair, sensed -/

section
variable (q : PairSt) (role : Bool) (r : PairSense)

theorem sensed_driven (h : r.drive ≠ .undriven) :
    q.sensed role r = { q with inv := r.drive == .neg, unverified := false, undriven := false, contention := !role } :=
  if_pos (bne_iff_ne.mpr h)

theorem sensed_undriven (h : r.drive = .undriven) :
    q.sensed role r = { q.fromBias r with undriven := role, contention := false } :=
  if_neg (by rw [h]; decide)

/-- The causes that a sense leaves: those its sensors found. -/
def PairSt.sensors (q : PairSt) : Bool × Bool × Bool × Bool := (q.foreign, q.short, q.ground, q.retry)

theorem fromBias_sensors : (q.fromBias r).sensors = q.sensors := by
  unfold PairSt.fromBias
  split
  · rfl
  · split <;> rfl

theorem sensed_sensors : (q.sensed role r).sensors = q.sensors := by
  unfold PairSt.sensed
  split
  · rfl
  · exact fromBias_sensors q r

theorem sensedBus_sensors : (q.sensedBus r).sensors = q.sensors := by
  unfold PairSt.sensedBus
  split
  · rfl
  · exact fromBias_sensors q r

end

/-! ### Both pairs (R71) -/

section
variable (l : LineSt) (sa sb : PairSense)

theorem assign_both (ha : sa.drive ≠ .undriven) (hb : sb.drive ≠ .undriven) : l.assign false sa sb =
    { l with a := ({ l.a with notUsed := false } : PairSt).sensed false sa
             b := ({ l.b with notUsed := false } : PairSt).sensed false sb } := by
  unfold LineSt.assign
  rw [if_neg Bool.false_ne_true]
  dsimp only
  rw [bne_iff_ne.mpr ha, bne_iff_ne.mpr hb]
  rfl

/-- Unless both pairs are driven, pair A has the receive role where it is driven. -/
theorem assign_roles {da : Bool} (hda : (sa.drive != .undriven) = da) (h : (da && (sb.drive != .undriven)) = false) :
    l.assign false sa sb = { l with
      swapped := da
      a := ({ l.a with notUsed := false } : PairSt).sensed da sa
      b := ({ l.b with notUsed := false } : PairSt).sensed (!da) sb } := by
  unfold LineSt.assign
  rw [if_neg Bool.false_ne_true]
  dsimp only
  rw [hda, if_neg (ne_true_of_eq_false h)]
  rfl

theorem assign_drivenA (ha : sa.drive ≠ .undriven) (hb : sb.drive = .undriven) : l.assign false sa sb = { l with
    swapped := true
    a := ({ l.a with notUsed := false } : PairSt).sensed true sa
    b := ({ l.b with notUsed := false } : PairSt).sensed false sb } :=
  assign_roles l sa sb (bne_iff_ne.mpr ha) (by rw [hb]; decide)

theorem assign_undrivenA (ha : sa.drive = .undriven) : l.assign false sa sb = { l with
    swapped := false
    a := ({ l.a with notUsed := false } : PairSt).sensed false sa
    b := ({ l.b with notUsed := false } : PairSt).sensed true sb } :=
  assign_roles l sa sb (by rw [ha]; rfl) (Bool.false_and _)

theorem assign_sensors (multidrop : Bool) (pr : PairId) : ((l.assign multidrop sa sb).pair pr).sensors = (l.pair pr).sensors := by
  cases multidrop
  · by_cases ha : sa.drive = .undriven
    · rw [assign_undrivenA l sa sb ha]
      cases pr <;> exact sensed_sensors ..
    · by_cases hb : sb.drive = .undriven
      · rw [assign_drivenA l sa sb ha hb]
        cases pr <;> exact sensed_sensors ..
      · rw [assign_both l sa sb ha hb]
        cases pr <;> exact sensed_sensors ..
  · unfold LineSt.assign
    rw [if_pos rfl]
    cases hrole : l.rxRole <;> cases pr <;> first | rfl | exact sensedBus_sensors ..

/-- On a bus only the bus pair changes, and no role. -/
theorem assign_bus_other {pr : PairId} (h : pr ≠ l.rxRole) :
    ((l.assign true sa sb).pair pr) = l.pair pr ∧ (l.assign true sa sb).swapped = l.swapped := by
  unfold LineSt.assign
  rw [if_pos rfl]
  cases hrole : l.rxRole <;> cases pr
  · exact absurd hrole.symm h
  · exact ⟨rfl, rfl⟩
  · exact ⟨rfl, rfl⟩
  · exact absurd hrole.symm h

/-- The roles and polarity of a full-duplex port (R71; log 99). -/
theorem assign_table :
    (sa.drive ≠ .undriven ∧ ¬ sb.drive ≠ .undriven → (l.assign false sa sb).swapped = true ∧
      (l.assign false sa sb).a.inv = (sa.drive == .neg) ∧ (l.assign false sa sb).a.contention = false ∧
      (l.assign false sa sb).b.contention = false) ∧
    (¬ sa.drive ≠ .undriven ∧ sb.drive ≠ .undriven → (l.assign false sa sb).swapped = false ∧
      (l.assign false sa sb).b.inv = (sb.drive == .neg) ∧ (l.assign false sa sb).b.undriven = false) ∧
    (¬ sa.drive ≠ .undriven ∧ ¬ sb.drive ≠ .undriven → (l.assign false sa sb).swapped = false ∧
      (l.assign false sa sb).b.undriven = true ∧ (l.assign false sa sb).a.undriven = false) ∧
    (sa.drive ≠ .undriven ∧ sb.drive ≠ .undriven → (l.assign false sa sb).swapped = l.swapped ∧
      (l.assign false sa sb).a.contention = true ∧ (l.assign false sa sb).b.contention = true) := by
  refine ⟨fun ⟨ha, hb⟩ => ?_, fun ⟨ha, hb⟩ => ?_, fun ⟨ha, hb⟩ => ?_, fun ⟨ha, hb⟩ => ?_⟩
  · rw [assign_drivenA l sa sb ha (not_not.mp hb), sensed_driven _ _ _ ha, sensed_undriven _ _ _ (not_not.mp hb)]
    exact ⟨rfl, rfl, rfl, rfl⟩
  · rw [assign_undrivenA l sa sb (not_not.mp ha), sensed_driven _ _ _ hb]
    exact ⟨rfl, rfl, rfl⟩
  · rw [assign_undrivenA l sa sb (not_not.mp ha), sensed_undriven _ _ _ (not_not.mp ha), sensed_undriven _ _ _ (not_not.mp hb)]
    exact ⟨rfl, rfl, rfl⟩
  · rw [assign_both l sa sb ha hb, sensed_driven _ _ _ ha, sensed_driven _ _ _ hb]
    exact ⟨rfl, rfl, rfl⟩

end

/-! ### A quick sense (R82, R83) -/

/-- What the readings of a quick sense make of the pairs, before it ends. -/
def LineSt.resensed (l : LineSt) (multidrop : Bool) (sa sb : PairSense) : LineSt :=
  if multidrop then (if (l.pair l.rxRole).mayChange then l.assign true sa sb else l)
  else if l.a.mayChange && l.b.mayChange then l.assign false sa sb
  else { l with
    a := if l.a.mayChange then l.a.sensed l.swapped sa else l.a
    b := if l.b.mayChange then l.b.sensed (!l.swapped) sb else l.b }

section
variable (l : LineSt) (multidrop : Bool) (sa sb : PairSense)

theorem sense_eq : l.sense multidrop sa sb = { l.resensed multidrop sa sb with
    a := { (l.resensed multidrop sa sb).a with waits := false }
    b := { (l.resensed multidrop sa sb).b with waits := false }
    sensing := false
    loopA := if l.a.prot then 0xFFF#12 else l.loopA
    loopB := if l.b.prot then 0xFFF#12 else l.loopB
    loaded := l.loaded && !l.a.prot && !l.b.prot } := rfl

/-- A pair that stayed good keeps its polarity and its role (R82). -/
theorem resensed_good {pr : PairId} (h : (l.pair pr).carries = true) :
    (l.resensed multidrop sa sb).pair pr = l.pair pr ∧ (l.resensed multidrop sa sb).swapped = l.swapped := by
  have hstay : (l.pair pr).mayChange = false := by unfold PairSt.mayChange; rw [h]; rfl
  unfold LineSt.resensed
  cases multidrop
  · rw [if_neg Bool.false_ne_true]
    cases pr
    · rw [show l.a.mayChange = false from hstay, Bool.false_and, if_neg Bool.false_ne_true, if_neg Bool.false_ne_true]
      exact ⟨rfl, rfl⟩
    · rw [show l.b.mayChange = false from hstay, Bool.and_false, if_neg Bool.false_ne_true, if_neg Bool.false_ne_true]
      exact ⟨rfl, rfl⟩
  · rw [if_pos rfl]
    split
    · next hc =>
      have hne : pr ≠ l.rxRole := by
        rintro rfl
        rw [hstay] at hc
        cases hc
      exact assign_bus_other l sa sb hne
    · exact ⟨rfl, rfl⟩

theorem resensed_both (ha : l.a.carries = false) (hb : l.b.carries = false) : l.resensed false sa sb = l.assign false sa sb := by
  unfold LineSt.resensed PairSt.mayChange
  rw [if_neg Bool.false_ne_true, ha, hb]
  rfl

theorem waits_of_carries {q : PairSt} (h : q.carries = true) : ({ q with waits := false } : PairSt) = q := by
  unfold PairSt.carries at h
  rw [Bool.and_eq_true, Bool.not_eq_true'] at h
  rw [← h.2]

end

/-! ### A line check (R70 to R72) -/

theorem settleFound_pair (l : LineSt) (multidrop : Bool) (pr : PairId) :
    ((l.settleFound multidrop).pair pr).found = {} ∧ ((l.settleFound multidrop).pair pr).sensors = (l.pair pr).sensors := by
  cases pr <;> exact ⟨rfl, rfl⟩

/-- The line after the readings of a check are taken, before its roles are assigned. -/
def LineSt.read (l : LineSt) (sa sb : PairSense) : LineSt :=
  { l with a := l.a.fromCheck l.a.prot sa, b := l.b.fromCheck l.b.prot sb
           loopA := loopField l.a.prot sa, loopB := loopField l.b.prot sb }

theorem check_pair_full (l : LineSt) (light : Bool) (sa sb : PairSense) (pr : PairId) :
    (l.check false light sa sb).pair pr = (((l.read sa sb).assign false sa sb).settleFound false).pair pr := by
  cases pr <;> rfl

theorem check_sensors (l : LineSt) (light : Bool) (sa sb : PairSense) (pr : PairId) :
    ((l.check false light sa sb).pair pr).found = {} ∧
      ((l.check false light sa sb).pair pr).sensors = ((l.read sa sb).pair pr).sensors := by
  rw [check_pair_full]
  obtain ⟨hfound, hsensors⟩ := settleFound_pair ((l.read sa sb).assign false sa sb) false pr
  exact ⟨hfound, hsensors.trans (assign_sensors ..)⟩

/-- The line of a bus on the pair that the check chose; the other pair is not used. -/
def LineSt.bused (l : LineSt) (busB : Bool) : LineSt :=
  if busB then { l with swapped := false, a := l.a.spare, b := { l.b with notUsed := false } }
  else { l with swapped := false, a := { l.a with notUsed := false }, b := l.b.spare }

theorem bused_retry {l : LineSt} (ha : l.a.retry = false) (hb : l.b.retry = false) (busB : Bool) (pr : PairId) :
    ((l.bused busB).pair pr).retry = false := by
  cases busB <;> cases pr
  · exact ha
  · rfl
  · rfl
  · exact hb

theorem check_pair_bus (l : LineSt) (light : Bool) (sa sb : PairSense) (pr : PairId) :
    ∃ busB, (l.check true light sa sb).pair pr = ((((l.read sa sb).bused busB).assign true sa sb).settleFound true).pair pr :=
  ⟨_, by cases pr <;> rfl⟩

theorem settled_retry {l : LineSt} {pr : PairId} (h : (l.pair pr).retry = false) (multidrop : Bool) (sa sb : PairSense) :
    (((l.assign multidrop sa sb).settleFound multidrop).pair pr).retry = false := by
  have hs : (((l.assign multidrop sa sb).settleFound multidrop).pair pr).sensors.2.2.2 = (l.pair pr).sensors.2.2.2 :=
    congrArg (fun x : Bool × Bool × Bool × Bool => x.2.2.2) ((settleFound_pair ..).2.trans (assign_sensors ..))
  exact hs.trans h

theorem check_retry (l : LineSt) (multidrop light : Bool) (sa sb : PairSense) (pr : PairId) :
    ((l.check multidrop light sa sb).pair pr).retry = false := by
  cases multidrop
  · rw [check_pair_full]
    exact settled_retry (by cases pr <;> rfl) ..
  · obtain ⟨busB, hbus⟩ := check_pair_bus l light sa sb pr
    rw [hbus]
    exact settled_retry (bused_retry rfl rfl busB pr) ..

/-- Where no retry goes on, none is ended. -/
theorem endRetries_of_none {l : LineSt} (ha : l.a.retry = false) (hb : l.b.retry = false) : l.endRetries = l := by
  have hpair (q : PairSt) (c : Bool) (h : q.retry = false) : ({ q with retry := q.retrying && c } : PairSt) = q := by
    unfold PairSt.retrying
    rw [h, Bool.false_and, Bool.false_and, ← h]
  unfold LineSt.endRetries
  rw [hpair l.a _ ha, hpair l.b _ hb]

/-! ### The two commands -/

/-- What the readings of a sense or a check settle on a line. -/
def LineSt.readings (l : LineSt) : (PairSt × PairSt × Bool × BitVec 4 × Bool) × (BitVec 8 × BitVec 12 × BitVec 12 × Bool × Bool) :=
  ((l.a, l.b, l.swapped, l.eqBoost, l.sensing), (l.lenEst, l.loopA, l.loopB, l.checkDone, l.checking))

theorem readings_of_shell {x y : Port} (h : x.shell = y.shell) : x.line.readings = y.line.readings := by
  have hl : x.line.plain.readings = y.line.plain.readings := congrArg LineSt.readings (line_shell h)
  exact hl

theorem course_of_shell {x y : Port} (h : x.shell = y.shell) : x.st = y.st ∧ x.cfg = y.cfg ∧ x.trans = y.trans := by
  have hst : x.shell.st = y.shell.st := congrArg Port.st h
  have hcfg : x.shell.cfg = y.shell.cfg := congrArg Port.cfg h
  have htrans : x.shell.trans = y.shell.trans := congrArg Port.trans h
  exact ⟨hst, hcfg, htrans⟩

theorem exec_quickSenseEnd {s : State} {p : PortId} (sa sb : PairSense) (hlive : s.lineLive p = true)
    (hsensing : (s.port p).line.sensing = true) :
    ∃ t, exec (.quickSenseEnd p sa sb) s = .next t ∧
      let n := (s.port p).line.sense (s.port p).multidrop sa sb
      let n := if n.swapped = (s.port p).line.swapped then n else n.setBoost
      (t.port p).shell = ({ s.port p with line := (s.port p).relinedTo n } : Port).shell := by
  refine ⟨_, congrArg Host.Outcome.next (if_pos (by rw [hlive, hsensing]; rfl)), (lineChange_shell ..).trans ?_⟩
  by_cases hs : ((s.port p).line.sense (s.port p).multidrop sa sb).swapped = (s.port p).line.swapped
  · rw [if_pos hs, if_neg (by rw [hs]; simp)]
  · rw [if_neg hs, if_pos (by simpa using hs)]

theorem nextRound_port (p : PortId) (s : State) : (s.nextRound p).port p = s.port p := by
  unfold State.nextRound
  dsimp only
  have hne : p ≠ ⟨(p.val + 2) % 16, Nat.mod_lt _ (by decide)⟩ := fun h => by
    have hv : p.val = (p.val + 2) % 16 := congrArg Fin.val h
    omega
  exact keeps_if (π := fun s : State => s.port p) (State.port_modPort_ne _ _ hne) rfl

/-- A port whose line check is done. -/
def Port.checkedOut (x : Port) : Port := { x with trans := x.trans.map (fun t => { t with checked := true }) }

theorem checkedOut_shell {x y : Port} (h : x.shell = y.shell) : x.checkedOut.shell = y.checkedOut.shell := by
  have hs : x.shell.checkedOut = y.shell.checkedOut := congrArg Port.checkedOut h
  exact hs

/-- The results of port `p`'s line check, as the model records them. -/
def State.checkResults (p : PortId) (sa sb : PairSense) (s : State) : State :=
  s.lineChange p .idle (fun l => l.check (s.port p).multidrop ((s.port p).lightTrain || (s.port p).frozen) sa sb)

theorem exec_lineCheckEnd {s : State} {p : PortId} (sa sb : PairSense) (hserving : s.serving = true) (hp : s.present p = true)
    (hchecking : (s.port p).line.checking = true) :
    exec (.lineCheckEnd p sa sb) s = .next (((s.checkResults p sa sb).modPort p Port.checkedOut).nextRound p) :=
  congrArg Host.Outcome.next (if_pos (by rw [hserving, hp, hchecking]; rfl))

theorem checkResults_shell (s : State) (p : PortId) (sa sb : PairSense) :
    ((((s.checkResults p sa sb).modPort p Port.checkedOut).nextRound p).port p).shell = ({ s.port p with
      line := (s.port p).relinedTo ((s.port p).line.check (s.port p).multidrop ((s.port p).lightTrain || (s.port p).frozen) sa sb)
      } : Port).checkedOut.shell := by
  rw [nextRound_port, State.port_modPort]
  exact checkedOut_shell (lineChange_shell ..)

/-- A line check leaves no retry to end. -/
theorem relinedTo_check (x : Port) (l : LineSt) (multidrop light : Bool) (sa sb : PairSense) :
    x.relinedTo (l.check multidrop light sa sb) =
      { l.check multidrop light sa sb with mode := x.decideMode (l.check multidrop light sa sb) } :=
  endRetries_of_none (check_retry l multidrop light sa sb .a) (check_retry l multidrop light sa sb .b)

/-- Settles O29: the roles and conditions follow from the readings, and a change of the pairs leaves the line the rest. -/
theorem sensesAssign : Obligations.SensesAssign := by
  refine ⟨fun l sa sb => assign_table l sa sb, fun l multidrop sa sb => ?_, fun l light sa sb pr => ?_,
    fun s p sa sb => ⟨fun hlive hsensing => ?_, fun hserving hp hchecking => ?_⟩⟩
  · have hpair (pr : PairId) (hc : (l.pair pr).carries = true) :
        (l.sense multidrop sa sb).pair pr = l.pair pr ∧ (l.sense multidrop sa sb).swapped = l.swapped := by
      obtain ⟨hp, hs⟩ := resensed_good l multidrop sa sb hc
      have hw : ({ (l.resensed multidrop sa sb).pair pr with waits := false } : PairSt) = l.pair pr := by
        rw [hp, waits_of_carries hc]
      refine ⟨Eq.trans ?_ hw, hs⟩
      cases pr <;> rfl
    refine ⟨hpair .a, hpair .b, ?_, fun hp => ?_, fun hp => ?_⟩
    · rintro rfl ha hb
      rw [sense_eq, resensed_both l sa sb ha hb]
      exact ⟨rfl, rfl, rfl⟩
    · rw [sense_eq, hp, if_pos rfl, Bool.not_true, Bool.and_false]
      exact ⟨rfl, rfl⟩
    · rw [sense_eq, hp, if_pos rfl, Bool.not_true, Bool.and_false]
      exact ⟨rfl, rfl⟩
  · obtain ⟨hfound, hsensors⟩ := check_sensors l light sa sb pr
    obtain ⟨hforeign, hrest⟩ := Prod.mk.inj hsensors
    obtain ⟨hshort, hrest⟩ := Prod.mk.inj hrest
    have hground := (Prod.mk.inj hrest).1
    refine ⟨hfound, fun h => hforeign.trans ?_, fun h => hshort.trans ?_, fun h => hground.trans ?_⟩
    · cases pr <;> exact (congrArg _ h).trans (Bool.or_true _)
    · cases pr <;> exact (congrArg _ h).trans (Bool.or_true _)
    · cases pr <;> exact (congrArg _ h).trans (Bool.or_true _)
  · obtain ⟨t, ht, hshell⟩ := exec_quickSenseEnd sa sb hlive hsensing
    have hr := readings_of_shell hshell
    obtain ⟨hst, hcfg, -⟩ := course_of_shell hshell
    obtain ⟨hrl, -⟩ := Prod.mk.inj hr
    obtain ⟨ha, hrl⟩ := Prod.mk.inj hrl
    obtain ⟨hb, hrl⟩ := Prod.mk.inj hrl
    obtain ⟨hswap, hrl⟩ := Prod.mk.inj hrl
    obtain ⟨hboost, hsense⟩ := Prod.mk.inj hrl
    refine ⟨t, ht, ha, hb, hswap, hboost, hsense.trans ?_, hst, hcfg⟩
    split <;> rfl
  · refine ⟨_, exec_lineCheckEnd sa sb hserving hp hchecking, ?_⟩
    have hshell := checkResults_shell s p sa sb
    generalize ((s.checkResults p sa sb).modPort p Port.checkedOut).nextRound p = t at hshell ⊢
    have hr := readings_of_shell hshell
    rw [relinedTo_check] at hr
    obtain ⟨-, -, htrans⟩ := course_of_shell hshell
    obtain ⟨hrl, hrr⟩ := Prod.mk.inj hr
    obtain ⟨ha, hrl⟩ := Prod.mk.inj hrl
    obtain ⟨hb, hrl⟩ := Prod.mk.inj hrl
    obtain ⟨hswap, -⟩ := Prod.mk.inj hrl
    obtain ⟨hlen, hrr⟩ := Prod.mk.inj hrr
    obtain ⟨hla, hrr⟩ := Prod.mk.inj hrr
    obtain ⟨hlb, hrr⟩ := Prod.mk.inj hrr
    obtain ⟨hdone, hchk⟩ := Prod.mk.inj hrr
    exact ⟨ha, hb, hswap, hlen, hla, hlb, hdone, hchk, htrans⟩

end Sys2Proof.Machine
end

section
/-! SUPPORT. A state in which a flush's GAP leaves no cell for its FLUSH, against the obligation on the ends of flushes. -/

namespace Sys2Proof.Machine

/-- A queue at the boundary of a crossed flush, three of its cells free: two in its open tail, and one set aside in an
earlier stretch, which is not the last of its segment. Once that stretch is read, nothing brings its cell back. -/
def strayCell : Queue :=
  { segs := [{ reserved := true, cells := 1, spare := 1, last := false }, { reserved := true }]
    tailUsed := 62, flush := .crossed 1 [] }

/-- A released device, awake, with every port in Run and its region's pool empty, whose transmit queues are `strayCell`. -/
def strayed : State :=
  { State.reset with
    boot := { State.reset.boot with stage := .released, regulated := true, fuseShadow := State.reset.boot.fuseArray }
    pw := { inputOn := true, inRange := true }
    ports := Vector.replicate 16 (({ st := .run } : Port).renewQueue .rx {} |>.renewQueue .tx strayCell) }

/-- What a command that goes on leaves in the transmit queue of port 0. -/
def txItemsAfter : Out → List Item
  | .next t => (t.queue 0 .tx).bulkItems
  | _ => []

theorem strayed_premises :
    (strayed.storeOn = true ∧ strayed.present 0 = true ∧ (strayed.queue 0 .tx).flush = .crossed 1 []) ∧
      ((strayed.queue 0 .tx).isOpen = false ∧ (strayed.queue 0 .tx).pend = none ∧ (strayed.queue 0 .tx).flushOwed = 0 ∧
        3 ≤ (strayed.queue 0 .tx).freeCells (strayed.pool 0) ∧ (strayed.port 0).txSinks = false ∧ strayed.sound 0 .tx = true) := by
  decide +kernel

/-- The GAP takes two cells, and the reads that follow lose the third: the FLUSH stays owed. -/
theorem flushBoundary_strayed : txItemsAfter (exec (.flushBoundary 0 .tx) strayed) = [gapMark 5 (some 1)] := by decide +kernel

/-- Refutes O46: in a state whose queue has set a cell aside in a stretch that is not the last of its segment, which no
command reaches, three free cells do not hold a flush's GAP and FLUSH; the boundary then leaves the FLUSH owed. -/
theorem not_queueEndsAct : ¬ Obligations.QueueEndsAct := by
  unfold Obligations.QueueEndsAct
  intro h
  obtain ⟨⟨hon, hp, hflush⟩, hopen, hpend, howed, hfree, hsinks, hsound⟩ := strayed_premises
  obtain ⟨-, hboundary, -⟩ := h strayed 0 .tx hon hp
  obtain ⟨t, ht, -, -, hitems⟩ := hboundary 1 [] hflush hopen
  obtain ⟨hbulk, -⟩ := hitems hpend howed hfree (fun _ => hsinks) hsound
  have hleft : (t.queue 0 .tx).bulkItems = [gapMark 5 (some 1)] :=
    (congrArg txItemsAfter ht).symm.trans flushBoundary_strayed
  rw [hleft] at hbulk
  exact absurd hbulk (by decide +kernel)

end Sys2Proof.Machine
end

section
/-! SUPPORT. A port in Run in Sleep, against the obligation on the line commands. -/

namespace Sys2Proof.Machine

/-- A port in Run and in line-fault, whose transmit queue's item count has parted from its second copy. -/
def partedFault : Port :=
  { ({ st := .run, line := { mode := .lineFault } } : Port).renewQueue .rx {} with txCheck := { items := 1 } }

/-- A released device in Sleep, in which every port is `partedFault`. -/
def asleepInRun : State :=
  { State.reset with
    boot := { State.reset.boot with stage := .released, regulated := true, fuseShadow := State.reset.boot.fuseArray }
    pw := { inputOn := true, inRange := true }
    dev := { st := .sleep }
    ports := Vector.replicate 16 partedFault }

/-- The integrity resets of port 0's transmit queue that a command that goes on leaves counted. -/
def resetsTxAfter : Out → Nat
  | .next t => (t.port 0).resetsTx.toNat
  | _ => 0

theorem asleepInRun_premises :
    (asleepInRun.lineLive 0 = true ∧ (asleepInRun.port 0).inRun = true ∧ (asleepInRun.port 0).lineFault = true) ∧
      ((asleepInRun.port 0).frozen = false ∧ (asleepInRun.port 0).line.lfDiscard = false ∧ asleepInRun.sound 0 .tx = false) ∧
      (satInc (asleepInRun.port 0).resetsTx).toNat = 1 := by
  decide +kernel

/-- In Sleep the store is in retention: the discard compares no copies, and no reset is counted. -/
theorem lineFaultHoldExpiry_asleep : resetsTxAfter (exec (.lineFaultHoldExpiry 0) asleepInRun) = 0 := by decide +kernel

/-- Refutes O30: the hold's expiry resets no queue whose copies disagree where the device is in Sleep, which the statement
does not exclude, though no port is in Run then. -/
theorem not_lineCommandsAct : ¬ Obligations.LineCommandsAct := by
  unfold Obligations.LineCommandsAct
  rintro ⟨h, -⟩
  obtain ⟨⟨hlive, hrun, hfault⟩, ⟨hfrozen, hdiscard, hsound⟩, hone⟩ := asleepInRun_premises
  obtain ⟨-, hexpiry, -⟩ := h asleepInRun 0 hlive hrun
  obtain ⟨t, ht, -, -, -, hparted⟩ := hexpiry hfault hfrozen hdiscard
  have hcounted : (t.port 0).resetsTx.toNat = 1 := (congrArg BitVec.toNat (hparted hsound)).trans hone
  have hnone : (t.port 0).resetsTx.toNat = 0 := (congrArg resetsTxAfter ht).symm.trans lineFaultHoldExpiry_asleep
  rw [hcounted] at hnone
  cases hnone

end Sys2Proof.Machine
end

section
/-! SUPPORT. What a planned block holds, and the obligation on the blocks of the device (09 R274 to R279; 08 R237, R248). -/

namespace Sys2Proof.Machine

/-! ### The plan of a single-port block -/

/-- A run that takes an item fits: the payload, the escapes and the credit allow it (R202, R237, R274). -/
theorem fitRun_fits {pack : BitVec 2} {urgent : Bool} {room : Nat} {is : List Item} (h : (fitRun pack urgent room is).1 ≠ 0) :
    0 < (is.take (fitRun pack urgent room is).1).length ∧
      (packSize pack urgent (is.take (fitRun pack urgent room is).1)).1 ≤ 512 ∧
      (packSize pack urgent (is.take (fitRun pack urgent room is).1)).2 ≤ 32 ∧
      ((is.take (fitRun pack urgent room is).1).map Item.cells).sum ≤ room := by
  revert h
  unfold fitRun
  extract_lets ok paid ns n
  intro h
  have hn : n ≠ 0 := h
  have hmem : n ∈ ns := by
    cases hlast : ns.getLast? with
    | none => exact absurd (show n = 0 by rw [show n = ns.getLast?.getD 0 from rfl, hlast]; rfl) hn
    | some k =>
      have hk : n = k := by rw [show n = ns.getLast?.getD 0 from rfl, hlast]; rfl
      exact hk ▸ List.mem_of_getLast? hlast
  obtain ⟨hrange, hfits⟩ := List.mem_filter.mp hmem
  obtain ⟨hok, hpaid⟩ := (Bool.and_eq_true ..).mp hfits
  obtain ⟨hsize, hesc⟩ := (Bool.and_eq_true ..).mp hok
  have hle := List.mem_range.mp hrange
  refine ⟨?_, of_decide_eq_true hsize, of_decide_eq_true hesc, of_decide_eq_true hpaid⟩
  rw [List.length_take]
  omega

theorem planBlk_fits {s : State} {p : PortId} {pl : Plan} (h : s.planBlk p = some pl) :
    0 < pl.items.length ∧ (packSize pl.pack pl.urgent pl.items).1 ≤ 512 ∧ (packSize pl.pack pl.urgent pl.items).2 ≤ 32 ∧
      (pl.items.map Item.cells).sum ≤ (s.port p).rxCreditRoom := by
  revert h
  unfold State.planBlk
  extract_lets x lead head lane run u f1 pack f
  intro h
  have hf : f = fitRun pack u x.rxCreditRoom run := by
    by_cases hp : pack = 0
    · exact (if_pos hp).trans (by rw [hp])
    · have hslot : pack = x.slotPack := by
        by_cases hc : f1.1 < 4 * escapesOf (x.dataBits == 9) u (run.take f1.1)
        · exact absurd (if_pos hc) hp
        · exact if_neg hc
      exact (if_neg hp).trans (by rw [hslot])
  by_cases hz : f.1 = 0
  · rw [if_pos hz] at h
    cases h
  · rw [if_neg hz] at h
    cases h
    rw [hf] at hz ⊢
    exact fitRun_fits hz

/-! ### Building it -/

theorem ItemBlind.draw {α : Type} {p : PortId} {π : State → α} (hb : ItemBlind p π) (n : Nat) (s : State) :
    π (State.draw p n s) = π s := by
  induction n generalizing s with
  | zero => rfl
  | succ n ih =>
    unfold State.draw
    split
    · exact (ih _).trans ((hb.tellAll ..).trans (hb.takeItem ‹_›))
    · rfl

theorem ItemBlind.afterDraw {α : Type} {p : PortId} {π : State → α} (hb : ItemBlind p π) (s : State) :
    π (State.afterDraw p s) = π s := (hb.drain _).trans (hb.deliver _)

theorem rxCarried_of_hull {x y : Port} (h : x.hull = y.hull) : x.rxCarried = y.rxCarried := by
  have hc : x.hull.rxCarried = y.hull.rxCarried := congrArg Port.rxCarried h
  exact hc

theorem place_rxCarried (b : BlkBody) (s : State) (p : PortId) : ((State.place b s).port p).rxCarried = (s.port p).rxCarried := by
  have h : ((State.place b s).port p).unlost.rxCarried = (s.port p).unlost.rxCarried :=
    congrArg Port.rxCarried (port_of_unbuilt (place_unbuilt b s) p)
  exact h

/-- The items of a plan have left port `p`'s queue, and its cells are charged. -/
def State.charged (p : PortId) (pl : Plan) (s : State) : State :=
  (s.draw p pl.drawn).modPort p (fun x => { x with
    freshGap := 0, rxCarried := x.rxCarried + BitVec.ofNat 24 (pl.items.map Item.cells).sum })

theorem charged_rxCarried (s : State) (p : PortId) (pl : Plan) : ((s.charged p pl).port p).rxCarried =
    (s.port p).rxCarried + BitVec.ofNat 24 (pl.items.map Item.cells).sum := by
  unfold State.charged
  rw [State.port_modPort, ← rxCarried_of_hull ((hull_blind p).draw pl.drawn s)]

theorem buildPlan_rxCarried (s : State) (p : PortId) (pl : Plan) : ((s.buildPlan p pl).port p).rxCarried =
    (s.port p).rxCarried + BitVec.ofNat 24 (pl.items.map Item.cells).sum :=
  (place_rxCarried (.data p pl.pack pl.urgent pl.items) ((s.charged p pl).afterDraw p) p).trans
    ((rxCarried_of_hull ((hull_blind p).afterDraw (s.charged p pl))).trans (charged_rxCarried s p pl))

/-! ### When a block is built -/

section
variable {s : State} {p : PortId}

theorem buildSingle_plan {pl : Plan} (want : Plan → Bool) (hheld : s.tr.heldFor p = none) (hplan : s.planBlk p = some pl)
    (hwant : want pl = true) : s.buildSingle p want = s.buildPlan p pl := by
  unfold State.buildSingle
  rw [hheld, hplan]
  exact if_pos hwant

theorem buildSingle_held {b : BlkBody} (want : Plan → Bool) (hheld : s.tr.heldFor p = some (b, true)) :
    s.buildSingle p want = s.heldStep p b := by
  unfold State.buildSingle
  rw [hheld]
  rfl

theorem exec_blockWaitExpiry (hbuild : s.mayBuild = true) (hp : s.present p = true) (hmasked : s.masked p = false) :
    exec (.blockWaitExpiry p) s = .next (s.buildSingle p (fun _ => true)) := by
  refine congrArg Host.Outcome.next ((if_pos (by rw [hbuild, hp]; rfl)).trans ?_)
  rw [hmasked]
  rfl

theorem exec_dataBlockBuild_single (hbuild : s.mayBuild = true) (hp : s.present p = true) :
    exec (.dataBlockBuild (.single p)) s =
      .next (s.buildSingle p (fun pl => (s.port p).freshGap != 0 || pl.urgent || (pl.full && !s.masked p))) :=
  congrArg Host.Outcome.next ((if_pos hbuild).trans (if_pos hp))

theorem exec_dataBlockBuild_interleaved {b : BlkBody} (hbuild : s.mayBuild = true) (hplan : s.planIlv = some b) :
    exec (.dataBlockBuild .interleaved) s = .next (s.buildIlv b) := by
  refine congrArg Host.Outcome.next ((if_pos hbuild).trans ?_)
  rw [hplan]

theorem exec_dataBlockBuild_shut (hbuild : s.mayBuild = false) (sel : BuildSel) : exec (.dataBlockBuild sel) s = .next s :=
  congrArg Host.Outcome.next (if_neg (ne_true_of_eq_false hbuild))

theorem exec_blockWaitExpiry_shut (hbuild : s.mayBuild = false) : exec (.blockWaitExpiry p) s = .next s :=
  congrArg Host.Outcome.next (if_neg (by rw [hbuild]; exact Bool.false_ne_true))

theorem mayBuild_asleep (h : s.dev.st = .sleep) : s.mayBuild = false := by
  unfold State.mayBuild
  rw [h, show (DState.sleep == DState.awake) = false from rfl, Bool.and_false, Bool.false_and]

theorem ctlReady_asleep (h : s.dev.st = .sleep) (n : Nat) : s.ctlReady n = false := by
  unfold State.ctlReady
  rw [h, show (DState.sleep == DState.awake) = false from rfl, Bool.and_false, Bool.false_and, Bool.false_and, Bool.false_and]

theorem ctlReady_waiting (h : s.tr.waitBlk.isSome = true) (n : Nat) : s.ctlReady n = false := by
  unfold State.ctlReady
  rw [show s.tr.waitBlk.isNone = false by cases hw : s.tr.waitBlk <;> simp_all, Bool.and_false, Bool.false_and, Bool.false_and]

end

/-! ### Credits and notices -/

/-- The ports whose limit has risen since it was last sent. -/
def State.risen (s : State) : List PortId := s.presentPorts.filter (fun o => (s.port o).limitRisen)
/-- A port whose limit is being sent. -/
def Port.limitSending (x : Port) : Port := { x with limitSent := x.txLimit, limitGiven := true }

theorem exec_txCreditSend (s : State) : exec .txCreditSend s =
    .next (if (!s.risen.isEmpty && s.ctlReady (creditBlk (s.risen.map (fun o => (o, (s.port o).txLimit)))).size) = true then
      (forEach s.risen (fun o t => t.modPort o Port.limitSending) s).sendCtl
        (creditBlk (s.risen.map (fun o => (o, (s.port o).txLimit))))
    else s) := rfl

theorem risen_sent {s : State} {o : PortId} (h : o ∈ s.risen) :
    ((forEach s.risen (fun o t => t.modPort o Port.limitSending) s).port o).limitSent = (s.port o).txLimit ∧
      ((forEach s.risen (fun o t => t.modPort o Port.limitSending) s).port o).limitGiven = true := by
  refine port_forEach_of_mem (key := id) (I := fun t => (t.port o).txLimit = (s.port o).txLimit)
    (P := fun x => x.limitSent = (s.port o).txLimit ∧ x.limitGiven = true) (fun x t ht => ?_)
    (fun x t _ hne => State.port_modPort_ne t _ hne) (fun x t ht hx => ?_) ⟨o, h, rfl⟩ rfl
  · by_cases hx : o = x
    · subst hx
      exact (congrArg Port.txLimit (State.port_modPort ..)).trans ht
    · exact (congrArg Port.txLimit (State.port_modPort_ne t _ hx)).trans ht
  · obtain rfl : x = o := hx
    rw [State.port_modPort]
    exact ⟨ht, rfl⟩

theorem noticeWaits_of_held {s : State} {p : PortId} {i : SrcId} (hheld : (s.tr.heldFor p).isSome = true)
    (hp : i.val / 8 = p.val) (hk : i.val % 8 ≤ 3) : s.noticeWaits i = true := by
  have hlt : i.val < 128 := by omega
  have hport : srcPort i = some p := (dif_pos hlt).trans (congrArg some (Fin.ext hp))
  unfold State.noticeWaits
  rw [hport]
  exact (Bool.and_eq_true ..).mpr ⟨decide_eq_true hk, hheld⟩

/-- The command that builds a notice, with the first source that is due to the processor. -/
theorem exec_noticeBuild {s : State} {proc d : BitVec 2} {i : SrcId}
    (hdue : s.att.due.find? (fun x => x.2 == proc) = some (i, d)) : exec (.noticeBuild proc) s =
    .next (if (s.ctlReady (noticeBlk proc s.att.srcs[i].count i).size && !s.noticeWaits i) = true then
      (State.count 0x0A0 { s with att := s.att.put i { s.att.srcs[i] with
        noticed := s.att.srcs[i].noticed ||| oneBit 4 proc.toNat } }).sendCtl (noticeBlk proc s.att.srcs[i].count i)
    else s) := by
  change execNoticeBuild proc s = _
  unfold execNoticeBuild
  rw [hdue]

theorem exec_noticeBuild_shut {s : State} (h : ∀ n, s.ctlReady n = false) (proc : BitVec 2) :
    exec (.noticeBuild proc) s = .next s := by
  change execNoticeBuild proc s = _
  unfold execNoticeBuild
  split
  · rfl
  · exact congrArg Host.Outcome.next (if_neg (by rw [h]; exact Bool.false_ne_true))

/-- Settles O58: a plan's run fits, and each command builds its block where it may. -/
theorem deviceBlocksBuild : Obligations.DeviceBlocksBuild := by
  intro s p
  refine ⟨fun pl hpl => ?_, fun pl hbuild hp hheld hplan hmasked => ⟨?_, fun hnow => ?_⟩,
    fun b hbuild hp hheld hmasked => ⟨?_, ?_⟩, fun b hbuild hplan => exec_dataBlockBuild_interleaved hbuild hplan,
    ⟨fun hrisen hready => ⟨?_, fun o ho => ?_⟩, fun hnone => ?_⟩, fun hsleep => ⟨?_, ?_, ?_, ?_⟩, fun proc i d hdue => ⟨?_, ?_, ?_, ?_⟩⟩
  · obtain ⟨hlen, hsize, hesc, hroom⟩ := planBlk_fits hpl
    exact ⟨hlen, hsize, hesc, hroom, buildPlan_rxCarried s p pl⟩
  · rw [exec_blockWaitExpiry hbuild hp hmasked, buildSingle_plan _ hheld hplan rfl]
  · rw [exec_dataBlockBuild_single hbuild hp, buildSingle_plan _ hheld hplan]
    rw [hmasked]
    obtain hu | hf := hnow
    · rw [hu, Bool.or_true, Bool.true_or]
    · rw [hf, Bool.not_false, Bool.and_true, Bool.or_true]
  · rw [exec_blockWaitExpiry hbuild hp hmasked, buildSingle_held _ hheld]
  · rw [exec_dataBlockBuild_single hbuild hp, buildSingle_held _ hheld]
  · have hsome : s.risen.isEmpty = false := by
      rw [List.isEmpty_eq_false_iff]
      exact hrisen
    rw [exec_txCreditSend, hsome]
    exact congrArg Host.Outcome.next (if_pos hready)
  · exact risen_sent ho
  · rw [exec_txCreditSend, show s.risen = [] from hnone]
    rfl
  · rw [exec_txCreditSend, ctlReady_asleep hsleep, Bool.and_false]
    rfl
  · exact exec_blockWaitExpiry_shut (mayBuild_asleep hsleep)
  · exact exec_dataBlockBuild_shut (mayBuild_asleep hsleep)
  · exact exec_noticeBuild_shut (ctlReady_asleep hsleep)
  · intro hready hwaits
    exact (exec_noticeBuild hdue).trans (congrArg Host.Outcome.next (if_pos (by rw [hready, hwaits]; rfl)))
  · intro hwaits
    exact (exec_noticeBuild hdue).trans
      (congrArg Host.Outcome.next (if_neg (by rw [hwaits, Bool.not_true, Bool.and_false]; exact Bool.false_ne_true)))
  · exact noticeWaits_of_held
  · exact fun hwait => exec_noticeBuild_shut (ctlReady_waiting hwait) proc

end Sys2Proof.Machine
end

section
/-! SUPPORT. The entry of an item as the state records it (07 R185 to R201, R211): what enters, what a GAP and the FLUSH marks
leave, and what the Sieve's acceptance of the held item leaves. -/

namespace Sys2Proof.Machine

/-! ### A port but for its marks -/

/-- A port but for the event bits that items carry, what of them is not seen yet, and where it waits for a tie. -/
def Port.unmarked (x : Port) : Port :=
  { x with
    unseen := Vector.replicate 4 0, rxqEvents := 0, txqEvents := 0
    rx := { x.rx with charEvents := 0 }
    flow := { x.flow with tieWait := none } }

/-- A port but for its marks, and the pool of its region. -/
def State.berth (p : PortId) (s : State) : Port × Nat × List SegUpset :=
  ((s.port p).unmarked, s.pool p, (s.region (regionOf p)).poolUpsets)

section
variable (p : PortId) (s : State)

theorem attEvent_berth (i : SrcId) : (s.attEvent i).berth p = s.berth p := by
  obtain ⟨a, e, h⟩ := attEvent_form i s
  rw [h]
  rfl
theorem count_berth (code : Nat) : (s.count code).berth p = s.berth p := by
  obtain ⟨a, c, e, h⟩ := count_form code s
  rw [h]
  rfl
theorem modPort_berth {f : Port → Port} (h : ∀ x, (f x).unmarked = x.unmarked) : (s.modPort p f).berth p = s.berth p := by
  unfold State.berth
  rw [State.port_modPort, h]
  rfl
theorem hide_unmarked (k : Fin 4) (b : Nat) (x : Port) : (x.hide k b).unmarked = x.unmarked := by
  unfold Port.hide
  split <;> rfl
theorem tell_berth (n : Note) : (s.tell p n).berth p = s.berth p :=
  (attEvent_berth ..).trans (modPort_berth p s (by exact fun _ => rfl))
theorem tellAll_berth (ns : List Note) : (s.tellAll p ns).berth p = s.berth p :=
  forEach_keeps (π := State.berth p) (fun n _ t => tell_berth p t n) s
theorem markRxq_berth (b : Fin 4) : (s.markRxq b p).berth p = s.berth p := by
  refine (count_berth ..).trans (modPort_berth p s fun x => ?_)
  exact hide_unmarked 1 b.val x
theorem markChar_berth (b : Fin 7) : (s.markChar b p).berth p = s.berth p := by
  refine (count_berth ..).trans (modPort_berth p s fun x => ?_)
  exact hide_unmarked 2 b.val x
theorem txqEvent_berth (b : Fin 5) : (s.txqEvent b p).berth p = s.berth p := by
  unfold State.txqEvent
  dsimp only
  have h : (State.portCount (40 + b) p (s.modPort p (fun x => { x with txqEvents := x.txqEvents ||| oneBit 5 b }))).berth p =
      s.berth p := (count_berth ..).trans (modPort_berth p s (by exact fun _ => rfl))
  exact keeps_if (π := State.berth p) h ((attEvent_berth ..).trans h)
theorem berth_of_retied {s t : State} (h : s.Retied t) : t.berth p = s.berth p := by
  obtain ⟨ts, a, e, rfl⟩ := h
  rfl
theorem tieSync_berth : (s.tieSync p).berth p = s.berth p := by
  obtain ⟨w, h⟩ := tieSync_retied p s
  exact (berth_of_retied p h).trans (modPort_berth p s (by exact fun _ => rfl))
theorem setPool_berth (n : Nat) : (s.setPool p n).berth p = ((s.port p).unmarked, n, (s.region (regionOf p)).poolUpsets) := by
  unfold State.setPool
  extract_lets r old s1 s2
  have h : s2.berth p = ((s.port p).unmarked, n, (s.region (regionOf p)).poolUpsets) := by
    change (_, (s2.region r).pool, (s2.region r).poolUpsets) = _
    rw [show s2.region r = _ from State.region_modRegion .., show s1.region r = _ from State.region_modRegion ..]
    rfl
  exact (keeps_if (π := State.berth p) (count_berth ..) rfl).trans h
theorem putQueue_berth (d : Dir) (q : Queue) (n : Nat) :
    (s.putQueue p d q n).berth p = (((s.port p).setQueue d q).unmarked, n, (s.region (regionOf p)).poolUpsets) := by
  refine (setPool_berth ..).trans ?_
  rw [show (s.setQueue p d q).port p = _ from State.port_modPort ..]
  rfl
theorem setQueue_berth (d : Dir) (q : Queue) :
    (s.setQueue p d q).berth p = (((s.port p).setQueue d q).unmarked, s.pool p, (s.region (regionOf p)).poolUpsets) := by
  unfold State.berth
  rw [show (s.setQueue p d q).port p = _ from State.port_modPort ..]
  rfl

end

/-! ### What a berth says -/

theorem queue_of_unmarked {x y : Port} (h : x.unmarked = y.unmarked) (d : Dir) : x.queue d = y.queue d := by
  have hq : x.unmarked.queue d = y.unmarked.queue d := congrArg (Port.queue · d) h
  cases d <;> exact hq
theorem agrees_of_unmarked {x y : Port} (h : x.unmarked = y.unmarked) (d : Dir) : x.agrees d = y.agrees d := by
  have hq : x.unmarked.agrees d = y.unmarked.agrees d := congrArg (Port.agrees · d) h
  cases d <;> exact hq
theorem holding_of_unmarked {x y : Port} (h : x.unmarked = y.unmarked) : x.rx.holding = y.rx.holding := by
  have hh : x.unmarked.rx.holding = y.unmarked.rx.holding := congrArg (fun z : Port => z.rx.holding) h
  exact hh
theorem af_of_unmarked {x y : Port} (h : x.unmarked = y.unmarked) : x.af = y.af := by
  have hh : x.unmarked.af = y.unmarked.af := congrArg Port.af h
  exact hh

section
variable {p : PortId} {t : State} {x : Port} {n : Nat} {u : List SegUpset} (h : t.berth p = (x.unmarked, n, u))
include h

theorem unmarked_of_berth : (t.port p).unmarked = x.unmarked := congrArg Prod.fst h
theorem queue_of_berth (d : Dir) : t.queue p d = x.queue d := queue_of_unmarked (unmarked_of_berth h) d
theorem pool_of_berth : t.pool p = n := congrArg (fun b : Port × Nat × List SegUpset => b.2.1) h
theorem sound_of_berth (d : Dir) : t.sound p d = (x.agrees d && u.isEmpty) := by
  have hu : (t.region (regionOf p)).poolUpsets = u := congrArg (fun b : Port × Nat × List SegUpset => b.2.2) h
  unfold State.sound
  rw [agrees_of_unmarked (unmarked_of_berth h) d, hu]

end

/-! ### Both copies -/

theorem checkOf_of_agrees {x : Port} {d : Dir} (h : x.agrees d = true) : x.checkOf d = (x.queue d).check := by
  unfold Port.agrees at h
  rw [Bool.not_eq_true', Bool.or_eq_false_iff] at h
  obtain ⟨hp, hq⟩ := h
  unfold QCheck.pointerFails at hp
  unfold QCheck.parityFails at hq
  simp only [Bool.or_eq_false_iff, bne_eq_false_iff_eq] at hp hq
  obtain ⟨⟨⟨⟨⟨⟨hw, hr⟩, hi⟩, hpin⟩, ht⟩, hf⟩, hl⟩ := hp
  obtain ⟨hu, hc⟩ := hq
  cases hx : x.checkOf d
  cases hy : (x.queue d).check
  rw [hx, hy] at hw hr hi hpin ht hf hl hu hc
  obtain rfl := hw; obtain rfl := hr; obtain rfl := hi; obtain rfl := hpin; obtain rfl := ht
  obtain rfl := hf; obtain rfl := hl; obtain rfl := hu; obtain rfl := hc
  rfl

theorem agrees_of_checkOf {x : Port} {d : Dir} (h : x.checkOf d = (x.queue d).check) : x.agrees d = true := by
  simp [Port.agrees, QCheck.pointerFails, QCheck.parityFails, h]

/-- Copies that agree still agree once the queue is replaced (R211, R212). -/
theorem agrees_setQueue {x : Port} {d : Dir} (h : x.agrees d = true) (q : Queue) : (x.setQueue d q).agrees d = true :=
  agrees_of_checkOf (x.agrees_setQueue d q (checkOf_of_agrees h))

/-! ### Entry -/

section
variable {s : State} {p : PortId} {d : Dir} {i : Item} {urgent : Bool} {notes : List Note} {order : Option Nat}

/-- The events that wait for an entering item: of a receive queue, its demotion's and THRESH's too (R194, R305). -/
def State.entryNotes (s : State) (p : PortId) (d : Dir) (i : Item) (urgent : Bool) (notes : List Note) : List Note :=
  match d with
  | .rx => notes ++ (if ((s.port p).queue .rx).demotes ((s.port p).fmt .rx) i urgent then [{ k := 1, bit := 0 }] else []) ++
      (if decide (0 < (s.port p).thresh .rx ∧ ((s.port p).queue .rx).items < (s.port p).thresh .rx ∧
        (s.port p).thresh .rx ≤ ((s.port p).queue .rx).items + 1) then [{ k := 1, bit := 2 }] else [])
  | .tx => notes

theorem enterItem_of_enter (hsound : s.sound p d = true) {r : Entered}
    (hr : (s.queue p d).enter ((s.port p).fmt d) ((s.port p).guard d) (s.pool p) i urgent (s.entryNotes p d i urgent notes)
      order = some r) :
    ∃ t, s.enterItem p d i urgent notes order = some t ∧ t.berth p = (s.putQueue p d r.q r.pool).berth p := by
  have hone (c : Bool) {v w : State} (hw : w.berth p = v.berth p) : (if c then w else v).berth p = v.berth p := by
    cases c
    · rfl
    · exact hw
  unfold State.enterItem
  rw [hsound, if_neg (by decide)]
  cases d
  · have hr' : ((s.port p).queue .rx).enter ((s.port p).fmt .rx) ((s.port p).guard .rx) (s.pool p) i urgent
      (notes ++ _ ++ _) order = some r := hr
    dsimp only
    rw [hr']
    exact ⟨_, rfl, (hone _ (markRxq_berth ..)).trans (hone _ (markRxq_berth ..))⟩
  · have hr' : ((s.port p).queue .tx).enter ((s.port p).fmt .tx) ((s.port p).guard .tx) (s.pool p) i urgent notes order =
      some r := hr
    dsimp only
    rw [hr']
    exact ⟨_, rfl, (hone _ (txqEvent_berth ..)).trans (hone _ (txqEvent_berth ..))⟩

/-- What the entry of an item that its queue takes leaves: the queue as R185 says, and the pool. -/
theorem enterItem_enters (hsound : s.sound p d = true) (hfree : i.cells ≤ (s.queue p d).freeCells (s.pool p)) :
    ∃ (ns : List Note) (r : Entered) (t : State),
      (s.queue p d).enter ((s.port p).fmt d) ((s.port p).guard d) (s.pool p) i urgent ns order = some r ∧
      s.enterItem p d i urgent notes order = some t ∧
      t.berth p = (((s.port p).setQueue d r.q).unmarked, r.pool, (s.region (regionOf p)).poolUpsets) := by
  obtain ⟨r, hr, -⟩ := enter_room (f := (s.port p).fmt d) (guard := (s.port p).guard d) (urgent := urgent)
    (notes := s.entryNotes p d i urgent notes) (order := order) hfree
  obtain ⟨t, ht, hberth⟩ := enterItem_of_enter hsound hr
  exact ⟨_, r, t, hr, ht, hberth.trans (putQueue_berth p s d r.q r.pool)⟩

theorem enterItem_none (hfull : (s.queue p d).takesUrgent ((s.port p).fmt d) i urgent = false)
    (hfree : (s.queue p d).freeCells (s.pool p) < i.cells) : s.enterItem p d i urgent notes order = none := by
  unfold State.enterItem
  split
  · rfl
  · dsimp only
    rw [show (s.port p).queue d = s.queue p d from rfl, enter_full hfull hfree]

end

end Sys2Proof.Machine
end

section
/-! SUPPORT. How GAPs and FLUSH marks are written, what the Sieve's acceptance of the held item leaves, and when a queue that
was emptied has room for both marks (02 R46, R47; 07 R206; 04 R107). -/

namespace Sys2Proof.Machine

/-! ### Marks -/

theorem isMark_mark1 (t : BitVec 5) (arg : BitVec 10) : (mark1 t arg).isMark = true := by
  unfold Item.isMark mark1
  simp
theorem isMark_mark2 (t : BitVec 5) (arg : BitVec 10) (x : CellW) : (mark2 t arg x).isMark = true := by
  unfold Item.isMark mark2
  simp
theorem isMark_gapMark (reason : BitVec 4) (count : Option Nat) : (gapMark reason count).isMark = true := isMark_mark2 ..
theorem withUrgent_of_isMark {i : Item} (h : i.isMark = true) (u : Bool) : i.withUrgent u = i := if_pos h
theorem cells_gapMark (reason : BitVec 4) (count : Option Nat) : (gapMark reason count).cells = 2 := rfl
theorem gapMark_min (reason : BitVec 4) (n : Nat) : gapMark reason (some (min n Config.maxLoss)) = gapMark reason (some n) := by
  unfold gapMark
  dsimp only
  rw [Nat.min_assoc, Nat.min_self]

/-- The loss that opens a record (R47). -/
theorem joinLoss_none (reason : BitVec 4) (count : Option Nat) (notes : List Note) :
    joinLoss none reason count notes = some { reason := reason, count := addLoss count (some 0), notes := notes } := rfl
theorem gapMark_addLoss (reason : BitVec 4) (count : Option Nat) :
    gapMark reason (addLoss count (some 0)) = gapMark reason count := by
  cases count with
  | none => rfl
  | some n => exact gapMark_min reason n

/-! ### One queue of one port -/

theorem unmarked_setQueue (x : Port) (d : Dir) (q : Queue) : (x.setQueue d q).unmarked = x.unmarked.setQueue d q := by
  cases d <;> rfl

theorem setQueue_setQueue {x : Port} {d : Dir} (h : x.agrees d = true) (q r : Queue) :
    (x.setQueue d q).setQueue d r = x.setQueue d r := by
  have hx := checkOf_of_agrees h
  unfold Port.setQueue
  rw [if_pos hx, if_pos (by cases d <;> rfl), if_pos hx]
  cases d <;> rfl

/-- State `t` is state `s`, as far as port `p` but for its marks and the pool of its region tell, with queue `d` and the pool
replaced. -/
def State.Shows (s : State) (p : PortId) (d : Dir) (q : Queue) (n : Nat) (t : State) : Prop :=
  t.berth p = (((s.port p).setQueue d q).unmarked, n, (s.region (regionOf p)).poolUpsets)

section
variable {s t : State} {p : PortId} {d : Dir} {q : Queue} {n : Nat}

theorem State.Shows.queue (h : s.Shows p d q n t) : t.queue p d = q := (queue_of_berth h d).trans (Port.queue_setQueue ..)
theorem State.Shows.pool (h : s.Shows p d q n t) : t.pool p = n := pool_of_berth h
theorem State.Shows.sound (h : s.Shows p d q n t) (hs : s.sound p d = true) : t.sound p d = true := by
  obtain ⟨ha, hu⟩ := (Bool.and_eq_true ..).mp hs
  rw [sound_of_berth h, agrees_setQueue ha, hu]
  rfl
theorem State.Shows.unmarked (h : s.Shows p d q n t) : (t.port p).unmarked = ((s.port p).setQueue d q).unmarked :=
  unmarked_of_berth h
theorem State.Shows.rx (h : s.Shows p d q n t) : (t.port p).unmarked.rx = (s.port p).unmarked.rx := by
  rw [h.unmarked]
  cases d <;> rfl

theorem fmt_of_unmarked {x y : Port} (h : x.unmarked = y.unmarked) : x.fmt d = y.fmt d := by
  have hf : x.unmarked.fmt d = y.unmarked.fmt d := congrArg (Port.fmt · d) h
  exact hf
theorem guard_of_unmarked {x y : Port} (h : x.unmarked = y.unmarked) : x.guard d = y.guard d := by
  have hf : x.unmarked.guard d = y.unmarked.guard d := congrArg (Port.guard · d) h
  cases d <;> exact hf
theorem fmt_setQueue (x : Port) (d e : Dir) (q : Queue) : (x.setQueue d q).fmt e = x.fmt e := by cases d <;> rfl
theorem guard_setQueue (x : Port) (d e : Dir) (q : Queue) : (x.setQueue d q).guard e = x.guard e := by
  cases d <;> cases e <;> rfl
theorem State.Shows.fmt (h : s.Shows p d q n t) : (t.port p).fmt d = (s.port p).fmt d :=
  (fmt_of_unmarked h.unmarked).trans (fmt_setQueue ..)
theorem State.Shows.guard (h : s.Shows p d q n t) : (t.port p).guard d = (s.port p).guard d :=
  (guard_of_unmarked h.unmarked).trans (guard_setQueue ..)

/-- What comes to pass after. -/
theorem State.Shows.trans {v : State} {r : Queue} {m : Nat} (h : s.Shows p d q n t) (hs : s.sound p d = true)
    (h' : t.Shows p d r m v) : s.Shows p d r m v := by
  have hu : (t.region (regionOf p)).poolUpsets = (s.region (regionOf p)).poolUpsets :=
    congrArg (fun b : Port × Nat × List SegUpset => b.2.2) h
  obtain ⟨ha, -⟩ := (Bool.and_eq_true ..).mp hs
  unfold State.Shows at h' ⊢
  rw [h', hu, unmarked_setQueue, h.unmarked, ← unmarked_setQueue, setQueue_setQueue ha]

theorem State.Shows.of_berth {v : State} (h : s.Shows p d q n t) (hv : v.berth p = t.berth p) : s.Shows p d q n v := hv.trans h

theorem modQueue_shows (s : State) (p : PortId) (d : Dir) (f : Queue → Queue) :
    s.Shows p d (f (s.queue p d)) (s.pool p) (s.modQueue p d f) := setQueue_berth ..
theorem deliver_shows (s : State) (p : PortId) : s.Shows p .rx (s.queue p .rx).deliver.2 (s.pool p) (s.deliver p) :=
  (tellAll_berth ..).trans (setQueue_berth ..)

/-- A state that stays is one that shows its own queue. -/
theorem shows_self (h : s.sound p d = true) : s.Shows p d (s.queue p d) (s.pool p) s := by
  obtain ⟨ha, -⟩ := (Bool.and_eq_true ..).mp h
  have hx := checkOf_of_agrees ha
  unfold State.Shows
  rw [show (s.port p).setQueue d (s.queue p d) = s.port p by
    unfold Port.setQueue State.queue
    rw [if_pos hx, ← hx]
    cases d <;> rfl]
  rfl

end

/-! ### Marks enter -/

section
variable {s : State} {p : PortId} {d : Dir}

/-- A mark of the bulk lane for which there is room enters as the last of that lane. -/
theorem enterItem_mark {i : Item} (hmark : i.isMark = true) (hsound : s.sound p d = true)
    (hfree : i.cells ≤ (s.queue p d).freeCells (s.pool p)) (notes : List Note) (order : Option Nat) :
    ∃ (ns : List Note) (r : Entered) (t : State),
      (s.queue p d).enter ((s.port p).fmt d) ((s.port p).guard d) (s.pool p) i false ns order = some r ∧
      s.enterItem p d i false notes order = some t ∧ s.Shows p d r.q r.pool t ∧ r.q.aside = (s.queue p d).aside ∧
      r.q.bulkItems = (s.queue p d).bulkItems ++ [i] ∧ r.q.urgItems = (s.queue p d).urgItems := by
  obtain ⟨ns, r, t, hr, ht, hshows⟩ := enterItem_enters (urgent := false) (notes := notes) (order := order) hsound hfree
  obtain ⟨r', hr', haside, -, hbulk⟩ := enter_room (f := (s.port p).fmt d) (guard := (s.port p).guard d) (urgent := false)
    (notes := ns) (order := order) hfree
  obtain rfl : r = r' := Option.some.inj (hr.symm.trans hr')
  obtain ⟨hb, hu⟩ := hbulk rfl
  rw [withUrgent_of_isMark hmark] at hb
  exact ⟨ns, r, t, hr, ht, hshows, haside, hb, hu⟩

/-- What the entry of a queue's pending GAP leaves: the record is gone, and the GAP stands last in the bulk lane. -/
theorem enterItem_gap (l : Loss) (hsound : s.sound p d = true)
    (hfree : 2 ≤ (s.queue p d).freeCells (s.pool p)) (notes : List Note) :
    ∃ (ns : List Note) (r : Entered) (t : State),
      ({ s.queue p d with pend := none } : Queue).enter ((s.port p).fmt d) ((s.port p).guard d) (s.pool p)
        (gapMark l.reason l.count) false ns none = some r ∧
      (s.modQueue p d (fun q => { q with pend := none })).enterItem p d (gapMark l.reason l.count) false notes none = some t ∧
      s.Shows p d r.q r.pool t ∧ r.q.aside = ({ s.queue p d with pend := none } : Queue).aside ∧
      r.q.bulkItems = (s.queue p d).bulkItems ++ [gapMark l.reason l.count] ∧ r.q.urgItems = (s.queue p d).urgItems := by
  have hmod := modQueue_shows s p d (fun q => { q with pend := none })
  obtain ⟨ns, r, t, hr, ht, hshows, haside, hbulk, hurg⟩ := enterItem_mark (isMark_gapMark l.reason l.count)
    (hmod.sound hsound) (by rw [hmod.queue, hmod.pool]; exact hfree) notes none
  rw [hmod.queue, hmod.pool, hmod.fmt, hmod.guard] at hr
  rw [hmod.queue] at haside hbulk hurg
  exact ⟨ns, r, t, hr, ht, hmod.trans hsound hshows, haside, hbulk, hurg⟩

end

end Sys2Proof.Machine
end

section
/-! SUPPORT. A pending loss and the owed FLUSH marks written (R46, R47, R206), and the room of a queue that was emptied. -/

namespace Sys2Proof.Machine

section
variable {s : State} {p : PortId} {d : Dir}

/-! ### One GAP, one FLUSH -/

/-- The GAP of a receive queue's record that no freeze holds: it stands last in the bulk lane, and the record is gone. -/
theorem writeGap_rx {l : Loss} (hpend : (s.queue p .rx).pend = some l) (hheld : l.held = false) (hsound : s.sound p .rx = true)
    (hfree : 2 ≤ (s.queue p .rx).freeCells (s.pool p)) :
    ∃ (ns : List Note) (r : Entered),
      ({ s.queue p .rx with pend := none } : Queue).enter ((s.port p).fmt .rx) ((s.port p).guard .rx) (s.pool p)
        (gapMark l.reason l.count) false ns none = some r ∧
      s.Shows p .rx r.q r.pool (s.writeGap p .rx) ∧ r.q.aside = ({ s.queue p .rx with pend := none } : Queue).aside ∧
      r.q.bulkItems = (s.queue p .rx).bulkItems ++ [gapMark l.reason l.count] ∧ r.q.urgItems = (s.queue p .rx).urgItems := by
  obtain ⟨ns, r, t, hr, ht, hshows, haside, hbulk, hurg⟩ :=
    enterItem_gap (d := .rx) l hsound hfree (l.notes ++ [{ k := 1, bit := 1 }])
  refine ⟨ns, r, hr, ?_, haside, hbulk, hurg⟩
  unfold State.writeGap
  rw [hpend]
  dsimp only
  rw [ht]
  dsimp only
  rw [hheld, Bool.false_and, if_neg Bool.false_ne_true]
  exact hshows.of_berth (markRxq_berth ..)

/-- The GAP of a transmit queue counts in its port's GAPS. -/
theorem writeGap_tx {l : Loss} (hpend : (s.queue p .tx).pend = some l) (hsound : s.sound p .tx = true)
    (hfree : 2 ≤ (s.queue p .tx).freeCells (s.pool p)) :
    ∃ r : Entered, (s.writeGap p .tx).queue p .tx = r.q ∧ r.q.aside = ({ s.queue p .tx with pend := none } : Queue).aside ∧
      r.q.bulkItems = (s.queue p .tx).bulkItems ++ [gapMark l.reason l.count] ∧ r.q.urgItems = (s.queue p .tx).urgItems ∧
      ((s.writeGap p .tx).port p).gaps = (s.port p).gaps + 1 := by
  obtain ⟨ns, r, t, hr, ht, hshows, haside, hbulk, hurg⟩ := enterItem_gap (d := .tx) l hsound hfree []
  have hwrite : s.writeGap p .tx = t.noteTxGap p l := by
    unfold State.writeGap
    rw [hpend]
    dsimp only
    rw [ht]
  have hcounted (f : Port → Port) (b : Fin 5) :
      (((t.modPort p f).txqEvent b p).port p).unmarked = (f (t.port p)).unmarked := by
    rw [unmarked_of_berth (txqEvent_berth ..), State.port_modPort]
  have hgaps : (t.port p).gaps = (s.port p).gaps := by
    have h : (t.port p).unmarked.gaps = (((s.port p).setQueue .tx r.q).unmarked).gaps := congrArg Port.gaps hshows.unmarked
    exact h
  refine ⟨r, ?_, haside, hbulk, hurg, ?_⟩
  · rw [hwrite]
    refine Eq.trans (queue_of_unmarked (hcounted _ 1) .tx) (Eq.trans ?_ hshows.queue)
    cases l.count <;> rfl
  · rw [hwrite]
    have h : (((t.noteTxGap p l).port p).unmarked).gaps = _ := congrArg Port.gaps (hcounted _ 1)
    refine Eq.trans h (Eq.trans ?_ (congrArg (· + 1) hgaps))
    cases l.count <;> rfl

/-- One owed FLUSH enters as the last of the bulk lane, and none is owed any more. -/
theorem payFlush_one (hsound : s.sound p d = true) (hfree : 1 ≤ (s.queue p d).freeCells (s.pool p)) :
    ∃ (r : Entered), s.Shows p d { r.q with flushOwed := 0 } r.pool (s.payFlush p d 1) ∧
      r.q.aside = (s.queue p d).aside ∧ r.q.bulkItems = (s.queue p d).bulkItems ++ [flushMark] ∧
      r.q.urgItems = (s.queue p d).urgItems := by
  obtain ⟨ns, r, t, -, ht, hshows, haside, hbulk, hurg⟩ := enterItem_mark (i := flushMark) (isMark_mark1 8 0) hsound hfree [] none
  refine ⟨r, ?_, haside, hbulk, hurg⟩
  have hpay : s.payFlush p d 1 = t.modQueue p d (fun q => { q with flushOwed := 0 }) := by
    change (match s.enterItem p d flushMark false [] none with | none => s | some t => _ : State) = _
    rw [ht]
    rfl
  have hmod := modQueue_shows t p d (fun q => { q with flushOwed := 0 })
  rw [hshows.queue, hshows.pool] at hmod
  rw [hpay]
  exact hshows.trans hsound hmod

/-! ### Both, as the queue takes them -/

theorem tryGap_unblocked {force : Bool} (h : (s.queue p d).blocked = false) : s.tryGap p d force = s := by
  refine if_pos ?_
  change ((!force && _) || !(s.queue p d).blocked || _) = true
  rw [h]
  simp

/-- The GAP and the FLUSH marks are written where nothing holds them and there is room for all. -/
theorem tryGap_rx_writes {force : Bool} (hwaits : force = true ∨ (s.port p).gapWaits .rx = false) (hblocked : (s.queue p .rx).blocked = true)
    (hroom : (if (s.queue p .rx).pend.isSome then 2 else 0) + (s.queue p .rx).flushOwed ≤ (s.queue p .rx).freeCells (s.pool p)) :
    s.tryGap p .rx force = ((s.writeGap p .rx).payFlush p .rx (s.queue p .rx).flushOwed).deliver p := by
  refine if_neg ?_
  change ¬ ((!force && _) || !(s.queue p .rx).blocked ||
    decide ((s.queue p .rx).freeCells (s.pool p) < (if (s.queue p .rx).pend.isSome then 2 else 0) + (s.queue p .rx).flushOwed)) = true
  rw [hblocked, decide_eq_false (Nat.not_lt.mpr hroom)]
  obtain rfl | hw := hwaits
  · simp
  · rw [hw]
    cases force <;> decide

theorem tryGap_tx_writes (hwaits : (s.port p).gapWaits .tx = false) (hblocked : (s.queue p .tx).blocked = true)
    (hroom : (if (s.queue p .tx).pend.isSome then 2 else 0) + (s.queue p .tx).flushOwed ≤ (s.queue p .tx).freeCells (s.pool p)) :
    s.tryGap p .tx false = (s.writeGap p .tx).payFlush p .tx (s.queue p .tx).flushOwed := by
  refine if_neg ?_
  change ¬ ((!false && (s.port p).gapWaits .tx) || !(s.queue p .tx).blocked ||
    decide ((s.queue p .tx).freeCells (s.pool p) < (if (s.queue p .tx).pend.isSome then 2 else 0) + (s.queue p .tx).flushOwed)) = true
  rw [hblocked, decide_eq_false (Nat.not_lt.mpr hroom), hwaits]
  decide

theorem writeGap_none (h : (s.queue p d).pend = none) : s.writeGap p d = s := by
  unfold State.writeGap
  rw [h]

end

/-! ### A queue that was emptied -/

/-- The open tail is a whole segment of which at most `n` cells are written, and at most `n` of the head are read. -/
def Queue.freshTail (q : Queue) (n : Nat) : Prop :=
  q.segs.getLast?.map (fun g => g.cells) = some 64 ∧ q.tailUsed ≤ n ∧ q.headRead ≤ n

theorem freeCells_of_freshTail {q : Queue} {n : Nat} (h : q.freshTail n) (pool : Nat) : 64 - n ≤ q.freeCells pool := by
  obtain ⟨hlast, hused, -⟩ := h
  have htail : q.tailFree = 64 - q.tailUsed := by
    unfold Queue.tailFree
    rw [hlast]
    rfl
  unfold Queue.freeCells
  omega

theorem freshTail_mono {q : Queue} {n m : Nat} (h : q.freshTail n) (hnm : n ≤ m) : q.freshTail m := by
  obtain ⟨hlast, hused, hread⟩ := h
  exact ⟨hlast, hused.trans hnm, hread.trans hnm⟩

/-- A queue that goes on with a segment of its own or the pool's has a fresh tail, unless it takes cells that were set aside. -/
theorem takeSeg_freshTail {q : Queue} {guard pool n : Nat} (hhead : q.headRead ≤ n)
    (hspare : q.spare = 0 ∨ (64 * q.freeOwn + q.spare ≤ guard ∧ 0 < pool)) (hfree : 0 < q.freeOwn + pool) :
    (q.takeSeg guard pool).1.segs.getLast?.map (fun g => g.cells) = some 64 ∧ (q.takeSeg guard pool).1.tailUsed = 0 ∧
      (q.takeSeg guard pool).1.headRead ≤ n := by
  unfold Queue.takeSeg
  by_cases hown : 0 < q.freeOwn + q.spare ∧ (guard < 64 * q.freeOwn + q.spare ∨ pool = 0)
  · rw [if_pos hown]
    have hz : q.spare = 0 := by omega
    unfold Queue.takeOwn
    rw [if_neg (by omega)]
    exact ⟨by simp [Config.segCells], rfl, hhead⟩
  · rw [if_neg hown, if_pos (by omega)]
    exact ⟨by simp [Config.segCells], rfl, hhead⟩

/-- A write goes on in a fresh tail. -/
theorem writeCell_freshTail {q : Queue} {n : Nat} (h : q.freshTail n) (hn : n < 64) (guard pool : Nat) :
    (q.writeCell guard pool).1.freshTail (n + 1) := by
  obtain ⟨hlast, hused, hread⟩ := h
  have htail : q.tailFree = 64 - q.tailUsed := by
    unfold Queue.tailFree
    rw [hlast]
    rfl
  unfold Queue.writeCell
  by_cases hg : q.tailGuarded guard pool = true
  · rw [if_pos hg]
    unfold Queue.tailGuarded at hg
    obtain ⟨hres, hg⟩ := (Bool.and_eq_true ..).mp hg
    obtain ⟨-, hguard, hpool⟩ := of_decide_eq_true hg
    have haside : q.setAside.headRead ≤ n ∧
        (q.setAside.spare = 0 ∨ (64 * q.setAside.freeOwn + q.setAside.spare ≤ guard ∧ 0 < pool)) := by
      unfold Queue.setAside
      split
      · exact ⟨Nat.zero_le n, Or.inl rfl⟩
      · refine ⟨hread, Or.inr ⟨?_, hpool⟩⟩
        refine Nat.le_trans ?_ hguard
        unfold Queue.freeReserved
        rw [if_pos hres]
        cases hl : q.segs.getLast? with
        | none => rw [hl] at hlast; cases hlast
        | some g =>
          have hsegs : q.segs = q.segs.dropLast ++ [g] := (List.dropLast_append_getLast? g hl).symm
          have hspare : q.spare = (q.segs.dropLast.map (fun g => g.spare)).sum + g.spare := by
            unfold Queue.spare
            conv_lhs => rw [hsegs]
            rw [List.map_append, List.sum_append]
            simp
          unfold Queue.spare at hspare ⊢
          rw [List.map_dropLast] at hspare
          simp
          omega
    obtain ⟨hhead, hspare⟩ := haside
    obtain ⟨hcells, hzero, hread'⟩ := takeSeg_freshTail (guard := guard) hhead hspare (by omega)
    exact ⟨hcells, by dsimp only; omega, by dsimp only; omega⟩
  · rw [if_neg hg, if_neg (by omega)]
    exact ⟨hlast, by dsimp only; omega, by dsimp only; omega⟩

/-- A read leaves the tail as it is. -/
theorem readCell_freshTail {q : Queue} {n : Nat} (h : q.freshTail n) (hn : n + 1 < 64) (pool : Nat) :
    (q.readCell pool).1.freshTail (n + 1) := by
  obtain ⟨hlast, hused, hread⟩ := h
  unfold Queue.readCell
  cases hs : q.segs with
  | nil => rw [hs] at hlast; cases hlast
  | cons g t =>
    rw [hs] at hlast
    dsimp only
    by_cases hmore : q.headRead + 1 < g.cells
    · rw [if_pos hmore]
      exact ⟨hlast, by dsimp only; omega, by dsimp only; omega⟩
    · rw [if_neg hmore]
      have ht : t.getLast?.map (fun g => g.cells) = some 64 := by
        cases t with
        | nil =>
          have hg : g.cells = 64 := Option.some.inj hlast
          omega
        | cons u t =>
          rw [List.getLast?_cons_cons] at hlast
          exact hlast
      split
      · exact ⟨ht, by dsimp only; omega, Nat.zero_le _⟩
      · split
        · exact ⟨ht, by dsimp only; omega, Nat.zero_le _⟩
        · exact ⟨ht, by dsimp only; omega, Nat.zero_le _⟩

/-- A queue in which nothing is written yet has a fresh tail after its first cell. -/
theorem writeCell_empty {q : Queue} (hsegs : q.segs = []) (hread : q.headRead = 0) {guard pool : Nat}
    (hfree : 0 < q.freeCells pool) : (q.writeCell guard pool).1.freshTail 1 := by
  have htail : q.tailFree = 0 := by
    unfold Queue.tailFree
    rw [hsegs]
    exact Nat.zero_sub _
  have hspare : q.spare = 0 := by
    unfold Queue.spare
    rw [hsegs]
    rfl
  have hguard : q.tailGuarded guard pool = false := by
    unfold Queue.tailGuarded Queue.tailReserved
    rw [hsegs]
    rfl
  unfold Queue.writeCell
  rw [hguard, if_neg Bool.false_ne_true, if_pos htail]
  obtain ⟨hcells, hzero, hread'⟩ := takeSeg_freshTail (n := 0) (guard := guard) (pool := pool) (q := q) (by omega) (Or.inl hspare)
    (by unfold Queue.freeCells at hfree; omega)
  exact ⟨hcells, by dsimp only; omega, by dsimp only; omega⟩

/-- A mark of two cells pushed into a queue with nothing in its store leaves its tail fresh. -/
theorem pushBulk_freshTail {q : Queue} (hsegs : q.segs = []) (hread : q.headRead = 0) (hstore : q.store = [])
    {guard pool : Nat} (f : QFmt) {e : Entry} (hcells : e.item.cells = 2) (hfree : 0 < q.freeCells pool) :
    (q.pushBulk f guard pool e).1.freshTail 4 := by
  have hone := writeCell_empty (guard := guard) hsegs hread hfree
  have htwo := writeCell_freshTail hone (by omega) guard (q.writeCell guard pool).2
  have hwrite := writeItem_placeless q guard pool 2
  unfold Queue.pushBulk Queue.refill
  rw [hcells]
  extract_lets r src q1
  have hq1 : q1.freshTail 2 := htwo
  have hstore1 : q1.store = [e] := by
    change r.1.store ++ [e] = [e]
    rw [show r.1.store = q.store from store_of_placeless hwrite, hstore]
    rfl
  have hnoted : (q1.noteEntry f e.item .bulk).freshTail 2 := hq1
  generalize hq2 : q1.noteEntry f e.item .bulk = q2 at hnoted ⊢
  have hstore2 : q2.store = [e] := by rw [← hq2]; exact hstore1
  rw [hstore2]
  unfold Queue.refillFrom
  split
  · rw [hcells]
    have hthree := readCell_freshTail hnoted (by omega) r.2
    have hfour := readCell_freshTail hthree (by omega) (q2.readCell r.2).2
    exact hfour
  · exact freshTail_mono hnoted (by omega)

/-- A mark enters by the bulk path. -/
theorem enter_mark {q : Queue} {f : QFmt} {guard pool : Nat} {i : Item} {notes : List Note} (hmark : i.isMark = true)
    (hfree : i.cells ≤ q.freeCells pool) :
    ∃ (q' : Queue) (e : Entry), q'.segs = q.segs ∧ q'.headRead = q.headRead ∧ q'.store = q.store ∧
      q'.freeCells pool = q.freeCells pool ∧ e.item = i ∧ q.enter f guard pool i false notes none =
        some { q := (q'.pushBulk f guard pool e).1, pool := (q'.pushBulk f guard pool e).2 } := by
  refine ⟨{ q with demoting := q.demotingAt f i || false },
    { item := i.withUrgent false, start := q.begins f i, tag := q.wEpoch, notes := notes, order := none },
    rfl, rfl, rfl, rfl, withUrgent_of_isMark hmark false, ?_⟩
  unfold Queue.enter
  simp only [Bool.false_and, Bool.false_eq_true, if_false]
  rw [if_neg (Nat.not_lt.mpr hfree)]

/-- After a GAP has entered a queue that was emptied, the queue has room for a FLUSH. -/
theorem freeCells_after_gap {q : Queue} (hsegs : q.segs = []) (hread : q.headRead = 0) (hstore : q.store = [])
    {f : QFmt} {guard pool : Nat} {reason : BitVec 4} {count : Option Nat} {notes : List Note} {r : Entered}
    (hfree : 2 ≤ q.freeCells pool) (hr : q.enter f guard pool (gapMark reason count) false notes none = some r) :
    1 ≤ r.q.freeCells r.pool := by
  obtain ⟨q', e, hq', hread', hstore', hfree', hitem, henter⟩ := enter_mark (f := f) (guard := guard) (notes := notes)
    (isMark_gapMark reason count) hfree
  have hpos : 0 < q'.freeCells pool := by rw [hfree']; omega
  have hfresh := pushBulk_freshTail (hq'.trans hsegs) (hread'.trans hread) (hstore'.trans hstore) (guard := guard) f
    (e := e) (by rw [hitem, cells_gapMark]) hpos
  have hroom := freeCells_of_freshTail hfresh (q'.pushBulk f guard pool e).2
  rw [← Option.some.inj (henter.symm.trans hr)]
  exact Nat.le_trans (by omega) hroom

end Sys2Proof.Machine
end

section
/-! SUPPORT. What the Sieve's acceptance of the held item leaves (04 R107; 07 R195), what it takes, and the obligation on the
items offered to a queue. -/

namespace Sys2Proof.Machine

/-! ### The acceptance of the held item (R107) -/

section
variable {s : State} {p : PortId}

/-- A receive queue with nothing that goes first: no crossed flush, no pending loss and no owed FLUSH. -/
def Queue.clearAhead (q : Queue) : Prop := q.pend = none ∧ q.flushOwed = 0 ∧ q.flushing = false

theorem blocked_of_clearAhead {q : Queue} (h : q.clearAhead) : q.blocked = false := by
  obtain ⟨hpend, howed, -⟩ := h
  unfold Queue.blocked
  rw [hpend, howed]
  rfl

theorem clearAhead_of_aside {q r : Queue} (h : r.aside = q.aside) (hq : q.clearAhead) : r.clearAhead := by
  obtain ⟨hpend, howed, hflush⟩ := hq
  obtain ⟨hp, hrest⟩ := Prod.mk.inj h
  obtain ⟨hf, ho⟩ := Prod.mk.inj (Prod.mk.inj hrest).1
  refine ⟨hp.trans hpend, ho.trans howed, Eq.trans ?_ hflush⟩
  unfold Queue.flushing
  rw [hf]

theorem atBoundary_of_not_flushing {d : Dir} (h : (s.queue p d).flushing = false) : s.atBoundary p d = s :=
  if_neg (by rw [h, Bool.false_and]; exact Bool.false_ne_true)
theorem boundaryBefore_of_not_flushing {d : Dir} {i : Item} (h : (s.queue p d).flushing = false) : s.boundaryBefore p d i = s :=
  if_neg (by rw [h, Bool.false_and]; exact Bool.false_ne_true)

/-- The GAP and FLUSH that stand before what is held. -/
theorem ahead_of_drain (h : (s.queue p .rx).clearAhead) : (s.atBoundary p .rx).tryGap p .rx false = s := by
  rw [atBoundary_of_not_flushing h.2.2, tryGap_unblocked (blocked_of_clearAhead h)]

theorem drain_empty (h : (s.queue p .rx).clearAhead) (hold : (s.port p).rx.holding = none) : s.drain p = s.tieSync p := by
  unfold State.drain
  dsimp only
  rw [ahead_of_drain h, hold]

theorem drain_accepts {h : HeldItem} {t : State} (hahead : (s.queue p .rx).clearAhead) (hold : (s.port p).rx.holding = some h)
    (ht : (s.clearHolding p).enterItem p .rx h.item (h.lane == .urgent) (rxItemNotes h) none = some t) :
    s.drain p = ((t.rxEntered p h).deliver p).tieSync p := by
  unfold State.drain
  dsimp only
  rw [ahead_of_drain hahead, hold]
  dsimp only
  rw [boundaryBefore_of_not_flushing hahead.2.2, hahead.2.2, blocked_of_clearAhead hahead, if_neg Bool.false_ne_true,
    if_neg Bool.false_ne_true, ht]

theorem drain_waits {h : HeldItem} (hahead : (s.queue p .rx).clearAhead) (hold : (s.port p).rx.holding = some h)
    (ht : (s.clearHolding p).enterItem p .rx h.item (h.lane == .urgent) (rxItemNotes h) none = none) :
    s.drain p = s.tieSync p := by
  unfold State.drain
  dsimp only
  rw [ahead_of_drain hahead, hold]
  dsimp only
  rw [boundaryBefore_of_not_flushing hahead.2.2, hahead.2.2, blocked_of_clearAhead hahead, if_neg Bool.false_ne_true,
    if_neg Bool.false_ne_true, ht]

end

/-! ### What it leaves -/

/-- A port whose holding register is empty. -/
def Port.freed (x : Port) : Port := { x with rx := { x.rx with holding := none } }
/-- A port with an AF_EVENTS bit set where an item brings one. -/
def Port.afTold (x : Port) (af : Option (Fin 4)) : Port :=
  match af with
  | some b => { x with af := { x.af with events := x.af.events ||| oneBit 4 b.val } }
  | none => x

theorem unmarked_afTold (x : Port) (af : Option (Fin 4)) : (x.afTold af).unmarked = x.unmarked.afTold af := by cases af <;> rfl
theorem unmarked_freed (x : Port) : x.freed.unmarked = x.unmarked.freed := rfl
theorem queue_afTold (x : Port) (af : Option (Fin 4)) (d : Dir) : (x.afTold af).queue d = x.queue d := by
  cases af <;> cases d <;> rfl
theorem afTold_setQueue (x : Port) (af : Option (Fin 4)) (d : Dir) (q : Queue) :
    (x.afTold af).setQueue d q = (x.setQueue d q).afTold af := by
  cases af <;> cases d <;> rfl

section
variable (s : State) (p : PortId)

theorem markAf_berth (b : Fin 4) : (s.markAf b p).berth p =
    (((s.port p).afTold (some b)).unmarked, s.pool p, (s.region (regionOf p)).poolUpsets) := by
  refine (count_berth ..).trans ?_
  unfold State.berth
  rw [State.port_modPort]
  have hhide : (Port.afTold ((s.port p).hide 3 b.val) (some b)).unmarked = ((s.port p).afTold (some b)).unmarked := by
    rw [unmarked_afTold, hide_unmarked, unmarked_afTold]
  exact congrArg (·, s.pool p, (s.region (regionOf p)).poolUpsets) hhide

/-- The bits and counts of an item that has entered but for that of AF_EVENTS. -/
theorem itemCounted_berth (i : Item) : (State.rxEntered p { item := i, lane := .bulk } s).berth p = s.berth p := by
  have hcount (e : Nat) : (s.portCount e p).berth p = s.berth p := count_berth ..
  have hmark (b : Fin 7) : ((s.portCount 16 p).markChar b p).berth p = s.berth p := (markChar_berth ..).trans (hcount 16)
  unfold State.rxEntered
  dsimp only
  exact keeps_if (π := State.berth p)
    (keeps_if (π := State.berth p) (markChar_berth ..) (keeps_if (π := State.berth p) (hcount 49) rfl))
    (keeps_if (π := State.berth p) (hmark 3) (keeps_if (π := State.berth p) (hmark 2)
      (keeps_if (π := State.berth p) (hmark 4) (hcount 16))))

/-- The event bits and counts of an item that has entered are marks of its port, but for the bit of AF_EVENTS. -/
theorem rxEntered_berth (h : HeldItem) : (s.rxEntered p h).berth p =
    (((s.port p).afTold h.af).unmarked, s.pool p, (s.region (regionOf p)).poolUpsets) := by
  cases haf : h.af with
  | none =>
    have hnone : s.rxEntered p h = State.rxEntered p { item := h.item, lane := .bulk } s := by
      unfold State.rxEntered
      rw [haf]
    exact (congrArg (State.berth p) hnone).trans (itemCounted_berth ..)
  | some b =>
    have hsome : s.rxEntered p h = State.rxEntered p { item := h.item, lane := .bulk } (s.markAf b p) := by
      unfold State.rxEntered
      rw [haf]
    exact (congrArg (State.berth p) hsome).trans ((itemCounted_berth ..).trans (markAf_berth ..))

theorem clearHolding_berth : (s.clearHolding p).berth p =
    ((s.port p).freed.unmarked, s.pool p, (s.region (regionOf p)).poolUpsets) := by
  unfold State.berth State.clearHolding
  rw [State.port_modPort]
  rfl

end

/-- What an item's entry makes of the lanes of its queue (R50, R185, R191). -/
def Queue.lanesAfter (q : Queue) (f : QFmt) (i : Item) (urgent : Bool) (r : Queue) : Prop :=
  r.aside = q.aside ∧
  (q.takesUrgent f i urgent = true → r.urgItems = q.urgItems ++ [i.withUrgent true] ∧ r.bulkItems = q.bulkItems) ∧
  (q.takesUrgent f i urgent = false → r.bulkItems = q.bulkItems ++ [i.withUrgent false] ∧ r.urgItems = q.urgItems)

theorem lanesAfter_deliver {q r : Queue} {f : QFmt} {i : Item} {urgent : Bool} (h : q.lanesAfter f i urgent r) :
    q.lanesAfter f i urgent r.deliver.2 := by
  obtain ⟨haside, hurgent, hbulk⟩ := h
  obtain ⟨hu, hb, ha⟩ := deliver_items r
  refine ⟨ha.trans haside, fun hc => ?_, fun hc => ?_⟩
  · rw [hu, hb]
    exact hurgent hc
  · rw [hu, hb]
    exact hbulk hc

theorem items_lanesAfter {q r : Queue} {f : QFmt} {i : Item} {urgent : Bool} (h : q.lanesAfter f i urgent r) :
    r.items = q.items + 1 := by
  obtain ⟨-, hurgent, hbulk⟩ := h
  rw [items_eq, items_eq]
  cases hc : q.takesUrgent f i urgent
  · obtain ⟨hb, hu⟩ := hbulk hc
    rw [hb, hu, List.length_append]
    rfl
  · obtain ⟨hu, hb⟩ := hurgent hc
    rw [hb, hu, List.length_append]
    simp
    omega

section
variable {s : State} {p : PortId} {h : HeldItem}

/-- The held item, with nothing before it and room for it, enters; the holding register is empty. -/
theorem drain_enters (hahead : (s.queue p .rx).clearAhead) (hold : (s.port p).rx.holding = some h) (hsound : s.sound p .rx = true)
    (hfree : h.item.cells ≤ (s.queue p .rx).freeCells (s.pool p)) :
    ∃ (r : Queue) (n : Nat), (s.drain p).berth p = ((((s.port p).freed.setQueue .rx r).afTold h.af).unmarked, n,
        (s.region (regionOf p)).poolUpsets) ∧
      (s.queue p .rx).lanesAfter ((s.port p).fmt .rx) h.item (h.lane == .urgent) r := by
  have hc := clearHolding_berth s p
  have hport : (s.clearHolding p).port p = (s.port p).freed := State.port_modPort ..
  have hqueue : (s.clearHolding p).queue p .rx = s.queue p .rx := queue_of_berth hc .rx
  have hpool : (s.clearHolding p).pool p = s.pool p := pool_of_berth hc
  have hsound' : (s.clearHolding p).sound p .rx = true := (sound_of_berth hc .rx).trans hsound
  have hagrees : (s.port p).freed.agrees .rx = true := ((Bool.and_eq_true ..).mp hsound).1
  obtain ⟨ns, r, t, hr, ht, hberth⟩ := enterItem_enters (urgent := h.lane == .urgent) (notes := rxItemNotes h) (order := none)
    hsound' (by rw [hqueue, hpool]; exact hfree)
  rw [hqueue, hpool, hport] at hr
  rw [hport] at hberth
  obtain ⟨r', hr', haside, hurgent, hbulk⟩ := enter_room (f := (s.port p).freed.fmt .rx) (guard := (s.port p).freed.guard .rx)
    (urgent := h.lane == .urgent) (notes := ns) (order := none) hfree
  obtain rfl : r = r' := Option.some.inj (hr.symm.trans hr')
  have hentered := rxEntered_berth t p h
  rw [show (t.region (regionOf p)).poolUpsets = (s.region (regionOf p)).poolUpsets from
    congrArg (fun b : Port × Nat × List SegUpset => b.2.2) hberth, unmarked_afTold, unmarked_of_berth hberth,
    ← unmarked_afTold] at hentered
  have hdeliver := deliver_shows (t.rxEntered p h) p
  unfold State.Shows at hdeliver
  rw [show ((t.rxEntered p h).region (regionOf p)).poolUpsets = (s.region (regionOf p)).poolUpsets from
    congrArg (fun b : Port × Nat × List SegUpset => b.2.2) hentered, unmarked_setQueue, unmarked_of_berth hentered,
    ← unmarked_setQueue, afTold_setQueue, setQueue_setQueue hagrees, queue_of_berth hentered, pool_of_berth hentered] at hdeliver
  have hq : ((((s.port p).freed.setQueue .rx r.q).afTold h.af).queue .rx) = r.q :=
    (queue_afTold ..).trans (Port.queue_setQueue ..)
  rw [hq] at hdeliver
  refine ⟨r.q.deliver.2, t.pool p, ?_, lanesAfter_deliver ⟨haside, hurgent, hbulk⟩⟩
  rw [drain_accepts hahead hold ht]
  exact (tieSync_berth ..).trans hdeliver

end

end Sys2Proof.Machine
end

section
/-! SUPPORT. An item offered to an empty holding register, what the Sieve takes (07 R195), and the obligation on both. -/

namespace Sys2Proof.Machine

/-! ### The offer (R107) -/

theorem freed_of_none {x : Port} (h : x.rx.holding = none) : x.freed = x := by
  have hr : ({ x.rx with holding := none } : RxSt) = x.rx := by rw [← h]
  unfold Port.freed
  rw [hr]

/-- A port with an item in its holding register. -/
def Port.holdItem (x : Port) (h : HeldItem) : Port := { x with rx := { x.rx with holding := some h } }
/-- An item in the holding register. -/
def State.holdItem (p : PortId) (h : HeldItem) (s : State) : State := s.modPort p (fun x => x.holdItem h)

theorem unmarked_holdItem (x : Port) (h : HeldItem) : (x.holdItem h).unmarked = x.unmarked.holdItem h := rfl
theorem freed_holdItem (x : Port) (h : HeldItem) : (x.holdItem h).freed = x.freed := rfl
theorem holding_holdItem (x : Port) (h : HeldItem) : (x.holdItem h).rx.holding = some h := rfl
theorem queue_holdItem (x : Port) (h : HeldItem) (d : Dir) : (x.holdItem h).queue d = x.queue d := by cases d <;> rfl
theorem fmt_holdItem (x : Port) (h : HeldItem) (d : Dir) : (x.holdItem h).fmt d = x.fmt d := rfl
theorem agrees_holdItem (x : Port) (h : HeldItem) (d : Dir) : (x.holdItem h).agrees d = x.agrees d := by cases d <;> rfl
theorem af_holdItem (x : Port) (h : HeldItem) : (x.holdItem h).af = x.af := rfl

section
variable {s : State} {p : PortId} {h : HeldItem}

theorem offer_eq (hahead : (s.queue p .rx).clearAhead) (hold : (s.port p).rx.holding = none) :
    s.offer p h = ((s.tieSync p).holdItem p h).drain p := by
  have hnone : ((s.tieSync p).port p).rx.holding = none :=
    (holding_of_unmarked (unmarked_of_berth (tieSync_berth p s))).trans hold
  unfold State.offer
  dsimp only
  rw [drain_empty hahead hold, hnone]
  rfl

theorem holdItem_berth (s : State) (p : PortId) (h : HeldItem) : (s.holdItem p h).berth p =
    (((s.port p).holdItem h).unmarked, s.pool p,
      (s.region (regionOf p)).poolUpsets) := by
  unfold State.berth State.holdItem
  rw [State.port_modPort]
  rfl

theorem port_of_sameBerth {s t : State} {p : PortId} (h : t.berth p = s.berth p) : (t.port p).unmarked = (s.port p).unmarked :=
  congrArg Prod.fst h
theorem region_of_sameBerth {s t : State} {p : PortId} (h : t.berth p = s.berth p) :
    (t.pool p, (t.region (regionOf p)).poolUpsets) = (s.pool p, (s.region (regionOf p)).poolUpsets) := congrArg Prod.snd h

/-- A port whose holding register was empty takes an item into it. -/
theorem held_berth (s : State) (p : PortId) (h : HeldItem) : ((s.tieSync p).holdItem p h).berth p =
    (((s.port p).holdItem h).unmarked, s.pool p,
      (s.region (regionOf p)).poolUpsets) := by
  have hb := tieSync_berth p s
  have hu := port_of_sameBerth hb
  have hr := region_of_sameBerth hb
  refine (holdItem_berth ..).trans (Prod.ext ?_ hr)
  rw [unmarked_holdItem, hu, ← unmarked_holdItem]

/-- An item offered with nothing before it and room for it enters its queue; the holding register is empty again. -/
theorem offer_enters (hahead : (s.queue p .rx).clearAhead) (hold : (s.port p).rx.holding = none) (hsound : s.sound p .rx = true)
    (hfree : h.item.cells ≤ (s.queue p .rx).freeCells (s.pool p)) :
    ∃ (r : Queue) (n : Nat), (s.offer p h).berth p = ((((s.port p).setQueue .rx r).afTold h.af).unmarked, n,
        (s.region (regionOf p)).poolUpsets) ∧
      (s.queue p .rx).lanesAfter ((s.port p).fmt .rx) h.item (h.lane == .urgent) r := by
  have hw := held_berth s p h
  rw [offer_eq hahead hold]
  generalize (s.tieSync p).holdItem p h = w at hw
  have hqueue : w.queue p .rx = s.queue p .rx := (queue_of_berth hw .rx).trans (queue_holdItem ..)
  have hpool : w.pool p = s.pool p := pool_of_berth hw
  have hfmt : (w.port p).fmt .rx = (s.port p).fmt .rx :=
    (fmt_of_unmarked (unmarked_of_berth hw)).trans (fmt_holdItem ..)
  have hsound' : w.sound p .rx = true := by
    rw [sound_of_berth hw, agrees_holdItem]
    exact hsound
  have hholds : (w.port p).rx.holding = some h := (holding_of_unmarked (unmarked_of_berth hw)).trans (holding_holdItem ..)
  have hfreed : (w.port p).freed.unmarked = (s.port p).unmarked := by
    rw [unmarked_freed, unmarked_of_berth hw, ← unmarked_freed, freed_holdItem, freed_of_none hold]
  obtain ⟨r, n, hdrain, hlanes⟩ := drain_enters (s := w) (h := h) (by rw [hqueue]; exact hahead)
    hholds hsound' (by rw [hqueue, hpool]; exact hfree)
  rw [hqueue, hfmt] at hlanes
  refine ⟨r, n, ?_, hlanes⟩
  rw [hdrain, unmarked_afTold, unmarked_setQueue, hfreed, ← unmarked_setQueue, ← unmarked_afTold,
    show (w.region (regionOf p)).poolUpsets = (s.region (regionOf p)).poolUpsets from
      congrArg (fun b : Port × Nat × List SegUpset => b.2.2) hw]

/-- An item that its queue has no room for waits in the holding register, and sets no bit. -/
theorem offer_waits (hahead : (s.queue p .rx).clearAhead) (hold : (s.port p).rx.holding = none) (hlane : h.lane = .bulk)
    (hfull : (s.queue p .rx).freeCells (s.pool p) < h.item.cells) :
    ((s.offer p h).port p).rx.holding = some h ∧ ((s.offer p h).port p).af = (s.port p).af := by
  have hw := held_berth s p h
  rw [offer_eq hahead hold]
  generalize (s.tieSync p).holdItem p h = w at hw
  have hqueue : w.queue p .rx = s.queue p .rx := (queue_of_berth hw .rx).trans (queue_holdItem ..)
  have hpool : w.pool p = s.pool p := pool_of_berth hw
  have hc := clearHolding_berth w p
  have hnone : (w.clearHolding p).enterItem p .rx h.item (h.lane == .urgent) (rxItemNotes h) none = none := by
    refine enterItem_none (by rw [hlane]; rfl) ?_
    rw [show (w.clearHolding p).queue p .rx = w.queue p .rx from queue_of_berth hc .rx, hqueue,
      show (w.clearHolding p).pool p = w.pool p from pool_of_berth hc, hpool]
    exact hfull
  rw [drain_waits (by rw [hqueue]; exact hahead)
    ((holding_of_unmarked (unmarked_of_berth hw)).trans (holding_holdItem ..)) hnone]
  have hsync := port_of_sameBerth (tieSync_berth p w)
  have hport := hsync.trans (unmarked_of_berth hw)
  exact ⟨(holding_of_unmarked hport).trans (holding_holdItem ..), (af_of_unmarked hport).trans (af_holdItem ..)⟩

end

end Sys2Proof.Machine
end

section
/-! SUPPORT. The order in which the Sieve takes items (07 R195; 02 R52 to R56), and the obligation on offered items. -/

namespace Sys2Proof.Machine

/-! ### The obligation -/

theorem overruns_of_unmarked {x y : Port} (h : x.unmarked = y.unmarked) : x.rx.overruns = y.rx.overruns := by
  have hh : x.unmarked.rx.overruns = y.unmarked.rx.overruns := congrArg (fun z : Port => z.rx.overruns) h
  exact hh

theorem takesUrgent_iff (q : Queue) (f : QFmt) (i : Item) (lane : QLane) : q.takesUrgent f i (lane == .urgent) = true ↔
    lane = .urgent ∧ i.barrier = false ∧ q.mustDemote f i = false := by
  unfold Queue.takesUrgent
  rw [Bool.and_eq_true, Bool.and_eq_true, Bool.not_eq_true', Bool.not_eq_true', and_assoc, beq_iff_eq]

/-- Settles O32: the offer enters its item, and the Sieve takes the head of one lane. -/
theorem offeredItemEnters : Obligations.OfferedItemEnters := by
  refine ⟨fun s p i lane hold hpend howed hflush hfree hsound => ?_, fun q pool r h => sieveNext_lanes h,
    fun q pool u us hu => ⟨fun hs r hr => sieveNext_serving_bulk hs hr, fun hs r hr => sieveNext_serving_urgent hu hs hr,
      fun hs hpin => sieveNext_between hu hs hpin⟩⟩
  have hahead : (s.queue p .rx).clearAhead := ⟨hpend, howed, hflush⟩
  obtain ⟨r, n, hberth, hlanes⟩ := offer_enters (h := { item := i, lane := lane }) hahead hold hsound hfree
  have hport := unmarked_of_berth hberth
  have hq : ((s.offer p { item := i, lane := lane }).port p).rxq = r :=
    (queue_of_unmarked hport .rx).trans ((queue_afTold ..).trans (Port.queue_setQueue ..))
  have hheld := holding_of_unmarked hport
  have hover := overruns_of_unmarked hport
  obtain ⟨haside, hurgent, hbulk⟩ := hlanes
  dsimp only
  rw [hq]
  refine ⟨hheld.trans hold, (clearAhead_of_aside haside hahead).1, items_lanesAfter ⟨haside, hurgent, hbulk⟩,
    hover, offer_steady .., fun hc => hurgent ((takesUrgent_iff ..).mpr hc), fun hc => hbulk ?_⟩
  rw [← Bool.not_eq_true, takesUrgent_iff]
  exact hc

end Sys2Proof.Machine
end

section
/-! SUPPORT. Glitches, waits of the receiver and the writing of what waits (04 R99, R107, R111, R112; 05 R144; 02 R47), and the
obligation on them. -/

namespace Sys2Proof.Machine

/-! ### Glitches (R99, R111) -/

theorem rx_hide (k : Fin 4) (b : Nat) (x : Port) : (x.hide k b).rx = x.rx := by
  unfold Port.hide
  split <;> rfl
theorem rxq_hide (k : Fin 4) (b : Nat) (x : Port) : (x.hide k b).rxq = x.rxq := by
  unfold Port.hide
  split <;> rfl

section
variable (s : State) (p : PortId)

theorem charEvent_port (b : Fin 7) : (s.charEvent b p).port p =
    Port.reveal 2 (oneBit 21 b.val) { (s.port p).hide 2 b.val with
      rx := { ((s.port p).hide 2 b.val).rx with charEvents := ((s.port p).hide 2 b.val).rx.charEvents ||| oneBit 7 b } } := by
  unfold State.charEvent State.tell State.markChar
  rw [port_of_attEvent, State.port_modPort, portCount_port, State.port_modPort]

theorem charEvent_rx (b : Fin 7) : ((s.charEvent b p).port p).rx =
    { (s.port p).rx with charEvents := (s.port p).rx.charEvents ||| oneBit 7 b } := by
  rw [charEvent_port]
  unfold Port.reveal
  dsimp only
  rw [rx_hide]

theorem charEvent_rxq (b : Fin 7) : ((s.charEvent b p).port p).rxq = (s.port p).rxq := by
  rw [charEvent_port]
  unfold Port.reveal
  dsimp only
  rw [rxq_hide]

/-- A glitch counts and sets its event bit; the queue and the line stay. -/
theorem glitch_counted : ((s.glitch p).port p).rx = { (s.port p).rx with
      glitches := satInc (s.port p).rx.glitches, charEvents := (s.port p).rx.charEvents ||| 2#7 } ∧
    (s.glitch p).steady = s.steady ∧ ((s.glitch p).port p).rxq = (s.port p).rxq := by
  unfold State.glitch
  refine ⟨?_, (charEvent_steady ..).trans (modRx_steady ..), ?_⟩
  · rw [charEvent_rx]
    unfold State.modRx
    rw [State.port_modPort]
    rfl
  · rw [charEvent_rxq]
    unfold State.modRx
    rw [State.port_modPort]

end

section
variable {s : State} {p : PortId}

theorem samples_of_hears (h : s.hears p = true) : (s.port p).samples = true := by
  unfold State.hears at h
  simp only [Bool.and_eq_true] at h
  obtain ⟨⟨-, hrec⟩, -⟩ := h
  unfold Port.receives at hrec
  exact ((Bool.and_eq_true ..).mp hrec).1

/-- A port that hears its line is not deaf to it in line-fault. -/
theorem deaf_of_hears (h : s.hears p = true) : (s.port p).deaf = false := by
  have hs := samples_of_hears h
  unfold Port.samples at hs
  unfold Port.deaf
  rw [Bool.and_eq_true, Bool.not_eq_true'] at hs
  rw [hs.2, Bool.and_false, Bool.false_and]

/-- What a port that hunts for a start makes of a character on its line. -/
theorem exec_characterReceived (h : s.hears p = true) (hphase : (s.port p).rx.phase = .hunting) (c : RxChar) :
    exec (.characterReceived p c) s = .next (
      if !startValid c then s.glitch p
      else
        let b := (s.port p).decideBits ((s.port p).centreNow s.fastDisable) c
        if !b.stop && b.data = 0#9 && !b.parity then
          (s.frameErrIfOpen p 6).modRx p (fun r => { r with phase := .inBreak })
        else
          let edges := (s.port p).dataEdges ((s.port p).centreNow s.fastDisable) c
          let t := s.enterChar p (conditionOf (s.port p).parity b.data b) b.data
          if (s.port p).fastEntry t.fastDisable (s.port p).rate.rxEntry then
            t.modRx p (fun r => { r with centre := trackCentre r.centre edges })
          else t) := by
  refine congrArg Host.Outcome.next ((if_neg ?_).trans (if_pos ?_))
  · rw [deaf_of_hears h, Bool.and_false, Bool.false_and]
    exact Bool.false_ne_true
  · rw [h, hphase]
    rfl

theorem exec_startRejected (h : s.hears p = true) (hphase : (s.port p).rx.phase = .hunting) :
    exec (.startRejected p) s = .next (s.glitch p) :=
  congrArg Host.Outcome.next (if_pos (by rw [h, hphase]; rfl))

theorem exec_breakRiseRejected (h : s.hears p = true) (hphase : (s.port p).rx.phase = .inBreak) :
    exec (.breakRiseRejected p) s = .next (s.glitch p) :=
  congrArg Host.Outcome.next (if_pos (by rw [h, hphase]; rfl))

/-! ### Waits that end -/

theorem exec_stuckLowEnd (hserving : s.serving = true) (hp : s.present p = true) (hphase : (s.port p).rx.phase = .stuck) :
    exec (.stuckLowEnd p) s = .next (s.modPort p (fun x => { x with rx := { x.rx with phase := .hunting } })) :=
  congrArg Host.Outcome.next (if_pos (by rw [hserving, hp, hphase]; rfl))

theorem exec_frameGapTimeout (hserving : s.serving = true) (hp : s.present p = true) (hsamples : (s.port p).samples = true)
    (hphase : (s.port p).rx.phase = .hunting) (hopen : (s.port p).af.rxFrame ≠ .wait) :
    exec (.frameGapTimeout p) s = .next (s.frameErr p 7) :=
  congrArg Host.Outcome.next ((if_pos (by rw [hserving, hp, hsamples, hphase]; rfl)).trans
    (if_neg (by rw [beq_iff_eq]; exact hopen)))

/-- What arrives at a port in line-fault is a loss of unknown count (log 119). -/
theorem exec_characterReceived_deaf (hserving : s.serving = true) (hp : s.present p = true) (hrun : (s.port p).inRun = true)
    (hfrozen : (s.port p).frozen = false) (hfault : (s.port p).lineFault = true)
    (hcond : ((s.port p).line.pair (s.port p).line.rxRole).cond ∈ [0#4, 6#4, 7#4]) {c : RxChar} (hc : startValid c = true) :
    exec (.characterReceived p c) s = .next ((s.addLoss p .rx 3 none []).drain p) := by
  have harrives : ((s.port p).line.pair (s.port p).line.rxRole).arrives = true := by
    unfold PairSt.arrives
    simp only [List.mem_cons, List.not_mem_nil, or_false] at hcond
    obtain h | h | h := hcond <;> rw [h] <;> rfl
  refine congrArg Host.Outcome.next (if_pos ?_)
  unfold Port.deaf
  rw [hserving, hp, hrun, hfrozen, hfault, harrives, hc]
  rfl

theorem exec_holdingRegisterDrain (hon : s.storeOn = true) (hp : s.present p = true) :
    exec (.holdingRegisterDrain p) s = .next (s.drain p) := congrArg Host.Outcome.next (if_pos (by rw [hon, hp]; rfl))

theorem exec_gapWrite (d : Dir) (hon : s.storeOn = true) (hp : s.present p = true) :
    exec (.gapWrite p d) s = .next ((s.tryGap p d false).tieSync p) := congrArg Host.Outcome.next (if_pos (by rw [hon, hp]; rfl))

/-! ### A pending loss is written (R46, R47) -/

/-- The pending loss of a receive queue that nothing holds, with room for its GAP. -/
theorem tryGap_rx_gap {l : Loss} (hpend : (s.queue p .rx).pend = some l) (hheld : l.held = false)
    (howed : (s.queue p .rx).flushOwed = 0) (hflush : (s.queue p .rx).flushing = false) (hsound : s.sound p .rx = true)
    (hfree : 2 ≤ (s.queue p .rx).freeCells (s.pool p)) :
    ∃ (r : Queue) (n : Nat), s.Shows p .rx r n (s.tryGap p .rx false) ∧
      r.aside = ({ s.queue p .rx with pend := none } : Queue).aside ∧
      r.bulkItems = (s.queue p .rx).bulkItems ++ [gapMark l.reason l.count] ∧ r.urgItems = (s.queue p .rx).urgItems := by
  obtain ⟨ns, r, -, hshows, haside, hbulk, hurg⟩ := writeGap_rx hpend hheld hsound hfree
  have hwaits : (s.port p).gapWaits .rx = false := by
    unfold Port.gapWaits
    dsimp only
    rw [show (s.port p).queue .rx = s.queue p .rx from rfl, hpend, hflush, Option.any_some, hheld]
    rfl
  have hblocked : (s.queue p .rx).blocked = true := by
    unfold Queue.blocked
    rw [hpend]
    rfl
  obtain ⟨hu, hb, ha⟩ := deliver_items r.q
  have hdeliver := deliver_shows (s.writeGap p .rx) p
  rw [hshows.queue, hshows.pool] at hdeliver
  refine ⟨r.q.deliver.2, r.pool, ?_, ha.trans haside, hb.trans hbulk, hu.trans hurg⟩
  rw [tryGap_rx_writes (Or.inr hwaits) hblocked (by rw [hpend, howed]; exact hfree), howed]
  exact hshows.trans hsound hdeliver

/-- That of a transmit queue. -/
theorem tryGap_tx_gap {l : Loss} (hpend : (s.queue p .tx).pend = some l) (hheld : l.held = false)
    (howed : (s.queue p .tx).flushOwed = 0) (hflush : (s.queue p .tx).flushing = false) (hsinks : (s.port p).txSinks = false)
    (hsound : s.sound p .tx = true) (hfree : 2 ≤ (s.queue p .tx).freeCells (s.pool p)) :
    ∃ r : Queue, (s.tryGap p .tx false).queue p .tx = r ∧ r.aside = ({ s.queue p .tx with pend := none } : Queue).aside ∧
      r.bulkItems = (s.queue p .tx).bulkItems ++ [gapMark l.reason l.count] ∧ r.urgItems = (s.queue p .tx).urgItems ∧
      ((s.tryGap p .tx false).port p).gaps = (s.port p).gaps + 1 := by
  obtain ⟨r, hq, haside, hbulk, hurg, hgaps⟩ := writeGap_tx hpend hsound hfree
  have hwaits : (s.port p).gapWaits .tx = false := by
    unfold Port.gapWaits
    dsimp only
    rw [show (s.port p).queue .tx = s.queue p .tx from rfl, hpend, hflush, hsinks, Option.any_some, hheld]
    rfl
  have hblocked : (s.queue p .tx).blocked = true := by
    unfold Queue.blocked
    rw [hpend]
    rfl
  rw [tryGap_tx_writes hwaits hblocked (by rw [hpend, howed]; exact hfree), howed]
  exact ⟨r.q, hq, haside, hbulk, hurg, hgaps⟩

end

end Sys2Proof.Machine
end

section
/-! SUPPORT. The obligation on the waits of a receiver. -/

namespace Sys2Proof.Machine

section
variable {s : State} {p : PortId}

/-- Nothing held: what stands before is written, and the port looks for a tie. -/
theorem drain_of_no_item (hflush : (s.queue p .rx).flushing = false) (hold : ((s.tryGap p .rx false).port p).rx.holding = none) :
    s.drain p = (s.tryGap p .rx false).tieSync p := by
  unfold State.drain
  dsimp only
  rw [atBoundary_of_not_flushing hflush, hold]

/-- A State loss of unknown count that comes to a receive queue with nothing waiting is written at once. -/
theorem lossDrain_gap (hahead : (s.queue p .rx).clearAhead) (hold : (s.port p).rx.holding = none) (hsound : s.sound p .rx = true)
    (hfree : 2 ≤ (s.queue p .rx).freeCells (s.pool p)) :
    (((s.addLoss p .rx 3 none []).drain p).queue p .rx).bulkItems = (s.queue p .rx).bulkItems ++ [gapMark 3 none] ∧
      (((s.addLoss p .rx 3 none []).drain p).queue p .rx).pend = none := by
  have hu : s.Shows p .rx { s.queue p .rx with pend := joinLoss (s.queue p .rx).pend 3 none [] } (s.pool p)
    (s.addLoss p .rx 3 none []) := modQueue_shows ..
  generalize s.addLoss p .rx 3 none [] = u at hu
  obtain ⟨hpend, howed, hflush⟩ := hahead
  have hq := hu.queue
  rw [hpend, joinLoss_none] at hq
  have hflush' : (u.queue p .rx).flushing = false := by rw [hq]; exact hflush
  obtain ⟨r, n, hshows, haside, hbulk, -⟩ := tryGap_rx_gap (s := u) (p := p) (congrArg Queue.pend hq) rfl
    ((congrArg Queue.flushOwed hq).trans howed) hflush' (hu.sound hsound) (by rw [hq, hu.pool]; exact hfree)
  have hold' : ((u.tryGap p .rx false).port p).rx.holding = none := by
    have hrx := congrArg RxSt.holding (hshows.rx.trans hu.rx)
    exact Eq.trans hrx hold
  rw [drain_of_no_item hflush' hold', queue_of_berth (tieSync_berth ..), show ((u.tryGap p .rx false).port p).queue .rx = r from
    hshows.queue]
  refine ⟨hbulk.trans ?_, congrArg Prod.fst haside⟩
  rw [hq]
  rfl

/-- The item that waits enters its queue as the last of its lane. -/
theorem drain_takes_held {h : HeldItem} (hahead : (s.queue p .rx).clearAhead) (hold : (s.port p).rx.holding = some h)
    (hsound : s.sound p .rx = true) (hfree : h.item.cells ≤ (s.queue p .rx).freeCells (s.pool p)) :
    ((s.drain p).port p).rx.holding = none ∧ ((s.drain p).port p).rxq.items = (s.port p).rxq.items + 1 ∧
      (((s.drain p).port p).rxq.urgItems = (s.port p).rxq.urgItems ++ [h.item.withUrgent true] ∨
        ((s.drain p).port p).rxq.bulkItems = (s.port p).rxq.bulkItems ++ [h.item.withUrgent false]) := by
  obtain ⟨r, n, hberth, hlanes⟩ := drain_enters hahead hold hsound hfree
  have hport := unmarked_of_berth hberth
  have hq : ((s.drain p).port p).rxq = r :=
    (queue_of_unmarked hport .rx).trans ((queue_afTold ..).trans (Port.queue_setQueue ..))
  have hnone : ((s.drain p).port p).rx.holding = none := by
    refine (holding_of_unmarked hport).trans ?_
    cases h.af <;> rfl
  rw [hq]
  refine ⟨hnone, items_lanesAfter hlanes, ?_⟩
  obtain ⟨-, hurgent, hbulk⟩ := hlanes
  cases hc : (s.queue p .rx).takesUrgent ((s.port p).fmt .rx) h.item (h.lane == .urgent)
  · exact Or.inr (hbulk hc).1
  · exact Or.inl (hurgent hc).1

/-- A written GAP: of a queue of either direction. -/
theorem tryGap_gap (d : Dir) {l : Loss} (hpend : (s.queue p d).pend = some l) (hheld : l.held = false)
    (howed : (s.queue p d).flushOwed = 0) (hflush : (s.queue p d).flushing = false)
    (hsinks : d = .tx → (s.port p).txSinks = false) (hsound : s.sound p d = true)
    (hfree : 2 ≤ (s.queue p d).freeCells (s.pool p)) :
    ((s.tryGap p d false).queue p d).pend = none ∧
      ((s.tryGap p d false).queue p d).bulkItems = (s.queue p d).bulkItems ++ [gapMark l.reason l.count] ∧
      ((s.tryGap p d false).queue p d).urgItems = (s.queue p d).urgItems ∧
      (d = .tx → ((s.tryGap p d false).port p).gaps = (s.port p).gaps + 1) := by
  cases d with
  | rx =>
    obtain ⟨r, n, hshows, haside, hbulk, hurg⟩ := tryGap_rx_gap hpend hheld howed hflush hsound hfree
    rw [hshows.queue]
    exact ⟨congrArg Prod.fst haside, hbulk, hurg, fun h => nomatch h⟩
  | tx =>
    obtain ⟨r, hq, haside, hbulk, hurg, hgaps⟩ := tryGap_tx_gap hpend hheld howed hflush (hsinks rfl) hsound hfree
    rw [hq]
    exact ⟨congrArg Prod.fst haside, hbulk, hurg, fun _ => hgaps⟩

theorem gaps_of_unmarked {x y : Port} (h : x.unmarked = y.unmarked) : x.gaps = y.gaps := by
  have hg : x.unmarked.gaps = y.unmarked.gaps := congrArg Port.gaps h
  exact hg

end

/-- Settles O34. -/
theorem receiverWaitsEnd : Obligations.ReceiverWaitsEnd := by
  refine ⟨fun s p hears => ?_, fun s p hserving hp => ?_, fun s p i lane b hold hpend howed hflush => ?_, fun s p hon hp => ?_⟩
  · exact ⟨fun hphase => ⟨_, exec_startRejected hears hphase, glitch_counted s p⟩,
      fun hphase c hc => (exec_characterReceived hears hphase c).trans ((congrArg Host.Outcome.next
        (if_pos (by rw [hc]; rfl))).trans (exec_startRejected hears hphase).symm),
      fun hphase => ⟨_, exec_breakRiseRejected hears hphase, glitch_counted s p⟩⟩
  · refine ⟨exec_stuckLowEnd hserving hp, fun hsamples hphase hopen => ?_, fun hrun hfrozen hfault hcond c hc => ?_⟩
    · rw [exec_frameGapTimeout hserving hp hsamples hphase hopen]
      unfold State.frameErr State.modAf
      simp only [beq_iff_eq]
      rfl
    · refine ⟨_, exec_characterReceived_deaf hserving hp hrun hfrozen hfault hcond hc,
        (drain_steady ..).trans (addLoss_steady ..), fun hpend howed hflush hold hfree hsound => ?_⟩
      exact lossDrain_gap ⟨hpend, howed, hflush⟩ hold hsound hfree
  · have hahead : (s.queue p .rx).clearAhead := ⟨hpend, howed, hflush⟩
    refine ⟨offer_steady .., fun hfree hsound => ?_, fun hlane hfull => offer_waits hahead hold hlane hfull⟩
    obtain ⟨r, n, hberth, -⟩ := offer_enters (h := { item := i, lane := lane, af := some b }) hahead hold hsound hfree
    have hport := unmarked_of_berth hberth
    exact ⟨(holding_of_unmarked hport).trans hold, af_of_unmarked hport⟩
  · refine ⟨fun h hold hpend howed hflush hfree hsound => ?_, fun d r hpend hheld howed hflush hsinks hfree hsound => ?_⟩
    · obtain ⟨hnone, hitems, hlane⟩ := drain_takes_held ⟨hpend, howed, hflush⟩ hold hsound hfree
      exact ⟨_, exec_holdingRegisterDrain hon hp, hnone, hitems, hlane, drain_steady ..⟩
    · obtain ⟨hpend', hbulk, hurg, hgaps⟩ := tryGap_gap d hpend hheld howed hflush hsinks hsound hfree
      have hport := port_of_sameBerth (tieSync_berth p (s.tryGap p d false))
      have hq : ((s.tryGap p d false).tieSync p).queue p d = (s.tryGap p d false).queue p d := queue_of_unmarked hport d
      refine ⟨_, exec_gapWrite d hon hp, ?_⟩
      rw [hq]
      exact ⟨hpend', hbulk, hurg, (tieSync_steady ..).trans (tryGap_steady ..), fun hd => (gaps_of_unmarked hport).trans (hgaps hd)⟩

end Sys2Proof.Machine
end

section
/-! SUPPORT. The obligation on breaks (04 R110 to R113; 05 R141). -/

namespace Sys2Proof.Machine

/-- The operations on a port's items keep its stock. -/
theorem stock_blind (p : PortId) : StockBlind p (fun s => (s.port p).stock) where
  stock s f h := by
    rw [State.port_modPort]
    exact h
  modRegion _ _ _ := rfl
  modTie _ _ _ := rfl
  portEvent _ s := congrArg Port.stock (port_of_attEvent _ s p)
  tieEvent _ s := congrArg Port.stock (port_of_attEvent _ s p)
  tieFall _ _ := rfl
  count code s := congrArg Port.stock (port_of_count code s p)
  hostError s := congrArg Port.stock (port_of_hostError 4 s p)

theorem line_of_stock {x y : Port} (h : x.stock = y.stock) : x.line = y.line := by
  have hl : x.stock.line = y.stock.line := congrArg Port.line h
  exact hl

theorem phase_of_hull {x y : Port} (h : x.hull = y.hull) : x.rx.phase = y.rx.phase := by
  have hl : x.hull.rx.phase = y.hull.rx.phase := congrArg (fun z : Port => z.rx.phase) h
  exact hl

section
variable {s : State} {p : PortId}

/-- A LINE mark offered has set its event bit. -/
theorem offerLine_marks (scope : BitVec 2) {c : Nat} (hc : c - 1 < 21) (lane : QLane) :
    ((s.offerLine p scope c lane).port p).line.lineEvents.getLsbD (c - 1) = true := by
  unfold State.offerLine
  rw [line_of_stock ((stock_blind p).offer ..)]
  unfold State.markLine
  rw [State.port_modPort]
  dsimp only
  exact getLsbD_or_oneBit hc _

theorem exec_breakEnd_header (h : s.hears p = true) (hphase : (s.port p).rx.phase = .inBreak) (hframe : (s.port p).frameEn = true)
    {len : Nat} (hlen : 13 ≤ len ∧ len ≤ 20) : exec (.breakEnd p len) s =
      .next ((s.modRx p (fun r => { r with phase := .hunting })).modAf p (fun a => { a with rxFrame := .sync })) :=
  congrArg Host.Outcome.next ((if_pos (by rw [h, hphase]; rfl)).trans (if_pos (by rw [hframe, decide_eq_true hlen]; rfl)))

theorem exec_breakEnd_mark (h : s.hears p = true) (hphase : (s.port p).rx.phase = .inBreak) {len : Nat}
    (hlen : (s.port p).frameEn = false ∨ len < 13 ∨ 20 < len) : exec (.breakEnd p len) s =
      .next ((s.modRx p (fun r => { r with phase := .hunting })).offerMark p (breakMark false len) (s.port p).markLane) := by
  refine congrArg Host.Outcome.next ((if_pos (by rw [h, hphase]; rfl)).trans (if_neg ?_))
  simp only [Bool.and_eq_true, decide_eq_true_eq, not_and]
  rintro hframe h13 h20
  rw [hframe] at hlen
  simp only [Bool.true_eq_false, false_or] at hlen
  omega

/-- A break that lasts: its mark, and the mark of the pair listened to (R112). -/
theorem exec_stuckLow (h : s.hears p = true) (hphase : (s.port p).rx.phase = .inBreak) : exec (.stuckLow p) s =
    .next (((s.modRx p (fun r => { r with phase := .stuck })).offerMark p (breakMark true 0xFFFF) (s.port p).markLane).offerLine p
      (pairScope (s.port p).line.listen) 0x10 (s.port p).markLane) :=
  congrArg Host.Outcome.next (if_pos (by rw [h, hphase]; rfl))

end

/-- Settles O33. -/
theorem breaksEnd : Obligations.BreaksEnd := by
  refine fun s p len hears hphase => ⟨fun hframe h13 h20 => exec_breakEnd_header hears hphase hframe ⟨h13, h20⟩,
    exec_breakEnd_mark hears hphase, exec_stuckLow hears hphase, _, exec_stuckLow hears hphase, ?_, offerLine_marks _ (by decide) _,
    (offerLine_steady ..).trans ((offerMark_steady ..).trans (modRx_steady ..))⟩
  refine (phase_of_hull (((hull_blind p).offerLine ..).trans ((hull_blind p).offerMark ..))).trans ?_
  unfold State.modRx
  rw [State.port_modPort]

end Sys2Proof.Machine
end

section
/-! SUPPORT. How a character's bits are decided (04 R98 to R105), and the obligation on received characters. -/

namespace Sys2Proof.Machine

/-! ### Bits and conditions -/

theorem majority_eq (c : BitVec 3) (b : BitVec 16) : majority c b =
    ((nearCentre c b 0 && nearCentre c b 1) || (nearCentre c b 0 && nearCentre c b 2) ||
      (nearCentre c b 1 && nearCentre c b 2)) := by
  unfold majority
  cases h0 : nearCentre c b 0 <;> cases h1 : nearCentre c b 1 <;> cases h2 : nearCentre c b 2 <;>
    simp only [List.filter_cons, List.filter_nil, h0, h1, h2] <;> rfl

/-- Bits gathered one by one. -/
theorem getLsbD_gathered {w : Nat} (f : Nat → Bool) (n k : Nat) (hk : k < w) :
    ((List.range n).foldl (fun v j => if f j then v ||| oneBit w j else v) 0#w).getLsbD k = (decide (k < n) && f k) := by
  induction n with
  | zero => simp
  | succ n ih =>
    rw [List.range_succ, List.foldl_append, List.foldl_cons, List.foldl_nil]
    have hn : (decide (k < n + 1) && f k) = ((decide (k < n) && f k) || (decide (k = n) && f n)) := by
      by_cases h : k = n
      · subst h; simp
      · rw [show decide (k < n + 1) = decide (k < n) from decide_eq_decide.mpr (by omega), decide_eq_false h]
        simp
    rw [hn, ← ih]
    cases hf : f n
    · simp
    · rw [if_pos rfl, BitVec.getLsbD_or, getLsbD_oneBit]
      simp only [hk, and_true, Bool.and_true]

theorem dataBits_le (x : Port) : x.dataBits ≤ 9 := by
  have hne : dataBitsField x.cfg[0] ≠ 3#2 := by
    unfold dataBitsField
    split
    · decide
    · assumption
  unfold Port.dataBits
  bv_omega

/-! ### The obligation's tables -/

/-- The parity of a character is not what its mode asks for (R104). -/
def parityWrong (m : BitVec 3) (data : BitVec 9) (parity : Bool) : Bool :=
  match expectedParity m data with
  | some b => parity != b
  | none => false

theorem conditionOf_eq (m : BitVec 3) (data : BitVec 9) (c : RxBits) : conditionOf m data c =
    if c.stop = false then 2#3 else if parityWrong m data c.parity = true then 1#3 else if c.noise = true then 3#3 else 0#3 := by
  unfold conditionOf parityWrong
  cases c.stop
  · rfl
  · cases expectedParity m data <;> rfl

theorem conditionOf_iff (m : BitVec 3) (data : BitVec 9) (c : RxBits) :
    (conditionOf m data c = 2#3 ↔ c.stop = false) ∧
    (conditionOf m data c = 1#3 ↔ c.stop = true ∧ parityWrong m data c.parity = true) ∧
    (conditionOf m data c = 3#3 ↔ c.stop = true ∧ ¬ parityWrong m data c.parity = true ∧ c.noise = true) ∧
    (conditionOf m data c = 0#3 ↔ c.stop = true ∧ ¬ parityWrong m data c.parity = true ∧ c.noise = false) := by
  rw [conditionOf_eq]
  cases c.stop <;> cases parityWrong m data c.parity <;> cases c.noise <;> decide

theorem trackCentre_up (c : BitVec 3) (hc : c ≠ 4#3) : (if c = 3#3 then c else c + 1).toInt = min 3 (c.toInt + 1) := by
  decide +revert
theorem trackCentre_down (c : BitVec 3) (hc : c ≠ 4#3) : (if c = 5#3 then c else c - 1).toInt = max (-3) (c.toInt - 1) := by
  decide +revert

theorem trackCentre_moves (c : BitVec 3) (es : List Int) (hc : c ≠ 4#3) (hes : es ≠ []) :
    (es.length ≤ es.sum → (trackCentre c es).toInt = min 3 (c.toInt + 1)) ∧
    (es.sum ≤ -es.length → (trackCentre c es).toInt = max (-3) (c.toInt - 1)) ∧
    (-es.length < es.sum → es.sum < es.length → trackCentre c es = c) := by
  have hlen : 0 < es.length := List.length_pos_of_ne_nil hes
  have hempty : es.isEmpty = false := by
    cases es with
    | nil => exact absurd rfl hes
    | cons e es => rfl
  unfold trackCentre
  dsimp only
  rw [hempty, if_neg Bool.false_ne_true]
  refine ⟨fun h => ?_, fun h => ?_, fun hlow hhigh => ?_⟩
  · rw [if_pos h]
    exact trackCentre_up c hc
  · rw [if_neg (by omega), if_pos h]
    exact trackCentre_down c hc
  · rw [if_neg (by omega), if_neg (by omega)]

theorem centre_ge (c : BitVec 3) : -4 ≤ c.toInt := by decide +revert

theorem mem_dataEdges (x : Port) (c : BitVec 3) (r : RxChar) (e : Int) : e ∈ x.dataEdges c r ↔
    ∃ j : Nat, 0 < j ∧ (j : Int) ≤ (16 * (1 + x.dataBits + (if x.parity = 0#3 then 0 else 1)) : Nat) + (9 + c.toInt) ∧
      sampleAt r j ≠ sampleAt r (j - 1) ∧ -8 ≤ e ∧ e ≤ 7 ∧ (16 : Int) ∣ (j - e) := by
  have hc := centre_ge c
  unfold Port.dataEdges
  simp only [List.mem_map, List.bind_eq_flatMap, List.pure_def, List.mem_flatMap, List.mem_singleton, List.mem_filter, List.mem_range,
    bne_iff_ne]
  generalize 16 * (1 + x.dataBits + (if x.parity = 0#3 then 0 else 1)) = stop
  constructor
  · rintro ⟨_, ⟨j, ⟨hj, hedge⟩, rfl⟩, rfl⟩
    exact ⟨j + 1, by omega, by omega, hedge, by omega, by omega, by omega⟩
  · rintro ⟨j, hpos, hj, hedge, hlow, hhigh, hdvd⟩
    obtain ⟨j, rfl⟩ : ∃ i, j = i + 1 := ⟨j - 1, by omega⟩
    exact ⟨j, ⟨j, ⟨by omega, hedge⟩, rfl⟩, by omega⟩

section
variable {s : State} {p : PortId}

/-- What a port that hunts makes of the start of a break outside a frame (R109). -/
theorem exec_characterReceived_break (h : s.hears p = true) (hphase : (s.port p).rx.phase = .hunting) {c : RxChar}
    (hc : startValid c = true) (hbreak : (!((s.port p).decideBits ((s.port p).centreNow s.fastDisable) c).stop &&
      ((s.port p).decideBits ((s.port p).centreNow s.fastDisable) c).data = 0#9 &&
      !((s.port p).decideBits ((s.port p).centreNow s.fastDisable) c).parity) = true) :
    exec (.characterReceived p c) s = .next ((s.frameErrIfOpen p 6).modRx p (fun r => { r with phase := .inBreak })) :=
  (exec_characterReceived h hphase c).trans (congrArg Host.Outcome.next
    ((if_neg (by rw [hc]; exact Bool.false_ne_true)).trans (if_pos hbreak)))

/-- What it makes of any other character. -/
theorem exec_characterReceived_char (h : s.hears p = true) (hphase : (s.port p).rx.phase = .hunting) {c : RxChar}
    (hc : startValid c = true) (hchar : ¬ (!((s.port p).decideBits ((s.port p).centreNow s.fastDisable) c).stop &&
      ((s.port p).decideBits ((s.port p).centreNow s.fastDisable) c).data = 0#9 &&
      !((s.port p).decideBits ((s.port p).centreNow s.fastDisable) c).parity) = true) :
    exec (.characterReceived p c) s = .next (
      let b := (s.port p).decideBits ((s.port p).centreNow s.fastDisable) c
      let t := s.enterChar p (conditionOf (s.port p).parity b.data b) b.data
      if (s.port p).fastEntry t.fastDisable (s.port p).rate.rxEntry then
        t.modRx p (fun r => { r with
          centre := trackCentre r.centre ((s.port p).dataEdges ((s.port p).centreNow s.fastDisable) c) })
      else t) :=
  (exec_characterReceived h hphase c).trans (congrArg Host.Outcome.next
    ((if_neg (by rw [hc]; exact Bool.false_ne_true)).trans (if_neg hchar)))

theorem isFlowCode_of_off (x : Port) (h : x.fcMode = 0) (ch : BitVec 9) : x.isFlowCode ch = false := by
  unfold Port.isFlowCode
  rw [h]
  rfl
theorem credits_of_off {x : Port} (h : x.fcMode = 0) : x.credits = false := by
  unfold Port.credits
  rw [h]
  rfl

theorem useGrant_of_no_credits (h : (s.port p).credits = false) : s.useGrant p = s := by
  refine if_pos ?_
  rw [h]
  rfl

/-- A character that no detector looks at is offered with its condition. -/
theorem enterChar_plain (hcode : ∀ ch, (s.port p).isFlowCode ch = false) (hcredits : (s.port p).credits = false)
    (haddr : (s.port p).addrMode = false) (hframe : (s.port p).frameEn = false) (cond : BitVec 3) (ch : BitVec 9) :
    s.enterChar p cond ch = s.offer p { item := charItem cond ch, lane := (s.port p).plainLane } := by
  unfold State.enterChar
  dsimp only
  rw [hcode, Bool.and_false, if_neg Bool.false_ne_true, useGrant_of_no_credits hcredits, haddr, hframe,
    if_neg Bool.false_ne_true, if_neg Bool.false_ne_true]

end

/-- Settles O31. -/
theorem charactersReceived : Obligations.CharactersReceived := by
  refine ⟨fun x c r k => ?_, fun m data c => ?_, trackCentre_moves, fun x c r e => mem_dataEdges x c r e,
    fun s p c hears hphase hc => ?_, fun s p c hears hphase hc hflow haddr hframe => ?_⟩
  · have hvote := majority_eq c (charBit r (1 + k))
    refine ⟨fun hk => ?_, fun hk hpar => ?_, fun hk => ?_⟩
    · refine (getLsbD_gathered _ x.dataBits k (Nat.lt_of_lt_of_le hk (dataBits_le x))).trans ?_
      rw [decide_eq_true hk, Bool.true_and]
      exact hvote
    · subst hk
      have hp : (x.decideBits c r).parity = majority c (charBit r (1 + x.dataBits)) := by
        unfold Port.decideBits
        dsimp only
        rw [if_neg (show ¬ x.parity = 0#3 from hpar)]
        rfl
      exact hp.trans hvote
    · have hs : (x.decideBits c r).stop = majority c (charBit r (1 + k)) := by
        rw [hk, ← Nat.add_assoc]
        rfl
      exact hs.trans hvote
  · have htable := conditionOf_iff m data c
    have hwrong : parityWrong m data c.parity = true ↔ (match m.toNat with
      | 1 => c.parity ≠ (popcount data % 2 == 1)
      | 2 => c.parity ≠ (popcount data % 2 == 0)
      | 3 => c.parity = false
      | 4 => c.parity = true
      | _ => False) := by
      unfold parityWrong expectedParity
      obtain _ | _ | _ | _ | _ | n := m.toNat <;> simp
    rw [hwrong] at htable
    exact htable
  · intro b hdata hparity hstop hwait
    refine (exec_characterReceived_break hears hphase hc ?_).trans ?_
    · simp only [Bool.and_eq_true, Bool.not_eq_true', decide_eq_true_eq]
      exact ⟨⟨hstop, hdata⟩, hparity⟩
    · refine congrArg (fun t : State => Host.Outcome.next (t.modRx p (fun r => { r with phase := .inBreak }))) (if_pos ?_)
      rw [hwait]
      rfl
  · intro b hchar o
    have ho : s.enterChar p (conditionOf (s.port p).parity b.data b) b.data = o :=
      enterChar_plain (isFlowCode_of_off _ hflow) (credits_of_off hflow) haddr hframe ..
    have hexec := exec_characterReceived_char hears hphase hc (by
      simp only [Bool.and_eq_true, Bool.not_eq_true', decide_eq_true_eq]
      rintro ⟨⟨hstop, hdata⟩, hparity⟩
      obtain h | h | h := hchar
      · exact Bool.false_ne_true (hstop.symm.trans h)
      · exact Bool.false_ne_true (hparity.symm.trans h)
      · exact h hdata)
    have hfast : o.fastDisable = s.fastDisable := fastDisable_of_apart (offer_apart ..)
    refine ⟨fun hslow => hexec.trans (congrArg Host.Outcome.next ?_), fun hquick => hexec.trans (congrArg Host.Outcome.next ?_)⟩
    · dsimp only
      rw [ho, hfast, hslow, if_neg Bool.false_ne_true]
    · dsimp only
      rw [ho, hfast, hquick, if_pos rfl]
      rfl

end Sys2Proof.Machine
end

section
/-! SUPPORT. What a received flow code and a used credit do to a port (06 R156 to R166), and the obligation on them. -/

namespace Sys2Proof.Machine

/-! ### Flow codes act -/

/-- A port's flow state after a hold that it did not have. -/
def FlowSt.hold (f : FlowSt) : FlowSt := { f with held := true, holdWarned := false, holdsRx := satInc f.holdsRx }
/-- After a resume of the hold it had. -/
def FlowSt.resume (f : FlowSt) : FlowSt := { f with held := false, holdWarned := false }
/-- After credits of the station. -/
def FlowSt.credit (n : Nat) (f : FlowSt) : FlowSt := { f with txCredit := satAdd f.txCredit n }
/-- After a granted credit was used. -/
def FlowSt.used (f : FlowSt) : FlowSt := { f with rxOutstanding := f.rxOutstanding - 1 }

/-- A port with its flow state changed. -/
def Port.flowing (x : Port) (f : FlowSt → FlowSt) : Port := { x with flow := f x.flow }

section
variable {s : State} {p : PortId} {ch : BitVec 9}

theorem flowed_port (f : FlowSt → FlowSt) :
    ∃ w, ((s.modPort p (fun x => x.flowing f)).tieSync p).port p = ((s.port p).flowing f).waitingAt w := by
  obtain ⟨w, h⟩ := tieSync_port p (s.modPort p (fun x => x.flowing f))
  exact ⟨w, h.trans (congrArg (Port.waitingAt · w) (State.port_modPort ..))⟩

theorem actFlowCode_hold_again (h : (s.port p).isHold ch = true) (hheld : (s.port p).flow.held = true) :
    s.actFlowCode p ch = s := (if_pos h).trans (if_pos hheld)
theorem actFlowCode_hold (h : (s.port p).isHold ch = true) (hheld : (s.port p).flow.held = false) :
    ∃ w, (s.actFlowCode p ch).port p = ((s.port p).flowing FlowSt.hold).waitingAt w := by
  have hact : s.actFlowCode p ch = (State.portCount 34 p (s.modPort p (fun x => x.flowing FlowSt.hold))).tieSync p :=
    (if_pos h).trans (if_neg (ne_true_of_eq_false hheld))
  obtain ⟨w, hw⟩ := tieSync_port p (State.portCount 34 p (s.modPort p (fun x => x.flowing FlowSt.hold)))
  rw [hact, hw, portCount_port, State.port_modPort]
  exact ⟨w, rfl⟩
theorem actFlowCode_resume_again (h : (s.port p).isHold ch = false) (hr : (s.port p).isResume ch = true)
    (hheld : (s.port p).flow.held = false) : s.actFlowCode p ch = s :=
  (if_neg (ne_true_of_eq_false h)).trans ((if_pos hr).trans (if_neg (ne_true_of_eq_false hheld)))
theorem actFlowCode_resume (h : (s.port p).isHold ch = false) (hr : (s.port p).isResume ch = true)
    (hheld : (s.port p).flow.held = true) : ∃ w, (s.actFlowCode p ch).port p = ((s.port p).flowing FlowSt.resume).waitingAt w := by
  have hact : s.actFlowCode p ch = (s.modPort p (fun x => x.flowing FlowSt.resume)).tieSync p :=
    (if_neg (ne_true_of_eq_false h)).trans ((if_pos hr).trans (if_pos hheld))
  rw [hact]
  exact flowed_port _
theorem actFlowCode_credit (h : (s.port p).isHold ch = false) (hr : (s.port p).isResume ch = false)
    (hc : (s.port p).credits = true) :
    ∃ w, (s.actFlowCode p ch).port p = ((s.port p).flowing (FlowSt.credit (2 ^ (ch.toNat - 0x1F2)))).waitingAt w := by
  have hact : s.actFlowCode p ch = (s.modPort p (fun x => x.flowing (FlowSt.credit (2 ^ (ch.toNat - 0x1F2))))).tieSync p :=
    (if_neg (ne_true_of_eq_false h)).trans ((if_neg (ne_true_of_eq_false hr)).trans (if_pos hc))
  rw [hact]
  exact flowed_port _
theorem actFlowCode_none (h : (s.port p).isHold ch = false) (hr : (s.port p).isResume ch = false)
    (hc : (s.port p).credits = false) : s.actFlowCode p ch = s :=
  (if_neg (ne_true_of_eq_false h)).trans ((if_neg (ne_true_of_eq_false hr)).trans (if_neg (ne_true_of_eq_false hc)))

/-- A flow code moves nothing of a port but its flow state. -/
theorem actFlowCode_flow (s : State) (p : PortId) (ch : BitVec 9) : ∃ f w, (s.actFlowCode p ch).port p = ((s.port p).flowing f).waitingAt w := by
  have hself : ∃ f w, s.port p = ((s.port p).flowing f).waitingAt w := ⟨id, (s.port p).flow.tieWait, rfl⟩
  cases h : (s.port p).isHold ch
  · cases hr : (s.port p).isResume ch
    · cases hc : (s.port p).credits
      · rw [actFlowCode_none h hr hc]; exact hself
      · exact ⟨_, actFlowCode_credit h hr hc⟩
    · cases hheld : (s.port p).flow.held
      · rw [actFlowCode_resume_again h hr hheld]; exact hself
      · exact ⟨_, actFlowCode_resume h hr hheld⟩
  · cases hheld : (s.port p).flow.held
    · exact ⟨_, actFlowCode_hold h hheld⟩
    · rw [actFlowCode_hold_again h hheld]; exact hself

/-! ### A granted credit is used -/

theorem useGrant_uses (hc : (s.port p).credits = true) (hleft : (s.port p).flow.rxOutstanding ≠ 0) :
    ∃ w, (s.useGrant p).port p = ((s.port p).flowing FlowSt.used).waitingAt w := by
  have huse : s.useGrant p = (s.modPort p (fun x => x.flowing FlowSt.used)).tieSync p :=
    (if_neg (by rw [hc]; exact Bool.false_ne_true)).trans (if_neg hleft)
  rw [huse]
  exact flowed_port _

theorem useGrant_violates (hc : (s.port p).credits = true) (hleft : (s.port p).flow.rxOutstanding = 0) :
    s.useGrant p = s.flowEvent 1 p := (if_neg (by rw [hc]; exact Bool.false_ne_true)).trans (if_pos hleft)

end

theorem toNat_satAdd {w : Nat} (x : BitVec w) (n : Nat) : (satAdd x n).toNat = min (2 ^ w - 1) (x.toNat + n) := by
  have hpos : 0 < 2 ^ w := Nat.two_pow_pos w
  unfold satAdd
  split
  · next h => rw [BitVec.toNat_ofNat, Nat.mod_eq_of_lt (by omega)]; omega
  · next h => rw [BitVec.toNat_allOnes]; omega

/-! ### The character that a port hears -/

/-- In fast mode the receiver's centre follows the edges of a character (R101). -/
def State.tracks (s : State) (p : PortId) (c : RxChar) (t : State) : State :=
  if (s.port p).fastEntry s.fastDisable (s.port p).rate.rxEntry = true then
    t.modPort p (fun z => { z with rx := { z.rx with
      centre := trackCentre z.rx.centre ((s.port p).dataEdges ((s.port p).centreNow s.fastDisable) c) } })
  else t

section
variable {s : State} {p : PortId} {c : RxChar}

theorem exec_characterReceived_enters (h : s.hears p = true) (hphase : (s.port p).rx.phase = .hunting)
    (hc : startValid c = true) (hchar : ((s.port p).decideBits ((s.port p).centreNow s.fastDisable) c).stop = true ∨
      ((s.port p).decideBits ((s.port p).centreNow s.fastDisable) c).parity = true ∨
      ((s.port p).decideBits ((s.port p).centreNow s.fastDisable) c).data ≠ 0) :
    exec (.characterReceived p c) s = .next (s.tracks p c
      (s.enterChar p (conditionOf (s.port p).parity ((s.port p).decideBits ((s.port p).centreNow s.fastDisable) c).data
        ((s.port p).decideBits ((s.port p).centreNow s.fastDisable) c))
        ((s.port p).decideBits ((s.port p).centreNow s.fastDisable) c).data)) := by
  refine (exec_characterReceived_char h hphase hc ?_).trans (congrArg Host.Outcome.next ?_)
  · simp only [Bool.and_eq_true, Bool.not_eq_true', decide_eq_true_eq]
    rintro ⟨⟨hstop, hdata⟩, hparity⟩
    obtain h | h | h := hchar
    · exact Bool.false_ne_true (hstop.symm.trans h)
    · exact Bool.false_ne_true (hparity.symm.trans h)
    · exact h hdata
  · dsimp only
    rw [fastDisable_of_apart (enterChar_apart ..)]
    rfl

theorem enterChar_code {cond : BitVec 3} (hcond : cond = 0#3 ∨ cond = 3#3) {ch : BitVec 9} (hcode : (s.port p).isFlowCode ch = true) :
    s.enterChar p cond ch = s.actFlowCode p ch := by
  refine if_pos ?_
  rw [hcode, Bool.and_true, Bool.or_eq_true, decide_eq_true_eq, decide_eq_true_eq]
  exact hcond

/-- A character that is no flow code uses a granted credit and goes to the detector. -/
theorem enterChar_other {cond : BitVec 3} {ch : BitVec 9} (h : ¬ (cond = 0#3 ∨ cond = 3#3) ∨ (s.port p).isFlowCode ch = false) :
    s.enterChar p cond ch =
      if (s.port p).addrMode then (s.useGrant p).addrChar p cond ch
      else if (s.port p).frameEn then (s.useGrant p).frameChar p cond ch
      else (s.useGrant p).offer p { item := charItem cond ch, lane := (s.port p).plainLane } := by
  refine if_neg ?_
  rw [Bool.and_eq_true, Bool.or_eq_true, decide_eq_true_eq, decide_eq_true_eq]
  rintro ⟨hcond, hcode⟩
  obtain h | h := h
  · exact h hcond
  · exact Bool.false_ne_true (h.symm.trans hcode)

theorem isFlowCode_iff {x : Port} (h : x.fcMode ≠ 0) (ch : BitVec 9) : x.isFlowCode ch = true ↔
    if x.dataBits = 9 then 0x1F0 ≤ ch.toNat else ch = x.holdCode.setWidth 9 ∨ ch = x.resumeCode.setWidth 9 := by
  unfold Port.isFlowCode
  rw [bne_iff_ne.mpr h, Bool.true_and]
  split <;> simp

/-- A character received good has its stop bit. -/
theorem stop_of_good {m : BitVec 3} {data : BitVec 9} {b : RxBits}
    (h : conditionOf m data b = 0#3 ∨ conditionOf m data b = 3#3) : b.stop = true := by
  obtain ⟨-, -, hnoise, hgood⟩ := conditionOf_iff m data b
  obtain h | h := h
  · exact (hgood.mp h).1
  · exact (hnoise.mp h).1

end

/-- Settles O35. -/
theorem holdAndResume : Obligations.HoldAndResume := by
  refine ⟨fun s p ch => ⟨fun h => ?_, actFlowCode_hold_again, fun h hr => ?_, actFlowCode_resume_again, fun h hr hc => ?_, ?_⟩,
    fun s p c hears hphase hc hmode => ⟨fun hcond hcode => ?_, fun hstop hother haddr hframe => ?_, fun hcr hleft => ?_,
      fun hcr hleft => ?_, useGrant_of_no_credits⟩⟩
  · cases hheld : (s.port p).flow.held
    · obtain ⟨w, hw⟩ := actFlowCode_hold h hheld
      rw [hw]
      exact ⟨rfl, (if_neg Bool.false_ne_true).symm⟩
    · rw [actFlowCode_hold_again h hheld, if_pos rfl]
      exact ⟨hheld, rfl⟩
  · cases hheld : (s.port p).flow.held
    · rw [actFlowCode_resume_again h hr hheld]
      exact ⟨hheld, rfl⟩
    · obtain ⟨w, hw⟩ := actFlowCode_resume h hr hheld
      rw [hw]
      exact ⟨rfl, rfl⟩
  · obtain ⟨w, hw⟩ := actFlowCode_credit h hr hc
    rw [hw]
    generalize 2 ^ (ch.toNat - 0x1F2) = n
    refine ⟨(toNat_satAdd (s.port p).flow.txCredit n).trans ?_, rfl⟩
    rw [show (2 : Nat) ^ 16 - 1 = 65535 from rfl]
  · obtain ⟨f, w, hw⟩ := actFlowCode_flow s p ch
    rw [hw]
    exact ⟨rfl, rfl⟩
  · have hstop := stop_of_good hcond
    exact (exec_characterReceived_enters hears hphase hc (.inl hstop)).trans (congrArg (fun t => Host.Outcome.next (s.tracks p c t))
      (enterChar_code hcond ((isFlowCode_iff hmode _).mpr hcode)))
  · have hplain := enterChar_other (s := s) (p := p) (hother.imp id fun h =>
      Bool.eq_false_iff.mpr fun hcode => h ((isFlowCode_iff hmode _).mp hcode))
    rw [haddr, hframe, if_neg Bool.false_ne_true, if_neg Bool.false_ne_true] at hplain
    exact (exec_characterReceived_enters hears hphase hc (.inl hstop)).trans
      (congrArg (fun t => Host.Outcome.next (s.tracks p c t)) hplain)
  · obtain ⟨w, hw⟩ := useGrant_uses hcr hleft
    rw [hw]
    rfl
  · rw [useGrant_violates hcr hleft, flowEvent_port]
    exact ⟨rfl, hleft⟩

end Sys2Proof.Machine
end

section
/-! SUPPORT. What the address detector makes of a character (05 R128 to R134, Table 5.2). -/

namespace Sys2Proof.Machine

/-! ### The matching pair -/

section
variable {x : Port} {a : Byte}

theorem pairMatches_iff (w : Word) (a : Byte) : pairMatches w a = true ↔
    w.getLsbD 17 = true ∧ (a ^^^ bits w 0 8) &&& bits w 8 8 = 0 := by
  unfold pairMatches
  rw [Bool.and_eq_true, beq_iff_eq]

/-- The lowest matching pair answers (R128). -/
theorem addrMatch_pair {k : Fin 8} (hk : pairMatches (x.cfg[8 + k.val]'(by omega)) a = true)
    (hlow : ∀ j : Fin 8, j < k → ¬ pairMatches (x.cfg[8 + j.val]'(by omega)) a = true) :
    x.addrMatch a = some (BitVec.ofNat 4 k.val, (x.cfg[8 + k.val]'(by omega)).getLsbD 16) := by
  have hfind : (List.finRange 8).find? (fun k => pairMatches (x.cfg[8 + k.val]'(by omega)) a) = some k :=
    Fin.find?_eq_find?_finRange.symm.trans
      (Fin.find?_eq_some_iff.mpr ⟨hk, fun j hj => Bool.eq_false_iff.mpr (hlow j hj)⟩)
  unfold Port.addrMatch
  rw [hfind]

/-- With no matching pair, the broadcast address may answer (R129). -/
theorem addrMatch_no_pair (h : ∀ k : Fin 8, ¬ pairMatches (x.cfg[8 + k.val]'(by omega)) a = true) :
    x.addrMatch a = if x.cfg[7].getLsbD 8 = true ∧ a = bits x.cfg[7] 0 8 then some (8#4, x.cfg[7].getLsbD 9) else none := by
  have hfind : (List.finRange 8).find? (fun k => pairMatches (x.cfg[8 + k.val]'(by omega)) a) = none :=
    Fin.find?_eq_find?_finRange.symm.trans (Fin.find?_eq_none_iff.mpr fun k => Bool.eq_false_iff.mpr (h k))
  unfold Port.addrMatch
  rw [hfind]
  simp only [Bool.and_eq_true, beq_iff_eq]

end

/-! ### What is done with the character -/

/-- The lane of an address character that pair or broadcast names (R127). -/
def Port.matchLane (x : Port) (urgent : Bool) : QLane :=
  if x.rxUrgent = 1 ∨ (x.rxUrgent = 2 ∧ urgent = true) then .urgent else .bulk

/-- The ADDR_MATCH mark and the character enter, and the detector is unmuted (R130, R131). -/
def State.matched (p : PortId) (i : Item) (urgent : Bool) (k : BitVec 4) (s : State) : State :=
  ((s.modAf p (fun a => { a with muted := false, curUrgent := (s.port p).matchLane urgent == .urgent, lastIndex := k })).offer p
    { item := mark1 3 ((if urgent then 0x10#10 else 0#10) ||| k.setWidth 10), lane := (s.port p).matchLane urgent }).offer p
    { item := i, lane := (s.port p).matchLane urgent }

section
variable {s : State} {p : PortId} {cond : BitVec 3} {ch : BitVec 9}

theorem addrChar_muted (h8 : ch.getLsbD 8 = false) (hmute : (s.port p).mute = true) (hmuted : (s.port p).af.muted = true) :
    s.addrChar p cond ch = s.muteDiscard p :=
  (if_pos (by rw [h8]; rfl)).trans (if_pos (by rw [hmute, hmuted]; rfl))

theorem addrChar_data (h8 : ch.getLsbD 8 = false) (h : (s.port p).mute = false ∨ (s.port p).af.muted = false) :
    s.addrChar p cond ch = s.offer p { item := charItem cond ch, lane := (s.port p).markLane } := by
  refine (if_pos (by rw [h8]; rfl)).trans (if_neg ?_)
  obtain h | h := h
  · rw [h]; exact Bool.false_ne_true
  · rw [h, Bool.and_false]; exact Bool.false_ne_true

theorem addrChar_damaged (h8 : ch.getLsbD 8 = true) (hbad : cond = 1 ∨ cond = 2) :
    s.addrChar p cond ch = (s.modAf p (fun a => { a with
      damagedAddr := satInc a.damagedAddr, muted := (s.port p).mute, curUrgent := false, lastIndex := 15 })).offer p
      { item := charItem cond ch, lane := (s.port p).plainLane, af := some 0 } := by
  refine (if_neg (by rw [h8]; exact Bool.false_ne_true)).trans (if_pos ?_)
  obtain rfl | rfl := hbad <;> rfl

/-- An address character received good is no data and not damaged. -/
theorem not_damaged (hgood : ¬ (cond = 1 ∨ cond = 2)) (h4 : cond ≠ 4) : ¬ (cond = 1#3 || cond = 2#3 || cond = 4#3) = true := by
  simp only [Bool.or_eq_true, decide_eq_true_eq]
  rintro ((h | h) | h)
  · exact hgood (.inl h)
  · exact hgood (.inr h)
  · exact h4 h

theorem addrChar_matched (h8 : ch.getLsbD 8 = true) (hgood : ¬ (cond = 1 ∨ cond = 2)) (h4 : cond ≠ 4) {k : BitVec 4} {urgent : Bool}
    (h : (s.port p).addrMatch (ch.setWidth 8) = some (k, urgent)) :
    s.addrChar p cond ch = s.matched p (charItem cond ch) urgent k := by
  have hlane : (s.port p).matchLane urgent =
      if (s.port p).rxUrgent = 1#2 || ((s.port p).rxUrgent = 2#2 && urgent) then .urgent else .bulk := by
    unfold Port.matchLane
    simp only [Bool.or_eq_true, Bool.and_eq_true, decide_eq_true_eq]
    rfl
  unfold State.addrChar State.matched
  dsimp only
  rw [hlane, h8, if_neg (by decide), if_neg (not_damaged hgood h4), h]

theorem addrChar_unnamed_muting (h8 : ch.getLsbD 8 = true) (hgood : ¬ (cond = 1 ∨ cond = 2)) (h4 : cond ≠ 4)
    (h : (s.port p).addrMatch (ch.setWidth 8) = none) (hmute : (s.port p).mute = true) :
    s.addrChar p cond ch = (s.modAf p (fun a => { a with
      muted := true, curUrgent := true && a.curUrgent, lastIndex := 15 })).muteDiscard p := by
  unfold State.addrChar
  dsimp only
  rw [h8, if_neg (by decide), if_neg (not_damaged hgood h4), h, hmute]
  exact if_pos rfl

theorem addrChar_unnamed (h8 : ch.getLsbD 8 = true) (hgood : ¬ (cond = 1 ∨ cond = 2)) (h4 : cond ≠ 4)
    (h : (s.port p).addrMatch (ch.setWidth 8) = none) (hmute : (s.port p).mute = false) :
    s.addrChar p cond ch = (s.modAf p (fun a => { a with muted := false, curUrgent := false, lastIndex := 15 })).offer p
      { item := charItem cond ch, lane := (s.port p).plainLane } := by
  unfold State.addrChar
  dsimp only
  rw [h8, if_neg (by decide), if_neg (not_damaged hgood h4), h, hmute]
  exact if_neg Bool.false_ne_true

/-! ### The discard (R132) -/

/-- A port that counts a character which its muted detector discards. -/
def Port.muteCounted (x : Port) : Port := { x with af := { x.af with muteDiscards := satInc x.af.muteDiscards } }

theorem muteDiscard_port (s : State) (p : PortId) : ∃ w, (s.muteDiscard p).port p = (s.port p).muteCounted.waitingAt w := by
  obtain ⟨w, hw⟩ := tieSync_port p (State.portCount 30 p (s.modPort p Port.muteCounted))
  refine ⟨w, hw.trans (congrArg (Port.waitingAt · w) ?_)⟩
  rw [portCount_port, State.port_modPort]

/-- A used credit moves nothing of a port but its flow state. -/
theorem useGrant_flow (s : State) (p : PortId) : ∃ f w, (s.useGrant p).port p = ((s.port p).flowing f).waitingAt w := by
  cases hc : (s.port p).credits
  · rw [useGrant_of_no_credits hc]
    exact ⟨id, (s.port p).flow.tieWait, rfl⟩
  · by_cases hleft : (s.port p).flow.rxOutstanding = 0
    · rw [useGrant_violates hc hleft, flowEvent_port]
      exact ⟨fun f => { f with events := f.events ||| oneBit 3 1 }, (s.port p).flow.tieWait, rfl⟩
    · exact ⟨_, useGrant_uses hc hleft⟩

theorem tracks_steady (c : RxChar) (t : State) : (s.tracks p c t).steady = t.steady := by
  unfold State.tracks
  split
  · exact modPort_steady (by exact fun _ => rfl)
  · rfl

/-- A receiver with its centre moved. -/
def Port.centred (x : Port) (v : BitVec 3) : Port := { x with rx := { x.rx with centre := v } }

theorem tracks_port (c : RxChar) (t : State) : ∃ v, (s.tracks p c t).port p = (t.port p).centred v := by
  unfold State.tracks
  split
  · rw [State.port_modPort]
    exact ⟨_, rfl⟩
  · exact ⟨(t.port p).rx.centre, rfl⟩

/-- A port with its detector changed. -/
def Port.detecting (x : Port) (f : AfSt → AfSt) : Port := { x with af := f x.af }

/-- What a character that is not entered leaves of a port. -/
def Port.unentered (x : Port) : Queue × Option HeldItem × AfSt := (x.rxq, x.rx.holding, x.af)

theorem unentered_flowing (x : Port) (f : FlowSt → FlowSt) : (x.flowing f).unentered = x.unentered := rfl
theorem unentered_waitingAt (x : Port) (w : Option (Fin 4)) : (x.waitingAt w).unentered = x.unentered := rfl
theorem unentered_centred (x : Port) (v : BitVec 3) : (x.centred v).unentered = x.unentered := rfl
theorem unentered_detecting (x : Port) (f : AfSt → AfSt) :
    (x.detecting f).unentered = (x.unentered.1, x.unentered.2.1, f x.unentered.2.2) := rfl
theorem unentered_muteCounted (x : Port) : x.muteCounted.unentered = (x.unentered.1, x.unentered.2.1,
    { x.unentered.2.2 with muteDiscards := satInc x.unentered.2.2.muteDiscards }) := rfl

theorem unentered_tracks (s : State) (p : PortId) (c : RxChar) (f : AfSt → AfSt) :
    ((s.tracks p c (((s.useGrant p).modAf p f).muteDiscard p)).port p).unentered =
      ((s.port p).rxq, (s.port p).rx.holding, { f (s.port p).af with muteDiscards := satInc (f (s.port p).af).muteDiscards }) := by
  obtain ⟨g, w, hgrant⟩ := useGrant_flow s p
  obtain ⟨w', hdiscard⟩ := muteDiscard_port ((s.useGrant p).modAf p f) p
  obtain ⟨v, htrack⟩ := tracks_port (s := s) (p := p) c (((s.useGrant p).modAf p f).muteDiscard p)
  have haf : ((s.useGrant p).modAf p f).port p = ((s.useGrant p).port p).detecting f := State.port_modPort ..
  rw [htrack, unentered_centred, hdiscard, unentered_waitingAt, unentered_muteCounted, haf, unentered_detecting, hgrant,
    unentered_waitingAt, unentered_flowing]
  rfl

/-- What is left where a muted detector discards a character. -/
theorem muteDiscard_tracks (s : State) (p : PortId) (c : RxChar) {f : AfSt → AfSt} (hmuted : (f (s.port p).af).muted = true)
    (hcount : (f (s.port p).af).muteDiscards = (s.port p).af.muteDiscards) {t : State}
    (ht : t = s.tracks p c (((s.useGrant p).modAf p f).muteDiscard p)) :
    t.steady = s.steady ∧ (t.port p).rxq = (s.port p).rxq ∧ (t.port p).rx.holding = (s.port p).rx.holding ∧
      (t.port p).af.muted = true ∧ (t.port p).af.muteDiscards = satInc (s.port p).af.muteDiscards := by
  have hleft := unentered_tracks s p c f
  have hsteady : (s.tracks p c (((s.useGrant p).modAf p f).muteDiscard p)).steady = s.steady :=
    (tracks_steady ..).trans ((muteDiscard_steady ..).trans ((modAf_steady ..).trans (useGrant_steady ..)))
  rw [← ht] at hleft hsteady
  obtain ⟨hrxq, hrest⟩ := Prod.mk.inj hleft
  obtain ⟨hhold, haf⟩ := Prod.mk.inj hrest
  exact ⟨hsteady, hrxq, hhold, (congrArg AfSt.muted haf).trans hmuted, (congrArg AfSt.muteDiscards haf).trans (congrArg satInc hcount)⟩

end

end Sys2Proof.Machine
end

section
/-! SUPPORT. What the frame engine makes of a character (05 R138 to R147, Table 5.7). -/

namespace Sys2Proof.Machine

section
variable {s : State} {p : PortId}

theorem modAf_congr {f g : AfSt → AfSt} (h : f (s.port p).af = g (s.port p).af) : s.modAf p f = s.modAf p g :=
  congrArg (fun a => s.setPort p { s.port p with af := a }) h

theorem modAf_modAf (f g : AfSt → AfSt) : (s.modAf p f).modAf p g = s.modAf p (fun a => g (f a)) := modPort_modPort ..

theorem port_modAf (f : AfSt → AfSt) : (s.modAf p f).port p = (s.port p).detecting f := State.port_modPort ..

/-- FRAME_ERR outside a payload: the engine waits for a break, and the mark enters in the plain lane (R146, R147). -/
def State.frameFault (p : PortId) (pid : Byte) (code : BitVec 10) (s : State) : State :=
  (s.modAf p (fun a => { a with rxPid := pid, frameErrs := satInc a.frameErrs, rxFrame := .wait, rxRemain := 0 })).offer p
    { item := mark1 6 code, lane := (s.port p).plainLane, af := some 1 }

theorem frameErr_eq (h : (s.port p).af.rxFrame ≠ .payload) (code : BitVec 4) :
    s.frameErr p code = s.frameFault p (s.port p).af.rxPid (code.setWidth 10) := by
  unfold State.frameErr State.frameFault
  dsimp only
  rw [if_neg (by rw [beq_iff_eq]; exact h)]
  refine congrArg (fun t : State => t.offer p _) (modAf_congr ?_)
  rfl

theorem frameErr_modAf {f : AfSt → AfSt} (hf : (f (s.port p).af).rxFrame ≠ .payload) {pid : Byte} (hpid : ∀ a, f a = { a with rxPid := pid })
    (code : BitVec 4) : (s.modAf p f).frameErr p code = s.frameFault p pid (code.setWidth 10) := by
  obtain rfl : f = fun a => { a with rxPid := pid } := funext hpid
  rw [frameErr_eq (by rw [port_modAf]; exact hf)]
  unfold State.frameFault
  rw [modAf_modAf, port_modAf]
  rfl

variable {cond : BitVec 3} {ch : BitVec 9}

theorem frameChar_wait (h : (s.port p).af.rxFrame = .wait) :
    s.frameChar p cond ch = s.offer p { item := charItem cond ch, lane := (s.port p).plainLane } := by
  unfold State.frameChar
  dsimp only
  rw [h]

theorem bad_decided : (cond = 1#3 || cond = 2#3) = true ↔ cond = 1 ∨ cond = 2 := by
  rw [Bool.or_eq_true, decide_eq_true_eq, decide_eq_true_eq]
  rfl

theorem four_of_bad (h : cond = 1 ∨ cond = 2) : ¬ cond = 4#3 := by
  obtain rfl | rfl := h <;> decide

/-- A damaged character ends a header (R147). -/
theorem frameChar_bad (hbad : cond = 1 ∨ cond = 2) (h : (s.port p).af.rxFrame = .sync ∨ (s.port p).af.rxFrame = .pid ∨
    (s.port p).af.rxFrame = .len ∨ (s.port p).af.rxFrame = .check) :
    s.frameChar p cond ch = s.frameFault p (s.port p).af.rxPid 5 := by
  have hne : (s.port p).af.rxFrame ≠ .payload := by
    obtain h | h | h | h := h <;> rw [h] <;> decide
  refine Eq.trans ?_ (frameErr_eq hne 5)
  have h4 := four_of_bad hbad
  have hb := bad_decided.mpr hbad
  unfold State.frameChar
  dsimp only
  obtain h | h | h | h := h
  all_goals
    rw [h]
    exact (if_neg h4).trans (if_pos hb)

/-- SYNC opens the header (R142). -/
theorem frameChar_sync_wrong (h4 : cond ≠ 4) (hgood : ¬ (cond = 1 ∨ cond = 2)) (h : (s.port p).af.rxFrame = .sync)
    (hsync : ch.setWidth 8 ≠ (s.port p).sync) : s.frameChar p cond ch = s.frameFault p (s.port p).af.rxPid 1 := by
  refine Eq.trans ?_ (frameErr_eq (by rw [h]; decide) 1)
  unfold State.frameChar
  dsimp only
  rw [h]
  exact (if_neg h4).trans ((if_neg (mt bad_decided.mp hgood)).trans (if_pos (bne_iff_ne.mpr hsync)))

theorem frameChar_sync (h4 : cond ≠ 4) (hgood : ¬ (cond = 1 ∨ cond = 2)) (h : (s.port p).af.rxFrame = .sync)
    (hsync : ch.setWidth 8 = (s.port p).sync) : s.frameChar p cond ch = s.modAf p (fun a => { a with rxFrame := .pid }) := by
  unfold State.frameChar
  dsimp only
  rw [h]
  exact (if_neg h4).trans ((if_neg (mt bad_decided.mp hgood)).trans (if_neg (by rw [bne_iff_ne]; exact not_not_intro hsync)))

/-- The identifier's parity bits (R138). -/
theorem pidParity_iff (b : Byte) : b.extractLsb' 6 2 = pidParity (b.extractLsb' 0 6) ↔
    (b.getLsbD 6 = (b.getLsbD 0 ^^ b.getLsbD 2 ^^ b.getLsbD 4) ∧
      b.getLsbD 7 = !(b.getLsbD 1 ^^ b.getLsbD 3 ^^ b.getLsbD 5)) := by
  have htable : ∀ b : BitVec 8, decide (b.extractLsb' 6 2 = pidParity (b.extractLsb' 0 6)) =
    decide (b.getLsbD 6 = (b.getLsbD 0 ^^ b.getLsbD 2 ^^ b.getLsbD 4) ∧
      b.getLsbD 7 = !(b.getLsbD 1 ^^ b.getLsbD 3 ^^ b.getLsbD 5)) := by decide +kernel
  exact decide_eq_decide.mp (htable b)

/-- What the identifier's character leads to (R138, R140, R142). -/
theorem frameChar_pid (h4 : cond ≠ 4) (hgood : ¬ (cond = 1 ∨ cond = 2)) (h : (s.port p).af.rxFrame = .pid) :
    s.frameChar p cond ch =
      let b : Byte := ch.setWidth 8
      let t := s.modAf p (fun a => { a with rxPid := b })
      if (b.extractLsb' 6 2) != pidParity (b.extractLsb' 0 6) then t.frameErr p 2
      else if !(s.frameEntry b).getLsbD 15 then t.frameErr p 4
      else if (s.frameEntry b).getLsbD 13 then t.modAf p (fun a => { a with rxFrame := .len })
      else t.modAf p (fun a => { a with rxFrame := .check, rxLen := ((s.frameEntry b).extractLsb' 0 10).toNat }) := by
  unfold State.frameChar
  dsimp only
  rw [h]
  exact (if_neg h4).trans (if_neg (mt bad_decided.mp hgood))

section
variable (h4 : cond ≠ 4) (hgood : ¬ (cond = 1 ∨ cond = 2)) (h : (s.port p).af.rxFrame = .pid)
include h4 hgood h

theorem frameChar_pid_parity {b : Byte} (hb : ch.setWidth 8 = b) (hpar : ¬ b.extractLsb' 6 2 = pidParity (b.extractLsb' 0 6)) :
    s.frameChar p cond ch = s.frameFault p b 2 := by
  subst hb
  exact (frameChar_pid h4 hgood h).trans ((if_pos (bne_iff_ne.mpr hpar)).trans
    (frameErr_modAf (by rw [h]; decide) (fun _ => rfl) 2))

theorem frameChar_pid_unknown {b : Byte} (hb : ch.setWidth 8 = b) (hpar : b.extractLsb' 6 2 = pidParity (b.extractLsb' 0 6))
    (hentry : (s.frameEntry b).getLsbD 15 = false) : s.frameChar p cond ch = s.frameFault p b 4 := by
  subst hb
  exact (frameChar_pid h4 hgood h).trans ((if_neg (by rw [bne_iff_ne]; exact not_not_intro hpar)).trans
    ((if_pos (by rw [hentry]; rfl)).trans (frameErr_modAf (by rw [h]; decide) (fun _ => rfl) 4)))

theorem frameChar_pid_len {b : Byte} (hb : ch.setWidth 8 = b) (hpar : b.extractLsb' 6 2 = pidParity (b.extractLsb' 0 6))
    (hentry : (s.frameEntry b).getLsbD 15 = true) (hlen : (s.frameEntry b).getLsbD 13 = true) :
    s.frameChar p cond ch = s.modAf p (fun a => { a with rxPid := b, rxFrame := .len }) := by
  subst hb
  exact (frameChar_pid h4 hgood h).trans ((if_neg (by rw [bne_iff_ne]; exact not_not_intro hpar)).trans
    ((if_neg (by rw [hentry]; exact Bool.false_ne_true)).trans ((if_pos hlen).trans (modAf_modAf ..))))

theorem frameChar_pid_check {b : Byte} (hb : ch.setWidth 8 = b) (hpar : b.extractLsb' 6 2 = pidParity (b.extractLsb' 0 6))
    (hentry : (s.frameEntry b).getLsbD 15 = true) (hlen : (s.frameEntry b).getLsbD 13 = false) :
    s.frameChar p cond ch = s.modAf p (fun a => { a with
      rxPid := b, rxFrame := .check, rxLen := ((s.frameEntry b).extractLsb' 0 10).toNat }) := by
  subst hb
  exact (frameChar_pid h4 hgood h).trans ((if_neg (by rw [bne_iff_ne]; exact not_not_intro hpar)).trans
    ((if_neg (by rw [hentry]; exact Bool.false_ne_true)).trans ((if_neg (ne_true_of_eq_false hlen)).trans (modAf_modAf ..))))

end

theorem frameChar_len (h4 : cond ≠ 4) (hgood : ¬ (cond = 1 ∨ cond = 2)) (h : (s.port p).af.rxFrame = .len) :
    s.frameChar p cond ch = s.modAf p (fun a => { a with rxFrame := .check, rxLen := (ch.setWidth 8 : Byte).toNat }) := by
  unfold State.frameChar
  dsimp only
  rw [h]
  exact (if_neg h4).trans (if_neg (mt bad_decided.mp hgood))

theorem frameChar_check_wrong (h4 : cond ≠ 4) (hgood : ¬ (cond = 1 ∨ cond = 2)) (h : (s.port p).af.rxFrame = .check)
    (hcrc : ch.setWidth 8 ≠ frameCrc (s.port p).af.rxPid (s.port p).af.rxLen) :
    s.frameChar p cond ch = s.frameFault p (s.port p).af.rxPid 3 := by
  refine Eq.trans ?_ (frameErr_eq (by rw [h]; decide) 3)
  unfold State.frameChar
  dsimp only
  rw [h]
  exact (if_neg h4).trans ((if_neg (mt bad_decided.mp hgood)).trans (if_pos (bne_iff_ne.mpr hcrc)))

theorem frameChar_check (h4 : cond ≠ 4) (hgood : ¬ (cond = 1 ∨ cond = 2)) (h : (s.port p).af.rxFrame = .check)
    (hcrc : ch.setWidth 8 = frameCrc (s.port p).af.rxPid (s.port p).af.rxLen) :
    s.frameChar p cond ch = s.frameStart p := by
  unfold State.frameChar
  dsimp only
  rw [h]
  exact (if_neg h4).trans ((if_neg (mt bad_decided.mp hgood)).trans (if_neg (by rw [bne_iff_ne]; exact not_not_intro hcrc)))

theorem rxRemain_of_hull {x y : Port} (h : x.hull = y.hull) : x.af.rxRemain = y.af.rxRemain := by
  have hl : x.hull.af.rxRemain = y.hull.af.rxRemain := congrArg (fun z : Port => z.af.rxRemain) h
  exact hl

/-- A payload character enters, and the last one ends its frame (R143). -/
theorem frameChar_payload (h : (s.port p).af.rxFrame = .payload) :
    s.frameChar p cond ch =
      let w := (s.offer p { item := charItem cond ch, lane := (s.port p).markLane }).modAf p
        (fun a => { a with rxRemain := a.rxRemain - 1 })
      if (s.port p).af.rxRemain = 1 then w.frameEnd p else w := by
  have hleft : ((s.offer p { item := charItem cond ch, lane := (s.port p).markLane }).port p).af.rxRemain =
    (s.port p).af.rxRemain := rxRemain_of_hull ((hull_blind p).offer ..)
  unfold State.frameChar
  dsimp only
  rw [h, port_modAf]
  generalize s.offer p { item := charItem cond ch, lane := (s.port p).markLane } = t at hleft ⊢
  refine if_congr ?_ rfl rfl
  change (t.port p).af.rxRemain - 1 = 0 ↔ _
  rw [hleft]
  bv_omega

end

end Sys2Proof.Machine
end

section
/-! SUPPORT. The obligation on the detectors (05 R128 to R147). -/

namespace Sys2Proof.Machine

theorem conditionOf_ne_four (m : BitVec 3) (data : BitVec 9) (b : RxBits) : conditionOf m data b ≠ 4 := by
  rw [conditionOf_eq]
  cases b.stop <;> cases parityWrong m data b.parity <;> cases b.noise <;> decide

section
variable {s : State} {p : PortId}

theorem modAf_id (s : State) (p : PortId) : s.modAf p id = s := by
  have hport : s.setPort p (s.port p) = s := by
    refine congrArg (fun v : Vector Port 16 => ({ s with ports := v } : State)) ?_
    exact Vector.set_getElem_self ..
  exact hport

theorem af_useGrant (s : State) (p : PortId) : ((s.useGrant p).port p).af = (s.port p).af := by
  obtain ⟨f, w, h⟩ := useGrant_flow s p
  rw [h]
  rfl

theorem frameStart_eq (s : State) (p : PortId) : s.frameStart p =
    let v := s.modAf p (fun a => { a with
      rxFrame := .payload, rxUrgent := (s.frameEntry (s.port p).af.rxPid).getLsbD 14, rxRemain := BitVec.ofNat 10 a.rxLen })
    let w := v.offer p { item := mark1 4 ((if (s.frameEntry (s.port p).af.rxPid).getLsbD 13 then 0x100#10 else 0#10) |||
      (s.port p).af.rxPid.setWidth 10), lane := (v.port p).markLane }
    if (s.port p).af.rxLen = 0 then w.frameEnd p else w := rfl

variable {c : RxChar} (h : s.hears p = true) (hphase : (s.port p).rx.phase = .hunting) (hc : startValid c = true)
  {b : RxBits} (hb : (s.port p).decideBits ((s.port p).centreNow s.fastDisable) c = b)
  (hchar : b.stop = true ∨ b.parity = true ∨ b.data ≠ 0) {cond : BitVec 3} (hcond : conditionOf (s.port p).parity b.data b = cond)
  (hother : (cond = 0 ∨ cond = 3) → (s.port p).isFlowCode b.data = false)
include h hphase hc hb hchar hcond hother

/-- A character that is no flow code, at a port in address mode. -/
theorem exec_characterReceived_addr (haddr : (s.port p).addrMode = true) {t : State}
    (ht : (s.useGrant p).addrChar p cond b.data = t) : exec (.characterReceived p c) s = .next (s.tracks p c t) := by
  subst hb hcond ht
  refine (exec_characterReceived_enters h hphase hc hchar).trans (congrArg (fun t => Host.Outcome.next (s.tracks p c t)) ?_)
  refine (enterChar_other ?_).trans (if_pos haddr)
  exact (Decidable.em _).symm.imp id hother

/-- In frame mode. -/
theorem exec_characterReceived_frame (haddr : (s.port p).addrMode = false) (hframe : (s.port p).frameEn = true) {t : State}
    (ht : (s.useGrant p).frameChar p cond b.data = t) : exec (.characterReceived p c) s = .next (s.tracks p c t) := by
  subst hb hcond ht
  refine (exec_characterReceived_enters h hphase hc hchar).trans (congrArg (fun t => Host.Outcome.next (s.tracks p c t)) ?_)
  refine (enterChar_other ?_).trans ((if_neg (ne_true_of_eq_false haddr)).trans (if_pos hframe))
  exact (Decidable.em _).symm.imp id hother

end

/-- Settles O36. -/
theorem detectorsAct : Obligations.DetectorsAct := by
  intro s p c h hphase hc x b cond bad byte track u y runs af enters error ended
  have h4 : cond ≠ 4 := conditionOf_ne_four x.parity b.data b
  refine ⟨fun hchar hother => ⟨fun haddr => ?_, fun haddr hframe => ?_⟩, fun hstop hparity hdata hopen => ?_⟩
  · intro discarded hit matched
    have hruns {t : State} (ht : u.addrChar p cond b.data = t) : runs t :=
      exec_characterReceived_addr h hphase hc rfl hchar rfl hother haddr ht
    have hdiscard {f : AfSt → AfSt} (ht : u.addrChar p cond b.data = (u.modAf p f).muteDiscard p)
        (hmuted : (f x.af).muted = true) (hcount : (f x.af).muteDiscards = x.af.muteDiscards) : discarded :=
      ⟨_, hruns ht, muteDiscard_tracks s p c hmuted hcount rfl⟩
    have hhit (k : Fin 8) : hit k ↔ pairMatches (y.cfg[8 + k.val]'(by omega)) byte = true := (pairMatches_iff ..).symm
    refine ⟨fun h8 hmute hmuted => ?_, fun h8 hopen => hruns (addrChar_data h8 hopen), fun h8 hbad =>
      hruns (addrChar_damaged h8 hbad), fun h8 hgood => ⟨fun k hk hlow => ?_, fun hnone => ?_⟩⟩
    · refine hdiscard (f := id) ?_ ((congrArg AfSt.muted (af_useGrant s p)).symm.trans hmuted) rfl
      rw [modAf_id]
      exact addrChar_muted h8 hmute hmuted
    · exact hruns (addrChar_matched h8 hgood h4 (addrMatch_pair ((hhit k).mp hk) fun j hj => mt (hhit j).mpr (hlow j hj)))
    · have hmatch := addrMatch_no_pair (x := y) (a := byte) fun k => mt (hhit k).mpr (hnone k)
      refine ⟨fun hbroad => ?_, fun hbroad hmute => ?_, fun hbroad hmute => ?_⟩
      · exact hruns (addrChar_matched h8 hgood h4 (hmatch.trans (if_pos hbroad)))
      · exact hdiscard (addrChar_unnamed_muting h8 hgood h4 (hmatch.trans (if_neg hbroad)) hmute) rfl rfl
      · exact hruns (addrChar_unnamed h8 hgood h4 (hmatch.trans (if_neg hbroad)) hmute)
  · have hruns : ∀ t, u.frameChar p cond b.data = t → runs t := fun t ht =>
      exec_characterReceived_frame h hphase hc rfl hchar rfl hother haddr hframe ht
    have herror : ∀ pid code, error pid code = u.frameFault p pid code := fun _ _ => rfl
    have hended : ∀ t, ended t = t.frameEnd p := fun _ => rfl
    have henters : ∀ lane, enters u lane = u.offer p { item := charItem cond b.data, lane := lane } := fun _ => rfl
    have haf : ∀ f, af f = u.modAf p f := fun _ => rfl
    have hy : y = u.port p := rfl
    have hpar := pidParity_iff byte
    have hbyte : b.data.setWidth 8 = byte := rfl
    clear_value runs error ended byte
    clear_value enters af
    intro pid entry parityOk
    have hpar' : byte.extractLsb' 6 2 = pidParity (byte.extractLsb' 0 6) ↔ parityOk := hpar
    refine ⟨fun hw => hruns _ ((frameChar_wait hw).trans (henters _).symm), fun hbad hw => hruns _ ((frameChar_bad hbad hw).trans
      (herror _ _).symm), fun hgood hw => ⟨fun hs => hruns _ ?_, fun hs => hruns _ ?_⟩,
      fun hgood hw => ⟨fun hp => hruns _ ?_, fun hp he => hruns _ ?_, fun hp he hl => hruns _ ?_, fun hp he hl => hruns _ ?_⟩,
      fun hgood hw => hruns _ ?_, fun hgood hw => ?_, fun hw => hruns _ ?_⟩
    · exact (frameChar_sync_wrong h4 hgood hw (hbyte.trans_ne hs)).trans (herror _ _).symm
    · exact (frameChar_sync h4 hgood hw (hbyte.trans hs)).trans (haf _).symm
    · exact (frameChar_pid_parity h4 hgood hw hbyte (mt hpar'.mp hp)).trans (herror _ _).symm
    · exact (frameChar_pid_unknown h4 hgood hw hbyte (hpar'.mpr hp) he).trans (herror _ _).symm
    · exact (frameChar_pid_len h4 hgood hw hbyte (hpar'.mpr hp) he hl).trans (haf _).symm
    · exact (frameChar_pid_check h4 hgood hw hbyte (hpar'.mpr hp) he hl).trans (haf _).symm
    · rw [← hbyte, haf]
      exact frameChar_len h4 hgood hw
    · intro e v w
      refine ⟨fun hcrc => hruns _ ?_, fun hcrc => hruns _ ?_⟩
      · exact (frameChar_check_wrong h4 hgood hw (hbyte.trans_ne hcrc)).trans (herror _ _).symm
      · refine (frameChar_check h4 hgood hw (hbyte.trans hcrc)).trans ((frameStart_eq u p).trans ?_)
        rw [hended]
        have hv : v = _ := haf _
        dsimp only [w]
        rw [hv]
    · rw [hended, henters]
      exact frameChar_payload hw
  · refine (exec_characterReceived_break h hphase hc ?_).trans (congrArg (fun t : State => Host.Outcome.next (t.modRx p
      (fun r => { r with phase := .inBreak }))) ((if_neg ?_).trans ?_))
    · simp only [Bool.and_eq_true, Bool.not_eq_true', decide_eq_true_eq]
      exact ⟨⟨hstop, hdata⟩, hparity⟩
    · rw [beq_iff_eq]
      exact hopen
    · unfold State.frameErr State.modAf
      simp only [beq_iff_eq]
      rfl

end Sys2Proof.Machine
end

section
/-! SUPPORT. The registers of the data windows (07 R203; 17 Table 17.14), and a request of one word that is refused (R258). -/

namespace Sys2Proof.Machine

/-! ### A word that is refused -/

section
variable {u : State} {q : Req} {write : Bool} {addr : BitVec 16} {v : Word} {vs : List Word} {mids : List Mid}

theorem refusal_of_beat (h : u.beatRefused q write true 2 addr.toNat (vs.getD 0 0) = true) :
    u.refusal q write 2 addr 1 vs = some addr := by
  have hbeat : beatAddr addr 0 = addr.toNat := by unfold beatAddr; omega
  unfold State.refusal
  rw [List.range_one, List.find?_cons_of_pos (by rw [hbeat]; exact h)]
  dsimp only
  rw [hbeat, BitVec.ofNat_toNat, BitVec.setWidth_eq]

theorem read1_refused {s : State} (hflow : s.blocksFlow = true) (h : s.acceptBlk.beatRefused q false true 2 addr.toNat 0 = true) :
    s.read1 q addr = s.acceptBlk.accessError q addr 1 :=
  (hostCtl_of_blocksFlow _ hflow).trans (readReq_of_refusal (refusal_of_beat h))

theorem write1_refused {s : State} (hflow : s.blocksFlow = true) (h : s.acceptBlk.beatRefused q true true 2 addr.toNat v = true) :
    s.write1 q addr v mids = s.acceptBlk.accessError q addr 1 := by
  refine (hostCtl_of_blocksFlow _ hflow).trans ?_
  exact writeReq_of_refusal rfl (refusal_of_beat h)

/-- A register that refuses the word. -/
theorem beatRefused_of_reg {r : Reg} (hreg : regAt addr.toNat = some r) (h : u.regRefuses q write true 2 v r = true) :
    u.beatRefused q write true 2 addr.toNat v = true := by
  unfold State.beatRefused
  rw [hreg]
  dsimp only
  rw [h, Bool.or_true]

/-- An address that holds no register. -/
theorem beatRefused_of_none (hreg : regAt addr.toNat = none) : u.beatRefused q write true 2 addr.toNat v = true := by
  unfold State.beatRefused
  rw [hreg]
  dsimp only
  rw [Bool.or_true]

/-- A block that refuses every request. -/
theorem beatRefused_of_block (h : u.blockRefused write addr.toNat = true) : u.beatRefused q write true 2 addr.toNat v = true := by
  unfold State.beatRefused
  rw [h]
  simp

end

/-! ### The windows -/

/-- The number of a queue's window. -/
def windowNo (p : PortId) (d : Dir) : Nat := 2 * p.val + (match d with | .rx => 0 | .tx => 1)

theorem windowNo_lt (p : PortId) (d : Dir) : windowNo p d < 32 := by
  have := p.isLt
  unfold windowNo
  cases d <;> dsimp only <;> omega

theorem windowAddr_toNat (p : PortId) (d : Dir) {o : Nat} (ho : o < 0x400) :
    (windowAddr p d o).toNat = 0x8000 + (0x400 * windowNo p d + o) := by
  have h := windowNo_lt p d
  have haddr : windowAddr p d o = BitVec.ofNat 16 (0x8000 + 0x400 * windowNo p d + o) := by cases d <;> rfl
  rw [haddr, BitVec.toNat_ofNat]
  omega

theorem dirOf_window (p : PortId) (d : Dir) : dirOf (windowNo p d) = d := by
  unfold windowNo dirOf
  cases d with
  | rx => exact if_pos (by dsimp only; omega)
  | tx => exact if_neg (by dsimp only; omega)

/-- The register at offset `o` of a window. -/
def windowReg (p : PortId) (d : Dir) (o : Nat) : Option Reg :=
  match o with
  | 0 => some (.pop p d) | 4 => some (.peek p d) | 8 => (if d = .tx then some (.push p) else none)
  | _ => none

/-- A word of the claim and data window blocks. -/
theorem regAt_high {b : Nat} (h4 : b % 4 = 0) (h : 0x7000 ≤ b) : regAt b = highReg b := by
  have hword : b / 4 * 4 = b := by omega
  have hlow : ∀ k ≤ 0x7000, ¬ b < k := by omega
  simp [regAt, hword, hlow]

theorem regAt_window (p : PortId) (d : Dir) {o : Nat} (h : o = 0 ∨ o = 4 ∨ o = 8) :
    regAt (windowAddr p d o).toNat = windowReg p d o := by
  have ho : o < 0x400 := by omega
  have h4 : o % 4 = 0 := by omega
  have hw := windowNo_lt p d
  have hd := dirOf_window p d
  have hp : windowNo p d / 2 = p.val := by
    unfold windowNo
    cases d <;> dsimp only <;> omega
  rw [windowAddr_toNat p d ho]
  generalize windowNo p d = n at hw hd hp
  have hclaim : ¬ (0x7000 ≤ 0x8000 + (0x400 * n + o) ∧ 0x8000 + (0x400 * n + o) < 0x7280) := by omega
  have hhigh : 0x8000 ≤ 0x8000 + (0x400 * n + o) ∧ 0x8000 + (0x400 * n + o) < 0x10000 := by omega
  have hport : (⟨(0x8000 + (0x400 * n + o) - 0x8000) / 0x800, by omega⟩ : PortId) = p := Fin.ext (by dsimp only; omega)
  have hdir : (0x8000 + (0x400 * n + o) - 0x8000) / 0x400 = n := by omega
  have hoff : (0x8000 + (0x400 * n + o)) % 0x400 = o := by omega
  rw [regAt_high (by omega) (by omega)]
  unfold highReg windowReg
  rw [dif_neg hclaim, dif_pos hhigh]
  dsimp only
  obtain rfl | rfl | rfl := h <;> rw [hport, hdir, hoff, hd] <;> rfl

theorem regAt_pop (p : PortId) (d : Dir) : regAt (windowAddr p d 0).toNat = some (.pop p d) := regAt_window p d (by decide)
theorem regAt_peek (p : PortId) (d : Dir) : regAt (windowAddr p d 4).toNat = some (.peek p d) := regAt_window p d (by decide)
theorem regAt_push (p : PortId) : regAt (windowAddr p .tx 8).toNat = some (.push p) := regAt_window p .tx (by decide)
theorem regAt_push_rx (p : PortId) : regAt (windowAddr p .rx 8).toNat = none := regAt_window p .rx (by decide)

theorem windowAddr_aligned (p : PortId) (d : Dir) {o : Nat} (ho : o < 0x400) (h4 : o % 4 = 0) :
    (windowAddr p d o).toNat % 4 = 0 := by
  rw [windowAddr_toNat p d ho]
  omega

theorem windowShut_iff (s : State) (p : PortId) : s.windowShut p = true ↔
    s.benchMode = false ∨ ((s.port p).st ≠ .ready ∧ (s.port p).st ≠ .run) := by
  unfold State.windowShut
  simp only [Bool.or_eq_true, Bool.not_eq_true', Bool.or_eq_false_iff, beq_eq_false_iff_ne]

theorem windowShut_acceptBlk (s : State) (p : PortId) : s.acceptBlk.windowShut p = s.windowShut p := by
  unfold State.windowShut
  rw [acceptBlk_benchMode, acceptBlk_port]

/-- A window register refuses a word only while its window is shut (R203). -/
theorem regRefuses_pop (u : State) (q : Req) (p : PortId) (d : Dir) :
    u.regRefuses q false true 2 0 (.pop p d) = u.windowShut p := by
  change (false || u.windowShut p || false) = u.windowShut p
  rw [Bool.false_or, Bool.or_false]
theorem regRefuses_push (u : State) (q : Req) (p : PortId) (v : Word) :
    u.regRefuses q true true 2 v (.push p) = u.windowShut p := by
  change (false || u.windowShut p || false) = u.windowShut p
  rw [Bool.false_or, Bool.or_false]

section
variable {s : State} {q : Req} {p : PortId} {d : Dir} {v : Word}

theorem exec_pop_shut (h : s.blocksFlow = true) (hshut : s.windowShut p = true) :
    exec (.pop q p d) s = .next (s.acceptBlk.accessError q (windowAddr p d 0) 1) := by
  refine congrArg Host.Outcome.next (read1_refused h (beatRefused_of_reg (regAt_pop p d) ?_))
  rw [regRefuses_pop, windowShut_acceptBlk, hshut]

theorem exec_push_shut (h : s.blocksFlow = true) (hshut : s.windowShut p = true) :
    exec (.push q p d v) s = .next (s.acceptBlk.accessError q (windowAddr p d 8) 1) := by
  refine congrArg Host.Outcome.next (write1_refused h ?_)
  cases d with
  | rx => exact beatRefused_of_none (regAt_push_rx p)
  | tx =>
    refine beatRefused_of_reg (regAt_push p) ?_
    rw [regRefuses_push, windowShut_acceptBlk, hshut]

theorem exec_push_rx (h : s.blocksFlow = true) :
    exec (.push q p .rx v) s = .next (s.acceptBlk.accessError q (windowAddr p .rx 8) 1) :=
  congrArg Host.Outcome.next (write1_refused h (beatRefused_of_none (regAt_push_rx p)))

theorem exec_pop_open (h : s.hostReady) (hopen : s.windowShut p = false) :
    exec (.pop q p d) s = .next (s.acceptBlk.windowRead q p d false) := by
  refine congrArg Host.Outcome.next ((read1_word h (windowAddr_aligned p d (by decide) rfl) (regAt_pop p d) ?_).trans ?_)
  · rw [regRefuses_pop, windowShut_acceptBlk, hopen]
  · unfold State.doRead
    rw [regAt_pop]

theorem exec_peek (h : s.hostReady) : exec (.peek q p d) s = .next (s.acceptBlk.windowRead q p d true) := by
  refine congrArg Host.Outcome.next ((read1_word h (windowAddr_aligned p d (by decide) rfl) (regAt_peek p d) rfl).trans ?_)
  unfold State.doRead
  rw [regAt_peek]

end

/-! ### PUSH -/

theorem txEnter_dev (p : PortId) (i : Item) (u : Bool) (o : Nat) (s : State) : (s.txEnter p i u o).dev = s.dev :=
  (dev_blind.run p).toItemBlind.txEnter ..

theorem enterQwrites_dev (p : PortId) (order : Nat) (s : State) : (s.enterQwrites p order).dev = s.dev :=
  forEach_keeps (π := State.dev) (fun _ _ _ => txEnter_dev ..) _

theorem pushItem_dev (p : PortId) (i : Item) (u : Bool) (s : State) : (s.pushItem p i u).dev = s.dev :=
  (txEnter_dev ..).trans (enterQwrites_dev ..)

theorem pushCmd_dev (p : PortId) (v : Word) (s : State) : (s.pushCmd p v).dev = s.dev := by
  unfold State.pushCmd
  dsimp only
  split
  · exact pushItem_dev ..
  · split
    · rfl
    · exact pushItem_dev ..

theorem exec_push_open {s : State} {q : Req} {p : PortId} {v : Word} (h : s.hostReady) (hopen : s.windowShut p = false) :
    exec (.push q p .tx v) s = .next ((s.acceptBlk.pushCmd p v).complete q 0 0 0 []) := by
  refine congrArg Host.Outcome.next (write1_still (r := .push p) (res := .ok) h (windowAddr_aligned p .tx (by decide) rfl) (regAt_push p) ?_ rfl ?_)
  · rw [regRefuses_push, windowShut_acceptBlk, hopen]
  · rw [pushCmd_dev]
    exact acceptBlk_changing s

end Sys2Proof.Machine
end

section
/-! SUPPORT. What the reads of a data window return and leave (07 R203, R204, R208), and the obligation on them. -/

namespace Sys2Proof.Machine

/-! ### What a window holds -/

theorem popExt_of_stock {x y : Port} (h : x.stock = y.stock) (d : Dir) : (x.queue d).popExt = (y.queue d).popExt := by
  cases d with
  | rx =>
    have hq : x.stock.rxq.popExt = y.stock.rxq.popExt := congrArg (fun z : Port => z.rxq.popExt) h
    exact hq
  | tx =>
    have hq : x.stock.txq.popExt = y.stock.txq.popExt := congrArg (fun z : Port => z.txq.popExt) h
    exact hq

theorem flushTag_of_hull {x y : Port} (h : x.hull = y.hull) : x.flushTag = y.flushTag := by
  have hf : x.hull.flushTag = y.hull.flushTag := congrArg Port.flushTag h
  exact hf

section
variable {s : State} {p : PortId} {d : Dir}

theorem queue_modQueue (f : Queue → Queue) : (s.modQueue p d f).queue p d = f (s.queue p d) := (modQueue_shows s p d f).queue

theorem queue_setLast (v : Word) : (s.setLast p d v).queue p d = { s.queue p d with lastPop := v } := queue_modQueue _

theorem queue_leftFlush (i : Item) : (s.leftFlush p i).queue p d = s.queue p d := by
  unfold State.leftFlush
  split
  · unfold State.queue
    rw [State.port_modPort]
    cases d <;> rfl
  · rfl

theorem afterDraw_stock (s : State) (p : PortId) : ((s.afterDraw p).port p).stock = (s.port p).stock :=
  ((stock_blind p).drain _).trans ((stock_blind p).deliver s)

/-! ### POP and PEEK now -/

/-- What is done when an item has left through its window: its events, and the FLUSH tag of a transmit queue (R203, R208). -/
def State.poppedItem (p : PortId) (d : Dir) (e : Entry) (s : State) : State :=
  match d with
  | .rx => (s.tellAll p e.notes).afterDraw p
  | .tx => (s.leftFlush p e.item).tieSync p

theorem popNow_ext {x : CellW} (h : (s.queue p d).popExt = some x) : s.popNow p d =
    some (windowWord ((s.queue p d).lastPop.getLsbD 30) false x,
      (s.modQueue p d (fun q => { q with popExt := none })).setLast p d (windowWord ((s.queue p d).lastPop.getLsbD 30) false x)) := by
  unfold State.popNow
  rw [h]

theorem popNow_item {e : Entry} {lane : QLane} {t : State} (h : (s.queue p d).popExt = none)
    (ht : s.takeItem p d = some (e, lane, t)) : s.popNow p d = some (windowWord (lane == .urgent) e.start e.item.cell,
      ((t.modQueue p d (fun q => { q with popExt := e.item.ext })).setLast p d
        (windowWord (lane == .urgent) e.start e.item.cell)).poppedItem p d e) := by
  unfold State.popNow
  rw [h]
  dsimp only
  rw [ht]
  cases d <;> rfl

theorem popNow_none (h : (s.queue p d).popExt = none) (ht : s.takeItem p d = none) : s.popNow p d = none := by
  unfold State.popNow
  rw [h]
  dsimp only
  rw [ht]

theorem popExt_poppedItem (e : Entry) : ((s.poppedItem p d e).queue p d).popExt = (s.queue p d).popExt := by
  cases d with
  | rx => exact (popExt_of_stock (afterDraw_stock ..) .rx).trans (popExt_of_stock ((stock_blind p).tellAll ..) .rx)
  | tx => exact (popExt_of_stock ((stock_blind p).tieSync ..) .tx).trans (congrArg Queue.popExt (queue_leftFlush ..))

/-- A FLUSH that leaves a transmit queue leaves its tag (R208). -/
theorem flushTag_poppedItem {e : Entry} (h : e.item.isType 8 = true) : ((s.poppedItem p .tx e).port p).flushTag = some e.item.arg := by
  refine (flushTag_of_hull ((hull_blind p).tieSync ..)).trans ?_
  unfold State.leftFlush
  rw [if_pos h, State.port_modPort]

theorem peekNow_item {e : Entry} {lane : QLane} (h : (s.queue p d).popExt = none) (he : (s.queue p d).peekNext = some (e, lane)) :
    s.peekNow p d = some (windowWord (lane == .urgent) e.start e.item.cell,
      s.setLast p d (windowWord (lane == .urgent) e.start e.item.cell)) := by
  unfold State.peekNow
  dsimp only
  rw [h]
  dsimp only
  rw [he]

theorem peekNow_none (h : (s.queue p d).popExt = none) (he : (s.queue p d).peekNext = none) : s.peekNow p d = none := by
  unfold State.peekNow
  dsimp only
  rw [h]
  dsimp only
  rw [he]

theorem windowNow_pop (hp : s.present p = true) : s.windowNow p d false = s.popNow p d :=
  (if_neg (by rw [hp]; exact Bool.false_ne_true)).trans (if_neg Bool.false_ne_true)
theorem windowNow_peek (hp : s.present p = true) : s.windowNow p d true = s.peekNow p d :=
  (if_neg (by rw [hp]; exact Bool.false_ne_true)).trans (if_pos rfl)

theorem windowRead_some {q : Req} {peek : Bool} {v : Word} {t : State} (h : s.windowNow p d peek = some (v, t)) :
    s.windowRead q p d peek = t.complete q 0 0 0 [v] := by
  unfold State.windowRead
  rw [h]

theorem windowRead_none {q : Req} {peek : Bool} (h : s.windowNow p d peek = none) : s.windowRead q p d peek =
    { s with host := { s.host with stalls := s.host.stalls ++ [{ q := q, p := p, d := d, peek := peek }] } } := by
  unfold State.windowRead
  rw [h]

end

/-! ### The end of a stall (R204) -/

theorem rxqEvents_underrun (s : State) (p : PortId) : ((s.rxqEvent 3 p).port p).rxqEvents = (s.port p).rxqEvents ||| 8#4 := by
  have h : s.rxqEvent 3 p = s.markRxq 3 p := rfl
  have hide : ((s.port p).hide 1 3).rxqEvents = (s.port p).rxqEvents := by
    unfold Port.hide
    split <;> rfl
  rw [h]
  unfold State.markRxq
  rw [portCount_port, State.port_modPort]
  exact congrArg (· ||| 8#4) hide

theorem txqEvents_underrun (s : State) (p : PortId) : ((s.txqEvent 4 p).port p).txqEvents = (s.port p).txqEvents ||| 16#5 := by
  have h : s.txqEvent 4 p = State.portCount (40 + 4) p (s.modPort p (fun x => { x with txqEvents := x.txqEvents ||| oneBit 5 4 })) := rfl
  rw [h, portCount_port, State.port_modPort]
  rfl

/-- A stalled read of an empty window: the last value without VALID, and UNDERRUN. -/
def State.underrun (s : State) (p : PortId) (d : Dir) : State :=
  match d with
  | .rx => s.rxqEvent 3 p
  | .tx => s.txqEvent 4 p

section
variable {s : State} {q : Req} {w : Stall}

theorem exec_stallEnd_answers (hserving : s.serving = true) (hw : s.host.stalls.find? (fun y => sameReq y.q q) = some w) {x : Word} {t : State}
    (h : ({ s with host := { s.host with stalls := s.host.stalls.filter (fun y => y != w) } } : State).windowNow w.p w.d w.peek =
      some (x, t)) : exec (.dataWindowStallEnd q) s = .next (t.complete w.q 0 0 0 [x]) := by
  refine congrArg Host.Outcome.next ?_
  rw [hw]
  refine (if_neg (by rw [hserving]; exact Bool.false_ne_true)).trans ?_
  dsimp only
  rw [h]

theorem exec_stallEnd_empty (hserving : s.serving = true) (hw : s.host.stalls.find? (fun y => sameReq y.q q) = some w)
    (hp : s.present w.p = true)
    (h : ({ s with host := { s.host with stalls := s.host.stalls.filter (fun y => y != w) } } : State).windowNow w.p w.d w.peek = none) :
    exec (.dataWindowStallEnd q) s =
      .next ((({ s with host := { s.host with stalls := s.host.stalls.filter (fun y => y != w) } } : State).underrun w.p w.d).complete
        w.q 0 0 0 [(s.queue w.p w.d).lastPop &&& 0x7FFFFFFF#32]) := by
  refine congrArg Host.Outcome.next ?_
  rw [hw]
  refine (if_neg (by rw [hserving]; exact Bool.false_ne_true)).trans ?_
  dsimp only
  rw [h]
  refine (if_neg (by rw [show ({ s with host := { s.host with stalls := s.host.stalls.filter (fun y => y != w) } } : State).present w.p
    = s.present w.p from rfl, hp]; exact Bool.false_ne_true)).trans ?_
  unfold State.underrun
  cases w.d <;> rfl

end

/-- Settles O47. -/
theorem dataWindowsAct : Obligations.DataWindowsAct := by
  intro s q p d v h u shut stalled
  have hflow : s.blocksFlow = true := h.1
  have hport : u.port p = s.port p := acceptBlk_port s p
  have hqueue : u.queue p d = s.queue p d := congrArg (Port.queue · d) hport
  have hshut : s.windowShut p = true ↔ shut := windowShut_iff s p
  have hopen (hn : ¬ shut) : s.windowShut p = false := Bool.eq_false_iff.mpr (mt hshut.mp hn)
  have hpresent (hp : s.present p = true) : u.present p = true := (acceptBlk_present s p).trans hp
  refine ⟨fun hs => ⟨exec_pop_shut hflow (hshut.mpr hs), exec_push_shut hflow (hshut.mpr hs)⟩, exec_push_rx hflow,
    fun hn => exec_push_open h (hopen hn), fun hn hp hext => ⟨fun e lane t ht => ?_, fun ht => ?_⟩,
    fun hp hext => ⟨fun e lane he => ?_, fun he => ?_⟩, fun hn hp x hext => ?_, fun w hw => ⟨fun x t hx => ?_, fun hx hp => ?_⟩⟩
  · have hread := windowRead_some (q := q) ((windowNow_pop (hpresent hp)).trans
      (popNow_item ((congrArg Queue.popExt hqueue).trans hext) ht))
    refine ⟨_, (exec_pop_open h (hopen hn)).trans (congrArg Host.Outcome.next hread), ?_, fun hd hflush => ?_⟩
    · rw [popExt_poppedItem, queue_setLast, queue_modQueue]
    · subst hd
      exact flushTag_poppedItem hflush
  · exact (exec_pop_open h (hopen hn)).trans (congrArg Host.Outcome.next (windowRead_none ((windowNow_pop (hpresent hp)).trans
      (popNow_none ((congrArg Queue.popExt hqueue).trans hext) ht))))
  · have hread := windowRead_some (q := q) ((windowNow_peek (hpresent hp)).trans
      (peekNow_item ((congrArg Queue.popExt hqueue).trans hext) ((congrArg Queue.peekNext hqueue).trans he)))
    refine ⟨_, (exec_peek h).trans (congrArg Host.Outcome.next hread), ?_, ?_⟩
    · rw [queue_setLast, hqueue]
      rfl
    · rw [queue_setLast, hqueue]
      exact hext
  · exact (exec_peek h).trans (congrArg Host.Outcome.next (windowRead_none ((windowNow_peek (hpresent hp)).trans
      (peekNow_none ((congrArg Queue.popExt hqueue).trans hext) ((congrArg Queue.peekNext hqueue).trans he)))))
  · have hread := windowRead_some (q := q) ((windowNow_pop (hpresent hp)).trans
      (popNow_ext ((congrArg Queue.popExt hqueue).trans hext)))
    rw [hqueue] at hread
    refine ⟨_, (exec_pop_open h (hopen hn)).trans (congrArg Host.Outcome.next hread), ?_⟩
    rw [queue_setLast, queue_modQueue]
  · exact exec_stallEnd_answers (serving_of_hostReady h) hw hx
  · refine ⟨_, exec_stallEnd_empty (serving_of_hostReady h) hw hp hx, fun hd => ?_, fun hd => ?_⟩
    · rw [hd]
      exact rxqEvents_underrun _ w.p
    · rw [hd]
      exact txqEvents_underrun _ w.p

end Sys2Proof.Machine
end

section
/-! SUPPORT. The tie commands (06 R170, R173, R176). -/

namespace Sys2Proof.Machine

/-! ### READY, as R173 gives it -/

section
variable (g : Fin 4) (s : State)

theorem tie_of_attEvent (i : SrcId) : (s.attEvent i).tie g = s.tie g := by
  obtain ⟨a, e, h⟩ := attEvent_form i s
  rw [h]
  rfl

theorem tieReady_ready : ((s.tieReady g).tie g).ready = ((s.tie g).hostRel && (s.tie g).members != 0 && s.allReached g) := by
  unfold State.tieReady
  dsimp only
  generalize hr : ((s.tie g).hostRel && (s.tie g).members != 0 && s.allReached g) = r
  split
  · next h => exact (eq_of_beq h).symm
  · have hset : ((s.modTie g (fun t => { t with ready := r })).tie g).ready = r := by rw [State.tie_modTie]
    split
    · rw [tie_of_attEvent]; exact hset
    · exact hset

theorem tieReady_hostRel (h : Fin 4) : ((s.tieReady h).tie g).hostRel = (s.tie g).hostRel :=
  congrArg (fun r => r.2.2.2.1) (tieReady_record g h s)

theorem tieReleaseCmd_free (h : (s.tie g).hostRel = false) : s.tieReleaseCmd g = (s.tieReady g, .ok) := by
  refine if_pos ?_
  rw [tieReady_hostRel, h]
  rfl

theorem tieReleaseCmd_acts (h : (s.tie g).hostRel = true) (hm : (s.tie g).members ≠ 0) (hall : s.allReached g = true) :
    s.tieReleaseCmd g = ((s.tieReady g).tieRelease g, .ok) := by
  refine (if_neg ?_).trans (if_pos ?_)
  · rw [tieReady_hostRel, h]
    exact Bool.false_ne_true
  · rw [tieReady_ready, h, hall, bne_iff_ne.mpr hm]
    rfl

theorem tieReleaseCmd_early (h : (s.tie g).hostRel = true) (hmay : ¬ ((s.tie g).members ≠ 0 ∧ s.allReached g = true)) :
    s.tieReleaseCmd g = (((s.tieReady g).modTie g (fun t => { t with early := true })).attEvent (tieSrc g),
      .refused (oneBit 16 g.val) false) := by
  refine (if_neg ?_).trans (if_neg ?_)
  · rw [tieReady_hostRel, h]
    exact Bool.false_ne_true
  · rw [tieReady_ready, h, Bool.true_and, Bool.and_eq_true, bne_iff_ne]
    exact hmay

/-- A release that acts is one more of the group. -/
theorem tieReleaseCmd_releases : (((s.tieReady g).tieRelease g).tie g).releases = (s.tie g).releases + 1 := by
  refine (congrArg (fun r => r.2.1) (tieRelease_record g (s.tieReady g))).trans ?_
  exact congrArg (· + 1) (congrArg (fun r => r.2.1) (tieReady_record g g s))

/-! ### TIE_GROUP -/

theorem tieGroupCmd_taken (v : Word) (h : (s.tie g).opened = true ∨
    ∃ h : Fin 4, h ≠ g ∧ (s.tie h).members &&& (bits v 0 16 &&& s.presentMask) ≠ 0) :
    s.tieGroupCmd g v = (s, .refused (oneBit 16 g.val) false) := by
  refine if_pos ?_
  rw [Bool.or_eq_true, List.any_eq_true]
  refine h.imp id fun ⟨h, hne, hm⟩ => ⟨h, List.mem_finRange h, ?_⟩
  rw [Bool.and_eq_true, bne_iff_ne, bne_iff_ne]
  exact ⟨hne, hm⟩

theorem tieGroupCmd_acts (v : Word) (hopen : (s.tie g).opened = false)
    (h : ¬ ∃ h : Fin 4, h ≠ g ∧ (s.tie h).members &&& (bits v 0 16 &&& s.presentMask) ≠ 0) :
    s.tieGroupCmd g v = (forEach s.presentPorts State.tieSync (s.modTie g (fun t => { t with
      members := bits v 0 16 &&& s.presentMask, hostRel := v.getLsbD 16 })), .ok) := by
  refine if_neg ?_
  rw [hopen, Bool.false_or, List.any_eq_true]
  rintro ⟨k, -, hk⟩
  rw [Bool.and_eq_true, bne_iff_ne, bne_iff_ne] at hk
  exact h ⟨k, hk⟩

/-! ### A cancelled round -/

/-- No round of group `g` is open, and no present port waits at one of its marks, nor stands at one. -/
def State.unTied (s : State) : Prop :=
  (s.tie g).opened = false ∧ ∀ p, s.present p = true → (s.port p).flow.tieWait ≠ some g ∧ (s.port p).tieHead ≠ some g

end

section
variable {g : Fin 4} {s : State}

theorem opened_modTie {f : Tie → Tie} (hf : ∀ t : Tie, t.opened = false → (f t).opened = false) (h : Fin 4)
    (hs : (s.tie g).opened = false) : ((s.modTie h f).tie g).opened = false := by
  by_cases hg : g = h
  · subst hg
    rw [State.tie_modTie]
    exact hf _ hs
  · rw [State.tie_modTie_ne s f hg]
    exact hs

theorem opened_tieReady (h : Fin 4) : ((s.tieReady h).tie g).opened = (s.tie g).opened := by
  have hset (r : Bool) : ((s.modTie h (fun t => { t with ready := r })).tie g).opened = (s.tie g).opened := by
    by_cases hg : g = h
    · subst hg
      rw [State.tie_modTie]
    · rw [State.tie_modTie_ne s _ hg]
  unfold State.tieReady
  dsimp only
  split
  · rfl
  · split
    · rw [tie_of_attEvent]; exact hset _
    · exact hset _

theorem closed_of_left (t : Tie) (l : BitVec 16) (h : t.opened = false) :
    (if !t.opened then t else if t.members &&& ~~~(t.left ||| l) == 0 then t.closed else { t with left := t.left ||| l }).opened = false := by
  rw [if_pos (by rw [h]; rfl)]
  exact h

theorem tieRound_unTied (h : Fin 4) (hs : s.unTied g) : ((s.tieOpen h).tieReady h).unTied g := by
  obtain ⟨hclosed, hports⟩ := hs
  have hretied : s.Retied ((s.tieOpen h).tieReady h) := (tieOpen_retied h s).trans (tieReady_retied h _)
  refine ⟨?_, fun p hp => ?_⟩
  · rw [opened_tieReady]
    by_cases hg : g = h
    · subst hg
      unfold State.tieOpen
      dsimp only
      have hnone : (s.presentPorts.any (fun p => (s.port p).flow.tieWait == some g)) = false := by
        rw [List.any_eq_false]
        intro p hp
        rw [beq_iff_eq]
        exact (hports p (present_of_mem hp)).1
      rw [State.tie_modTie, hnone, if_pos (by simp)]
      exact hclosed
    · unfold State.tieOpen
      dsimp only
      rw [State.tie_modTie_ne s _ hg]
      exact hclosed
  · rw [port_of_retied hretied]
    refine hports p ?_
    obtain ⟨ts, a, e, ht⟩ := hretied
    rw [ht] at hp
    exact hp

theorem tieMark_ne (p : PortId) (h : (s.port p).tieHead ≠ some g) : s.tieMark p ≠ some g := by
  unfold State.tieMark
  split
  · next k hk =>
    rw [hk] at h
    split
    · exact h
    · nofun
  · nofun

theorem waitingAt_unTied {p : PortId} {w : Option (Fin 4)} (hw : w ≠ some g) (hs : s.unTied g) :
    (s.modPort p (fun x => x.waitingAt w)).unTied g := by
  obtain ⟨hclosed, hports⟩ := hs
  refine ⟨hclosed, fun q hq => ?_⟩
  have hold := hports q hq
  by_cases h : q = p
  · subst h
    rw [State.port_modPort]
    exact ⟨hw, hold.2⟩
  · rw [State.port_modPort_ne s _ h]
    exact hold

theorem tieLeave_unTied (p : PortId) (k : Fin 4) (hs : s.unTied g) : (s.tieLeave p k).unTied g := by
  obtain ⟨hclosed, hports⟩ := hs
  exact ⟨opened_modTie (fun t ht => closed_of_left t (oneBit 16 p.val) ht) k hclosed, hports⟩

theorem tieSync_unTied (p : PortId) (hp : s.present p = true) (hs : s.unTied g) : (s.tieSync p).unTied g := by
  rw [tieSync_eq]
  refine forEach_upholds (I := State.unTied g) (fun h _ t ht => tieRound_unTied h ht) ?_
  split
  · exact hs
  · have hmoved := waitingAt_unTied (p := p) (tieMark_ne p (hs.2 p hp).2) hs
    unfold State.moveWait
    split
    · exact tieLeave_unTied p _ hmoved
    · exact hmoved

/-- The members that waited wait no longer. -/
theorem endWaits_tieWait (ps : List PortId) (s : State) (p : PortId) : ((forEach ps State.endWait s).port p).flow.tieWait =
    if p ∈ ps then none else (s.port p).flow.tieWait := by
  have hother (q : PortId) (hq : q ≠ p) (t : State) : (t.endWait q).port p = t.port p := (port_blind hq.symm).endWait t
  have hown (t : State) : ((t.endWait p).port p).flow.tieWait = none := by
    unfold State.endWait
    rw [State.port_modPort]
  induction ps generalizing s with
  | nil => rfl
  | cons q qs ih =>
    rw [forEach_cons, ih]
    by_cases hq : q = p
    · subst hq
      rw [hown, ite_self, if_pos List.mem_cons_self]
    · rw [hother q hq]
      simp only [List.mem_cons, Ne.symm hq, false_or]

theorem present_endWaits (ps : List PortId) (s : State) (p : PortId) : (forEach ps State.endWait s).present p = s.present p :=
  present_of_presentMask (forEach_keeps (π := State.presentMask)
    (fun q _ t => (presentMask_blind.run q).toItemBlind.endWait t) s) p

/-- Group `g` closed, its round gone and its READY fallen. -/
def State.tieClosed (g : Fin 4) (s : State) : State :=
  (s.modTie g (fun t => { t.closed with ready := false })).attFall (tieSrc g)

theorem tie_tieClosed (g : Fin 4) (s : State) : (s.tieClosed g).tie g = { (s.tie g).closed with ready := false } :=
  State.tie_modTie s g (fun t => { t.closed with ready := false })

theorem tieClosed_record (g h : Fin 4) (s : State) : (s.tieClosed g).tieRecord h = s.tieRecord h :=
  modTie_record (f := fun t => { t.closed with ready := false }) (fun _ => rfl) h g s

theorem tieCancelCmd_eq (g : Fin 4) (s : State) : s.tieCancelCmd g =
    forEach (s.tieWaiting g) State.tieSync (((forEach (s.tieWaiting g) State.endWait s).tieClosed g).tieReady g) := rfl

/-- A cancel leaves no round open where no member stands at a mark of the group again (R176). -/
theorem tieCancelCmd_closes (h : ∀ p, s.present p = true →
    ((forEach (s.tieWaiting g) State.endWait s).port p).tieHead ≠ some g) : ((s.tieCancelCmd g).tie g).opened = false := by
  have hpresent (p : PortId) := present_endWaits (s.tieWaiting g) s p
  have hwait (p : PortId) := endWaits_tieWait (s.tieWaiting g) s p
  have hstart : ((forEach (s.tieWaiting g) State.endWait s).tieClosed g).unTied g := by
    refine ⟨?_, fun p hp => ⟨?_, h p ((hpresent p).symm.trans hp)⟩⟩
    · rw [tie_tieClosed]
      rfl
    · refine ne_of_eq_of_ne (hwait p) ?_
      split
      · nofun
      · next hmem => exact fun hg => hmem ((mem_tieWaiting ..).mpr ⟨(hpresent p).symm.trans hp, hg⟩)
  have hready : State.unTied g (State.tieReady g ((forEach (s.tieWaiting g) State.endWait s).tieClosed g)) := by
    have hretied := tieReady_retied g ((forEach (s.tieWaiting g) State.endWait s).tieClosed g)
    refine ⟨(opened_tieReady g).trans hstart.1, fun p hp => ?_⟩
    rw [port_of_retied hretied]
    obtain ⟨ts, a, e, ht⟩ := hretied
    rw [ht] at hp
    exact hstart.2 p hp
  have hlast : State.unTied g (s.tieCancelCmd g) ∧ State.presentMask (s.tieCancelCmd g) = s.presentMask := by
    rw [tieCancelCmd_eq]
    refine forEach_upholds (I := fun t => State.unTied g t ∧ State.presentMask t = s.presentMask) (fun p hp t ht => ?_) ⟨hready, ?_⟩
    · have hsync := (presentMask_blind.run p).toItemBlind.tieSync t
      refine ⟨tieSync_unTied p ?_ ht.1, hsync.trans ht.2⟩
      exact (present_of_presentMask ht.2 p).trans ((mem_tieWaiting ..).mp hp).1
    · refine ((presentMask_blind.run 0).toItemBlind.tieReady g _).trans ?_
      exact forEach_keeps (π := State.presentMask) (fun q _ t => (presentMask_blind.run q).toItemBlind.endWait t) s
  exact hlast.1.1

theorem tieCancelCmd_record (h : Fin 4) : (s.tieCancelCmd g).tieRecord h = s.tieRecord h := by
  refine (forEach_keeps (π := State.tieRecord h) (fun p _ t => tieSync_record h p t) _).trans ((tieReady_record ..).trans ?_)
  exact (tieClosed_record ..).trans (congrArg Tie.record (endWaits_tie ..))

end

end Sys2Proof.Machine
end

section
/-! SUPPORT. The words of the tie and queue commands, and what such a write does (06 R170 to R176; 07 R218). -/

namespace Sys2Proof.Machine

/-! ### The words -/

theorem regAt_tieGroup (g : Fin 4) : regAt (0x6040#16 + BitVec.ofNat 16 (4 * g.val)).toNat = some (.tieGroup g) := by
  revert g
  decide

theorem tieGroup_aligned (g : Fin 4) : (0x6040#16 + BitVec.ofNat 16 (4 * g.val)).toNat % 4 = 0 := by
  revert g
  decide

/-- The group that a TIE_CMD word names. -/
def wordGroup (v : Word) : Fin 4 := ⟨(bits v 0 2).toNat, (bits v 0 2).isLt⟩

theorem wordGroup_ofNat (op : BitVec 2) (g : Fin 4) : wordGroup (fld 30 op ||| BitVec.ofNat 32 g.val) = g := by
  revert op g
  decide

theorem writeReg_tieCmd (u : State) (q : Req) (a : BitVec 16) (v : Word) (mids : List Mid) : u.writeReg q a .tieCmd v mids =
    if bits v 30 2 = 1#2 then u.tieReleaseCmd (wordGroup v) else (u.tieCancelCmd (wordGroup v), .ok) :=
  if_neg (ne_true_of_eq_false (hidden_of_open u q rfl rfl))

theorem writeReg_queueCmd (u : State) (q : Req) (a : BitVec 16) (v : Word) (mids : List Mid) : u.writeReg q a .queueCmd v mids =
    (u.queueCmd v, .ok) := if_neg (ne_true_of_eq_false (hidden_of_open u q rfl rfl))

theorem tieWord_op (op : BitVec 2) (g : Fin 4) : bits (fld 30 op ||| BitVec.ofNat 32 g.val) 30 2 = op := by
  revert op g
  decide

theorem getLsbD_flag (lo i : Nat) (hi : i < 32) (b : Bool) : (flag lo b).getLsbD i = (b && decide (i = lo)) := by
  unfold flag
  cases b
  · simp
  · rw [if_pos rfl, ← show oneBit 32 lo = 1#32 <<< lo from rfl, getLsbD_oneBit]
    simp [hi]

section
variable (op : BitVec 2) (rx tx : Bool) (ports : BitVec 16)

theorem getLsbD_queueWord {i : Nat} (hi : i < 32) : (queueWord op rx tx ports).getLsbD i =
    ((!decide (i < 30) && op.getLsbD (i - 30)) || (tx && decide (i = 17)) || (rx && decide (i = 16)) || ports.getLsbD i) := by
  unfold queueWord fld
  simp only [BitVec.getLsbD_or, BitVec.getLsbD_shiftLeft, BitVec.getLsbD_setWidth, getLsbD_flag _ i hi, hi, Nat.sub_zero, decide_true,
    Bool.true_and, Nat.not_lt_zero, decide_false, Bool.not_false, show i - 30 < 32 by omega]

theorem queueWord_op : bits (queueWord op rx tx ports) 30 2 = op := by
  refine BitVec.eq_of_getLsbD_eq fun i hi => ?_
  have hp : ports.getLsbD (30 + i) = false := BitVec.getLsbD_of_ge ports _ (by omega)
  rw [bits, BitVec.getLsbD_extractLsb', getLsbD_queueWord _ _ _ _ (by omega), hp]
  simp [hi, show ¬ 30 + i = 17 by omega, show ¬ 30 + i = 16 by omega]

theorem queueWord_ports : bits (queueWord op rx tx ports) 0 16 = ports := by
  refine BitVec.eq_of_getLsbD_eq fun i hi => ?_
  rw [bits, BitVec.getLsbD_extractLsb', getLsbD_queueWord _ _ _ _ (by omega), Nat.zero_add]
  simp [hi, show i < 30 by omega, show ¬ i = 17 by omega, show ¬ i = 16 by omega]

theorem queueWord_rx : (queueWord op rx tx ports).getLsbD 16 = rx := by
  rw [getLsbD_queueWord _ _ _ _ (by decide), BitVec.getLsbD_of_ge ports 16 (by decide)]
  simp

theorem queueWord_tx : (queueWord op rx tx ports).getLsbD 17 = tx := by
  rw [getLsbD_queueWord _ _ _ _ (by decide), BitVec.getLsbD_of_ge ports 17 (by decide)]
  simp

end

/-! ### The device state stays -/

section
variable {α : Type} {π : State → α} (hv : PortsBlind π)
include hv

theorem PortsBlind.tieReady (g s) : π (State.tieReady g s) = π s := (hv.run 0).toItemBlind.tieReady g s
theorem PortsBlind.endWaits (ps s) : π (forEach ps State.endWait s) = π s :=
  forEach_keeps (π := π) (fun p _ t => (hv.run p).toItemBlind.endWait t) s
theorem PortsBlind.tieSyncs (ps s) : π (forEach ps State.tieSync s) = π s :=
  forEach_keeps (π := π) (fun p _ t => (hv.run p).toItemBlind.tieSync t) s
theorem PortsBlind.tieCancelCmd (g s) : π (State.tieCancelCmd g s) = π s :=
  (hv.tieSyncs ..).trans ((hv.tieReady ..).trans ((hv.attFall ..).trans ((hv.modTie ..).trans (hv.endWaits ..))))
theorem PortsBlind.tieGroupCmd (g v s) : π (State.tieGroupCmd g v s).1 = π s := by
  unfold State.tieGroupCmd
  dsimp only
  split
  · rfl
  · exact (hv.tieSyncs ..).trans (hv.modTie ..)
end

theorem tieRelease_dev (g : Fin 4) (s : State) : (s.tieRelease g).dev = s.dev := by
  unfold State.tieRelease
  extract_lets waiting start s1 dist s2 s3 s4
  have h1 : s1.dev = s.dev := dev_blind.endWaits ..
  have h4 : s4.dev = s1.dev := (dev_blind.count ..).trans (dev_blind.attFall _ s3)
  exact (dev_blind.tieReady ..).trans ((dev_blind.tieSyncs ..).trans (h4.trans h1))

theorem tieReleaseCmd_dev (g : Fin 4) (s : State) : (s.tieReleaseCmd g).1.dev = s.dev := by
  unfold State.tieReleaseCmd
  dsimp only
  split
  · exact dev_blind.tieReady ..
  · split
    · exact (tieRelease_dev ..).trans (dev_blind.tieReady ..)
    · exact (dev_blind.attEvent ..).trans ((dev_blind.modTie ..).trans (dev_blind.tieReady ..))

theorem flushCmd_dev (p : PortId) (d : Dir) (s : State) : (s.flushCmd p d).dev = s.dev := by
  have hb := (dev_blind.run p).toItemBlind
  exact keeps_if (π := State.dev) rfl (keeps_if (π := State.dev) (hb.crossFlush ..) (hb.modQueue ..))

theorem enterSome_dev (p : PortId) (s : State) : (s.enterSome p).dev = s.dev := by
  unfold State.enterSome
  split
  · rfl
  · exact forEach_keeps (π := State.dev) (fun _ _ _ => txEnter_dev ..) _

theorem emptyAt_dev (p : PortId) (d : Dir) (o : Nat) (s : State) : (s.emptyAt p d o).dev = s.dev := by
  have hb := (dev_blind.run p).toItemBlind
  cases d with
  | rx =>
    change (s.emptyQueue p .rx 0 true 0).dev = s.dev
    exact hb.emptyQueue .rx 0 true 0 s
  | tx =>
    unfold State.emptyAt
    extract_lets gone since s1 h s2
    exact (hb.emptyQueue ..).trans (hb.lossSince since s2)

theorem resetCmd_dev (p : PortId) (d : Dir) (s : State) : (s.resetCmd p d).dev = s.dev := by
  have hb := (dev_blind.run p).toItemBlind
  refine keeps_if (π := State.dev) ((emptyAt_dev ..).trans ((hb.cancelFlush ..).trans ?_)) (hb.cancelFlush ..)
  cases d with
  | rx => rfl
  | tx => exact enterSome_dev ..

/-! ### The commands as writes -/

/-- One queue of one port, as a QUEUE_CMD of operation `op` commands it (R218). -/
def State.queueOp (op : BitVec 2) (p : PortId) (d : Dir) (s : State) : State :=
  if op == 1#2 then s.flushCmd p d else s.resetCmd p d
/-- The selected queues of one port, receive before transmit. -/
def State.queueOps (op : BitVec 2) (rx tx : Bool) (p : PortId) (s : State) : State :=
  let t := if rx = true then s.queueOp op p .rx else s
  if tx = true then t.queueOp op p .tx else t

theorem queueOp_dev (op : BitVec 2) (p : PortId) (d : Dir) (s : State) : (s.queueOp op p d).dev = s.dev :=
  keeps_if (π := State.dev) (flushCmd_dev ..) (resetCmd_dev ..)

theorem queueOps_dev (op : BitVec 2) (rx tx : Bool) (p : PortId) (s : State) : (s.queueOps op rx tx p).dev = s.dev := by
  have hrx : (if rx = true then s.queueOp op p .rx else s).dev = s.dev := keeps_if (π := State.dev) (queueOp_dev ..) rfl
  exact keeps_if (π := State.dev) ((queueOp_dev ..).trans hrx) hrx

theorem queueCmd_word (op : BitVec 2) (rx tx : Bool) (ports : BitVec 16) (s : State) :
    s.queueCmd (queueWord op rx tx ports) = forEach (s.portsOf ports) (State.queueOps op rx tx) s := by
  unfold State.queueCmd
  rw [queueWord_op, queueWord_ports, queueWord_rx, queueWord_tx]
  rfl

section
variable {s : State} (h : s.hostReady) (q : Req)
include h

theorem tieGroup_write (g : Fin 4) (v : Word) {t : State} {res : BeatRes} (ht : s.acceptBlk.tieGroupCmd g v = (t, res)) :
    exec (.tieGroup q g v) s = .next (t.wordDone q (0x6040#16 + BitVec.ofNat 16 (4 * g.val)) res) := by
  have hdev : t.dev = s.acceptBlk.dev := (congrArg (fun r : State × BeatRes => r.1.dev) ht).symm.trans (dev_blind.tieGroupCmd ..)
  refine congrArg Host.Outcome.next (write1_still (r := .tieGroup g) h (tieGroup_aligned g) (regAt_tieGroup g) rfl
    ((if_neg (ne_true_of_eq_false (hidden_of_open s.acceptBlk q (r := .tieGroup g) rfl rfl))).trans ht) ?_)
  exact (congrArg Dev.changing hdev).trans (acceptBlk_changing s)

/-- A write of TIE_CMD with operation `op` for group `g`. -/
theorem tieCmd_write (op : BitVec 2) (g : Fin 4) (hop : op = 1 ∨ op = 2) {t : State} {res : BeatRes}
    (ht : (if op = 1#2 then s.acceptBlk.tieReleaseCmd g else (s.acceptBlk.tieCancelCmd g, .ok)) = (t, res)) :
    s.write1 q 0x6054 (fld 30 op ||| BitVec.ofNat 32 g.val) [] = t.wordDone q 0x6054 res := by
  have hfield := tieWord_op op g
  have hok : s.acceptBlk.regRefuses q true true 2 (fld 30 op ||| BitVec.ofNat 32 g.val) .tieCmd = false := by
    unfold State.regRefuses Reg.opBad
    dsimp only
    rw [hfield]
    obtain rfl | rfl := hop <;> rfl
  have hdev : t.dev = s.acceptBlk.dev := by
    rw [← show (if op = 1#2 then s.acceptBlk.tieReleaseCmd g else (s.acceptBlk.tieCancelCmd g, BeatRes.ok)).1 = t from
      congrArg Prod.fst ht]
    split
    · exact tieReleaseCmd_dev ..
    · exact dev_blind.tieCancelCmd ..
  have hwrite : s.acceptBlk.writeReg q 0x6054 .tieCmd (fld 30 op ||| BitVec.ofNat 32 g.val) [] = (t, res) := by
    rw [writeReg_tieCmd, hfield, wordGroup_ofNat]
    exact ht
  exact write1_still h rfl regAt_tieCmd hok hwrite ((congrArg Dev.changing hdev).trans (acceptBlk_changing s))

/-- A write of QUEUE_CMD (R218). -/
theorem queueCmd_write (op : BitVec 2) (hop : op = 1 ∨ op = 2) (rx tx : Bool) (ports : BitVec 16) :
    s.write1 q 0x6060 (queueWord op rx tx ports) [] =
      (forEach (s.portsOf ports) (State.queueOps op rx tx) s.acceptBlk).complete q 0 0 0 [] := by
  have hok : s.acceptBlk.regRefuses q true true 2 (queueWord op rx tx ports) .queueCmd = false := by
    unfold State.regRefuses Reg.opBad
    dsimp only
    rw [queueWord_op]
    obtain rfl | rfl := hop <;> rfl
  have hcmd : s.acceptBlk.queueCmd (queueWord op rx tx ports) = forEach (s.portsOf ports) (State.queueOps op rx tx) s.acceptBlk := by
    rw [queueCmd_word, portsOf_acceptBlk]
  refine write1_still (addr := 0x6060#16) (r := .queueCmd) h rfl regAt_queueCmd hok ((writeReg_queueCmd ..).trans (congrArg (·, BeatRes.ok) hcmd)) ?_
  exact (congrArg Dev.changing (forEach_keeps (π := State.dev) (fun p _ t => queueOps_dev op rx tx p t) s.acceptBlk)).trans
    (acceptBlk_changing s)

end

end Sys2Proof.Machine
end

section
/-! SUPPORT. What the flush and the reset of a receive queue leave (07 R205, R206, R209), and the obligation on the tie and queue
commands. -/

namespace Sys2Proof.Machine

section
variable {s : State} {p : PortId}

/-! ### The GAP and the FLUSH of an emptied queue -/

/-- An emptied queue that owes one FLUSH: its GAP, where it has a record, and the FLUSH stand last, and nothing is owed. -/
theorem tryGap_rx_flush {l : Option Loss} (hpend : (s.queue p .rx).pend = l) (hheld : ∀ r ∈ l, r.held = false)
    (howed : (s.queue p .rx).flushOwed = 1) (hflush : (s.queue p .rx).flushing = false) (hsound : s.sound p .rx = true)
    (hsegs : (s.queue p .rx).segs = []) (hread : (s.queue p .rx).headRead = 0) (hstore : (s.queue p .rx).store = [])
    (hfree : 3 ≤ (s.queue p .rx).freeCells (s.pool p)) :
    ∃ (r : Queue) (n : Nat), s.Shows p .rx r n (s.tryGap p .rx false) ∧ r.pend = none ∧ r.flush = (s.queue p .rx).flush ∧
      r.bulkItems = (s.queue p .rx).bulkItems ++ (l.toList.map (fun r => gapMark r.reason r.count)) ++ [flushMark] ∧
      r.urgItems = (s.queue p .rx).urgItems := by
  have hwaits : (s.port p).gapWaits .rx = false := by
    unfold Port.gapWaits
    dsimp only
    rw [show (s.port p).queue .rx = s.queue p .rx from rfl, hflush, howed]
    simp
  have hblocked : (s.queue p .rx).blocked = true := by
    unfold Queue.blocked
    rw [howed]
    simp
  have hwrites := tryGap_rx_writes (force := false) (Or.inr hwaits) hblocked (by rw [howed]; split <;> omega)
  rw [howed] at hwrites
  rw [hwrites]
  have hgap : ∃ (r : Queue) (n : Nat), s.Shows p .rx r n (s.writeGap p .rx) ∧ r.pend = none ∧ r.flush = (s.queue p .rx).flush ∧
      r.bulkItems = (s.queue p .rx).bulkItems ++ (l.toList.map (fun r => gapMark r.reason r.count)) ∧
      r.urgItems = (s.queue p .rx).urgItems ∧ 1 ≤ r.freeCells n := by
    cases l with
    | none =>
      rw [writeGap_none hpend]
      exact ⟨_, _, shows_self hsound, hpend, rfl, (List.append_nil _).symm, rfl, by omega⟩
    | some l =>
      obtain ⟨ns, r, hr, hshows, haside, hbulk, hurg⟩ := writeGap_rx hpend (hheld l rfl) hsound (by omega)
      refine ⟨r.q, r.pool, hshows, congrArg Prod.fst haside, congrArg (fun a => a.2.1.1) haside, hbulk, hurg, ?_⟩
      have hfree' : 2 ≤ ({ s.queue p .rx with pend := none } : Queue).freeCells (s.pool p) := by
        refine Nat.le_trans ?_ (show (s.queue p .rx).freeCells (s.pool p) ≤ _ from Nat.le_refl _)
        omega
      exact freeCells_after_gap (q := { s.queue p .rx with pend := none }) hsegs hread hstore hfree' hr
  obtain ⟨g, n, hshows, hgpend, hgflush, hgbulk, hgurg, hgfree⟩ := hgap
  have hgsound := hshows.sound hsound
  obtain ⟨r, hpay, haside, hbulk, hurg⟩ := payFlush_one hgsound (by rw [hshows.queue, hshows.pool]; exact hgfree)
  rw [hshows.queue] at haside hbulk hurg
  have hdeliver := deliver_shows ((s.writeGap p .rx).payFlush p .rx 1) p
  rw [hpay.queue, hpay.pool] at hdeliver
  obtain ⟨hdu, hdb, hda⟩ := deliver_items ({ r.q with flushOwed := 0 } : Queue)
  refine ⟨_, _, (hshows.trans hsound hpay).trans hsound hdeliver, ?_, ?_, ?_, ?_⟩
  · exact (congrArg Prod.fst (hda.trans rfl)).trans ((congrArg Prod.fst haside).trans hgpend)
  · exact (congrArg (fun a => a.2.1.1) hda).trans ((congrArg (fun a => a.2.1.1) haside).trans hgflush)
  · rw [hdb]
    refine Eq.trans hbulk ?_
    rw [hgbulk]
  · rw [hdu]
    exact Eq.trans hurg hgurg

/-! ### The flush of a receive queue (R205, R206) -/

/-- The loss of `n` items of reason `reason`, where any was lost. -/
def lossOf (reason : BitVec 4) (n : Nat) (notes : List Note) : Option Loss :=
  if n = 0 then none else some { reason := reason, count := addLoss (some n) (some 0), notes := notes }

theorem lossOf_held {reason : BitVec 4} {n : Nat} {notes : List Note} : ∀ r ∈ lossOf reason n notes, r.held = false := by
  intro r hr
  unfold lossOf at hr
  split at hr
  · cases hr
  · cases hr
    rfl

theorem lossOf_gap (reason : BitVec 4) (n : Nat) (notes : List Note) :
    (lossOf reason n notes).toList.map (fun r => gapMark r.reason r.count) = if n = 0 then [] else [gapMark reason (some n)] := by
  unfold lossOf
  split
  · rfl
  · exact congrArg (fun i : Item => [i]) (gapMark_addLoss reason (some n))

/-- A queue whose crossed flush is at its boundary. -/
def Queue.flushEnded (q : Queue) : Queue :=
  { q with flush := .none, flushOwed := q.flushOwed + 1, rEpoch := q.wEpoch, demoting := false, pinValid := false, serving := .none }

theorem finishFlush_eq {c : Nat} {ns : List Note} (h : (s.queue p .rx).flush = .crossed c ns) :
    s.finishFlush p .rx = (((if c = 0 then s else s.addLoss p .rx 5 (some c) ns).modQueue p .rx Queue.flushEnded).tryGap
      p .rx false).tieSync p := by
  unfold State.finishFlush
  rw [h]
  rfl

/-- The loss of a flush stands in a record that was empty. -/
theorem addLoss_shows (reason : BitVec 4) (n : Nat) (ns : List Note) (hsound : s.sound p .rx = true)
    (hpend : (s.queue p .rx).pend = none) :
    s.Shows p .rx { s.queue p .rx with pend := lossOf reason n ns } (s.pool p) (if n = 0 then s else s.addLoss p .rx reason (some n) ns) := by
  unfold lossOf
  by_cases hn : n = 0
  · rw [if_pos hn, if_pos hn, ← hpend]
    exact shows_self hsound
  · rw [if_neg hn, if_neg hn]
    have hmod := modQueue_shows s p .rx (fun q => { q with pend := joinLoss q.pend reason (some n) ns })
    rw [hpend, joinLoss_none] at hmod
    exact hmod

/-- A crossed flush ends: its GAP, where it discarded an item, and its FLUSH are the last of an emptied queue. -/
theorem finishFlush_leaves {c : Nat} {ns : List Note} (h : (s.queue p .rx).flush = .crossed c ns) (hsound : s.sound p .rx = true)
    (hpend : (s.queue p .rx).pend = none) (howed : (s.queue p .rx).flushOwed = 0) (hsegs : (s.queue p .rx).segs = [])
    (hread : (s.queue p .rx).headRead = 0) (hstore : (s.queue p .rx).store = []) (hfree : 3 ≤ (s.queue p .rx).freeCells (s.pool p)) :
    ∃ r : Queue, ((s.finishFlush p .rx).queue p .rx) = r ∧ r.flush = .none ∧ r.pend = none ∧
      r.bulkItems = (s.queue p .rx).bulkItems ++ (if c = 0 then [] else [gapMark 5 (some c)]) ++ [flushMark] ∧
      r.urgItems = (s.queue p .rx).urgItems := by
  have hloss := addLoss_shows 5 c ns hsound hpend
  rw [finishFlush_eq h]
  generalize (if c = 0 then s else s.addLoss p .rx 5 (some c) ns) = t at hloss
  have hended := modQueue_shows t p .rx Queue.flushEnded
  rw [hloss.queue, hloss.pool] at hended
  generalize t.modQueue p .rx Queue.flushEnded = u at hended
  have hu := hloss.trans hsound hended
  have hq := hu.queue
  obtain ⟨r, n, hshows, hrp, hrf, hrb, hru⟩ := tryGap_rx_flush (s := u) (p := p) (l := lossOf 5 c ns) (congrArg Queue.pend hq) lossOf_held
    ((congrArg Queue.flushOwed hq).trans (congrArg (· + 1) howed)) ((congrArg Queue.flushing hq).trans rfl) (hu.sound hsound)
    ((congrArg Queue.segs hq).trans hsegs) ((congrArg Queue.headRead hq).trans hread) ((congrArg Queue.store hq).trans hstore)
    (by rw [hq, hu.pool]; exact hfree)
  refine ⟨r, (queue_of_berth (tieSync_berth ..) .rx).trans hshows.queue, hrf.trans (congrArg Queue.flush hq), hrp, ?_, ?_⟩
  · rw [lossOf_gap, hq] at hrb
    exact hrb
  · rw [hq] at hru
    exact hru

/-- A flush of a receive queue between packets discards every item at once. -/
theorem crossFlush_leaves (hsound : s.sound p .rx = true) (hpend : (s.queue p .rx).pend = none)
    (howed : (s.queue p .rx).flushOwed = 0) (hopen : (s.queue p .rx).isOpen = false)
    (hfree : 3 ≤ ((s.queue p .rx).clear false (s.pool p)).1.freeCells ((s.queue p .rx).clear false (s.pool p)).2) :
    ∃ r : Queue, (s.crossFlush p .rx).queue p .rx = r ∧ r.flush = .none ∧ r.pend = none ∧ r.urgItems = [] ∧
      r.bulkItems = (if (s.queue p .rx).items = 0 then [] else [gapMark 5 (some (s.queue p .rx).items)]) ++ [flushMark] := by
  have hcross : s.crossFlush p .rx = ((s.putQueue p .rx { ((s.queue p .rx).clear false (s.pool p)).1 with
      flush := .crossed (s.queue p .rx).items (s.queue p .rx).allNotes } ((s.queue p .rx).clear false (s.pool p)).2).atBoundary
        p .rx).tieSync p := by
    unfold State.crossFlush
    dsimp only
    rw [hsound]
    rfl
  have hput : s.Shows p .rx { ((s.queue p .rx).clear false (s.pool p)).1 with
      flush := .crossed (s.queue p .rx).items (s.queue p .rx).allNotes } ((s.queue p .rx).clear false (s.pool p)).2
      (s.putQueue p .rx { ((s.queue p .rx).clear false (s.pool p)).1 with
        flush := .crossed (s.queue p .rx).items (s.queue p .rx).allNotes } ((s.queue p .rx).clear false (s.pool p)).2) :=
    putQueue_berth ..
  rw [hcross]
  generalize s.putQueue p .rx _ _ = t at hput
  have hq := hput.queue
  have hboundary : t.atBoundary p .rx = t.finishFlush p .rx := by
    refine if_pos ?_
    rw [hq]
    change (true && !(s.queue p .rx).isOpen) = true
    rw [hopen]
    rfl
  obtain ⟨r, hr, hrf, hrp, hrb, hru⟩ := finishFlush_leaves (s := t) (congrArg Queue.flush hq) (hput.sound hsound)
    ((congrArg Queue.pend hq).trans hpend) ((congrArg Queue.flushOwed hq).trans howed) ((congrArg Queue.segs hq).trans rfl)
    ((congrArg Queue.headRead hq).trans rfl) ((congrArg Queue.store hq).trans rfl) (by rw [hq, hput.pool]; exact hfree)
  rw [hboundary]
  refine ⟨r, (queue_of_berth (tieSync_berth ..) .rx).trans hr, hrf, hrp, ?_, ?_⟩
  · rw [hru, hq]
    rfl
  · rw [hrb, hq]
    rfl

/-! ### The reset of a receive queue (R209) -/

theorem renewQueue_of_agrees {x : Port} {d : Dir} (h : x.agrees d = true) (q : Queue) : x.renewQueue d q = x.setQueue d q := by
  unfold Port.renewQueue Port.setQueue
  rw [if_pos (checkOf_of_agrees h)]

theorem modRegion_berth {f : Region → Region} (hpool : ∀ y, (f y).pool = y.pool) (hups : ∀ y, (f y).poolUpsets = y.poolUpsets) :
    (s.modRegion (regionOf p) f).berth p = s.berth p := by
  unfold State.berth State.pool
  rw [State.region_modRegion, hpool, hups]
  rfl

/-- The record of an emptied queue that owes no FLUSH is written at once, where there is one. -/
theorem tryGap_rx_forced {l : Option Loss} (hpend : (s.queue p .rx).pend = l) (hheld : ∀ r ∈ l, r.held = false)
    (howed : (s.queue p .rx).flushOwed = 0) (hsound : s.sound p .rx = true) (hfree : 2 ≤ (s.queue p .rx).freeCells (s.pool p)) :
    ∃ (r : Queue) (n : Nat), s.Shows p .rx r n (s.tryGap p .rx true) ∧
      r.aside = ({ s.queue p .rx with pend := none } : Queue).aside ∧
      r.bulkItems = (s.queue p .rx).bulkItems ++ l.toList.map (fun r => gapMark r.reason r.count) ∧
      r.urgItems = (s.queue p .rx).urgItems := by
  cases l with
  | none =>
    have hclear : (s.queue p .rx).blocked = false := by
      unfold Queue.blocked
      rw [hpend, howed]
      rfl
    rw [tryGap_unblocked hclear]
    refine ⟨_, _, shows_self hsound, ?_, (List.append_nil _).symm, rfl⟩
    unfold Queue.aside
    rw [hpend]
  | some l =>
    obtain ⟨ns, r, -, hshows, haside, hbulk, hurg⟩ := writeGap_rx hpend (hheld l rfl) hsound hfree
    have hblocked : (s.queue p .rx).blocked = true := by
      unfold Queue.blocked
      rw [hpend]
      rfl
    obtain ⟨hu, hb, ha⟩ := deliver_items r.q
    have hdeliver := deliver_shows (s.writeGap p .rx) p
    rw [hshows.queue, hshows.pool] at hdeliver
    rw [tryGap_rx_writes (Or.inl rfl) hblocked (by rw [hpend, howed]; exact hfree), howed]
    exact ⟨r.q.deliver.2, r.pool, hshows.trans hsound hdeliver, ha.trans haside, hb.trans hbulk, hu.trans hurg⟩

/-- A receive queue that was emptied: only the GAP of its items stands in it. -/
theorem emptyQueue_leaves (hsound : s.sound p .rx = true) (hahead : (s.queue p .rx).clearAhead) (hold : (s.port p).rx.holding = none)
    (hfree : 2 ≤ ((s.queue p .rx).clear true (s.pool p)).1.freeCells ((s.queue p .rx).clear true (s.pool p)).2) :
    ∃ r : Queue, (s.emptyQueue p .rx 0 true 0).queue p .rx = r ∧ r.clearAhead ∧ r.flush = (s.queue p .rx).flush ∧ r.urgItems = [] ∧
      r.bulkItems = if (s.queue p .rx).items = 0 then [] else [gapMark 0 (some (s.queue p .rx).items)] := by
  obtain ⟨hpend, howed, hflush⟩ := hahead
  have hagrees : (s.port p).agrees .rx = true := ((Bool.and_eq_true ..).mp hsound).1
  unfold State.emptyQueue
  extract_lets q n r s1 s2 notes s3 rg s4 s5
  have h1 : s.Shows p .rx r.1 r.2 s1 := by
    have hq : s.modPort p (fun x => x.renewQueue .rx r.1) = s.setQueue p .rx r.1 :=
      congrArg (s.setPort p) (renewQueue_of_agrees hagrees r.1)
    have hput : s1 = s.putQueue p .rx r.1 r.2 := congrArg (State.setPool p r.2) hq
    rw [hput]
    exact putQueue_berth ..
  have h3 : s.Shows p .rx { r.1 with pend := lossOf 0 n notes } r.2 s3 := by
    have hloss := addLoss_shows (s := s1) (p := p) 0 n notes (h1.sound hsound) ((congrArg Queue.pend h1.queue).trans hpend)
    rw [h1.queue, h1.pool] at hloss
    exact h1.trans hsound hloss
  have h4 : s.Shows p .rx { r.1 with pend := lossOf 0 n notes } r.2 s4 := by
    refine h3.of_berth (keeps_if (π := State.berth p) rfl ((count_berth ..).trans ?_))
    exact modRegion_berth (by exact fun _ => rfl) (by exact fun _ => rfl)
  clear_value s4
  have hq4 := h4.queue
  obtain ⟨t, m, hshows, haside, hbulk, hurg⟩ := tryGap_rx_forced (s := s4) (p := p) (l := lossOf 0 n notes) (congrArg Queue.pend hq4)
    lossOf_held ((congrArg Queue.flushOwed hq4).trans howed) (h4.sound hsound) (by rw [hq4, h4.pool]; exact hfree)
  have h5 : s.Shows p .rx t m s5 := h4.trans hsound hshows
  clear_value s5
  have hclear : (s5.queue p .rx).clearAhead := by
    rw [h5.queue]
    refine clearAhead_of_aside haside ?_
    rw [hq4]
    exact ⟨rfl, howed, hflush⟩
  have hold5 : (s5.port p).rx.holding = none := (congrArg RxSt.holding h5.rx).trans hold
  refine ⟨t, ?_, h5.queue ▸ hclear, ?_, ?_, ?_⟩
  · refine (congrArg (fun t : State => t.queue p .rx) (drain_empty hclear hold5)).trans ?_
    exact (queue_of_berth (tieSync_berth ..) .rx).trans h5.queue
  · exact (congrArg (fun a => a.2.1.1) haside).trans (congrArg Queue.flush hq4)
  · rw [hurg, hq4]
    rfl
  · rw [hbulk, hq4, lossOf_gap]
    rfl

end

end Sys2Proof.Machine
end

section
/-! SUPPORT. The obligation on the tie and queue commands. -/

namespace Sys2Proof.Machine

section
variable {s : State} {p : PortId}

theorem flushCmd_rx (hawake : s.dev.st = .awake) (hflush : (s.queue p .rx).flush = .none) : s.flushCmd p .rx = s.crossFlush p .rx :=
  (if_neg (by rw [hflush]; decide)).trans (if_pos (by rw [hawake]; rfl))

/-- A flush that waits for the items accepted before it (R269). -/
theorem flushCmd_waits {d : Dir} (hwaits : d = .tx ∨ s.dev.st ≠ .awake) (hflush : (s.queue p d).flush = .none) :
    s.flushCmd p d = s.modQueue p d (fun q => { q with flush := .waiting s.host.accepted }) := by
  refine (if_neg (by rw [hflush]; decide)).trans (if_neg ?_)
  rw [Bool.and_eq_true, beq_iff_eq, beq_iff_eq]
  rintro ⟨hd, hawake⟩
  obtain h | h := hwaits
  · rw [hd] at h
    cases h
  · exact h hawake

theorem cancelFlush_of_none {d : Dir} (hflush : (s.queue p d).flush = .none) :
    s.cancelFlush p d = s.modQueue p d (fun q => { q with flush := .none }) := by
  unfold State.cancelFlush
  rw [hflush]

/-- The reset of a receive queue with nothing pending leaves its GAP alone. -/
theorem resetCmd_leaves (hawake : s.dev.st = .awake) (hahead : (s.queue p .rx).clearAhead) (hnone : (s.queue p .rx).flush = .none)
    (hsound : s.sound p .rx = true) (hold : (s.port p).rx.holding = none)
    (hfree : 2 ≤ ((s.queue p .rx).clear true (s.pool p)).1.freeCells ((s.queue p .rx).clear true (s.pool p)).2) :
    ∃ r : Queue, (s.resetCmd p .rx).queue p .rx = r ∧ r.clearAhead ∧ r.flush = .none ∧ r.urgItems = [] ∧
      r.bulkItems = if (s.queue p .rx).items = 0 then [] else [gapMark 0 (some (s.queue p .rx).items)] := by
  have hreset : s.resetCmd p .rx = (s.modQueue p .rx (fun q => { q with flush := .none })).emptyQueue p .rx 0 true 0 := by
    rw [← cancelFlush_of_none hnone]
    exact if_pos (by rw [hawake]; rfl)
  have hmod := modQueue_shows s p .rx (fun q => { q with flush := .none })
  rw [hreset]
  generalize s.modQueue p .rx (fun q => { q with flush := .none }) = t at hmod
  have hq := hmod.queue
  obtain ⟨r, hr, hclear, hflush, hurg, hbulk⟩ := emptyQueue_leaves (s := t) (p := p) (hmod.sound hsound)
    (by rw [hq]; exact ⟨hahead.1, hahead.2.1, rfl⟩) ((congrArg RxSt.holding hmod.rx).trans hold) (by rw [hq, hmod.pool]; exact hfree)
  rw [hq] at hbulk
  exact ⟨r, hr, hclear, hflush.trans (congrArg Queue.flush hq), hurg, hbulk⟩

end

/-- Settles O45. -/
theorem tieAndQueueCommandsAct : Obligations.TieAndQueueCommandsAct := by
  refine ⟨fun s q g v h => ?_, fun s q rx tx ports h => ?_⟩
  · intro u m taken w may
    have htie (k : Fin 4) : u.tie k = s.tie k := by
      obtain ⟨x, n, l, a, c, e, hu⟩ := acceptBlk_form s
      rw [show u = _ from hu]
      rfl
    have hmask : u.presentMask = s.presentMask := presentMask_acceptBlk s
    have hports : u.presentPorts = s.presentPorts := acceptBlk_presentPorts s
    have htaken : taken ↔ ∃ k : Fin 4, k ≠ g ∧ (u.tie k).members &&& (bits v 0 16 &&& u.presentMask) ≠ 0 := by
      rw [hmask]
      exact exists_congr fun k => by rw [htie]
    refine ⟨fun hopen hfree => ?_, fun hbad => ?_, fun hrel => ?_, fun hrel hmay => ⟨?_, ?_⟩, fun hrel hmay => ?_, ?_⟩
    · have hcmd := tieGroupCmd_acts g u v ((congrArg Tie.opened (htie g)).trans hopen) (mt htaken.mpr hfree)
      rw [hports, hmask] at hcmd
      exact tieGroup_write h q g v hcmd
    · exact tieGroup_write h q g v (tieGroupCmd_taken g u v (hbad.imp (congrArg Tie.opened (htie g)).trans htaken.mp))
    · exact congrArg Host.Outcome.next (tieCmd_write h q 1 g (.inl rfl) ((if_pos rfl).trans
        (tieReleaseCmd_free g u ((congrArg Tie.hostRel (htie g)).trans hrel))))
    · exact congrArg Host.Outcome.next (tieCmd_write h q 1 g (.inl rfl) ((if_pos rfl).trans
        (tieReleaseCmd_acts g u ((congrArg Tie.hostRel (htie g)).trans hrel) (htie g ▸ hmay.1) hmay.2)))
    · exact (tieReleaseCmd_releases g u).trans (by rw [htie])
    · exact congrArg Host.Outcome.next (tieCmd_write h q 1 g (.inl rfl) ((if_pos rfl).trans
        (tieReleaseCmd_early g u ((congrArg Tie.hostRel (htie g)).trans hrel) (by rw [htie]; exact hmay))))
    · have hrecord : (u.tieCancelCmd g).tieRecord g = s.tieRecord g := (tieCancelCmd_record g).trans (congrArg Tie.record (htie g))
      refine ⟨u.tieCancelCmd g, congrArg Host.Outcome.next (tieCmd_write h q 2 g (.inr rfl) (if_neg (by decide))), rfl,
        congrArg (fun r => r.2.1) hrecord, congrArg (fun r => r.2.2.1) hrecord, fun hheads => tieCancelCmd_closes fun p hp => ?_⟩
      exact hheads p ((present_of_presentMask hmask p).symm.trans hp)
  · refine ⟨congrArg Host.Outcome.next (queueCmd_write h q 1 (.inl rfl) rx tx ports),
      congrArg Host.Outcome.next (queueCmd_write h q 2 (.inr rfl) rx tx ports), fun p hnone => ?_, fun p hnone hpend howed hsound => ?_⟩
    · rw [flushCmd_waits (.inl rfl) hnone, queue_modQueue]
      exact ⟨rfl, rfl⟩
    · have hflushing : (s.queue p .rx).flushing = false := by
        unfold Queue.flushing
        rw [hnone]
      refine ⟨fun hopen hfree => ?_, fun hold hfree => ?_⟩
      · obtain ⟨r, hr, hrf, hrp, hru, hrb⟩ := crossFlush_leaves hsound hpend howed hopen hfree
        rw [flushCmd_rx h.2.2 hnone, hr]
        exact ⟨hrf, hrp, hru, hrb⟩
      · obtain ⟨r, hr, hclear, hrf, hru, hrb⟩ := resetCmd_leaves h.2.2 ⟨hpend, howed, hflushing⟩ hnone hsound hold hfree
        rw [hr]
        exact ⟨hrf, hclear.1, hru, hrb⟩

end Sys2Proof.Machine
end

section
/-! SUPPORT. What the transmitter's operations leave of their port, but for the event bits and the waiting at a TIE mark (04 R114 to
R120; 05 R149 to R151; 06 R158 to R171). -/

namespace Sys2Proof.Machine

/-! ### A port without its events -/

/-- A port but for the event bits that a transmitter's operation can set, and the TIE mark it waits at. -/
def Port.untold (x : Port) : Port :=
  { x with
    af := { x.af with events := 0 }
    flow := { x.flow with events := 0, tieWait := none }
    txqEvents := 0
    unseen := Vector.replicate 4 0 }

theorem hide_untold (k : Fin 4) (b : Nat) (x : Port) : (x.hide k b).untold = x.untold := by
  unfold Port.hide
  split <;> rfl

section
variable {s : State} {p : PortId}

theorem tieSync_untold : ((s.tieSync p).port p).untold = (s.port p).untold := by
  obtain ⟨w, hw⟩ := tieSync_port p s
  rw [hw]
  rfl

theorem txqEvent_untold (b : Fin 5) : ((s.txqEvent b p).port p).untold = (s.port p).untold := by
  have hset : ((((s.modPort p (fun x => { x with txqEvents := x.txqEvents ||| oneBit 5 b })).portCount (40 + b) p)).port p).untold =
      (s.port p).untold := by
    rw [portCount_port, State.port_modPort]
    rfl
  unfold State.txqEvent
  exact keeps_if (π := fun t : State => (t.port p).untold) hset ((congrArg Port.untold (port_of_attEvent ..)).trans hset)

theorem flowEvent_untold (b : Fin 3) : ((s.flowEvent b p).port p).untold = (s.port p).untold := by
  rw [flowEvent_port]
  rfl

theorem markAf_port (b : Fin 4) : (s.markAf b p).port p = { (s.port p).hide 3 b.val with
    af := { ((s.port p).hide 3 b.val).af with events := ((s.port p).hide 3 b.val).af.events ||| oneBit 4 b } } :=
  (portCount_port ..).trans (State.port_modPort ..)

theorem afEvent_port (b : Fin 4) : (s.afEvent b p).port p = Port.reveal ⟨3, by decide⟩ (oneBit 21 b.val) ((s.markAf b p).port p) :=
  (port_of_attEvent ..).trans (State.port_modPort ..)

theorem afEvent_untold (b : Fin 4) : ((s.afEvent b p).port p).untold = (s.port p).untold := by
  rw [afEvent_port, markAf_port]
  exact hide_untold 3 b.val (s.port p)

theorem af_hide (k : Fin 4) (b : Nat) (x : Port) : (x.hide k b).af = x.af := by
  unfold Port.hide
  split <;> rfl

theorem afEvent_sets (b : Fin 4) : ((s.afEvent b p).port p).af.events.getLsbD b.val = true := by
  have hevents : ((s.afEvent b p).port p).af.events = (s.port p).af.events ||| oneBit 4 b := by
    rw [afEvent_port, markAf_port]
    exact congrArg (fun a : AfSt => a.events ||| oneBit 4 b) (af_hide ..)
  rw [hevents, getLsbD_or_oneBit b.isLt]

/-! ### A line effect starts (R120, R165) -/

/-- One credit of the station less, where one is left. -/
def creditLess (c : BitVec 16) : BitVec 16 := if c = 0 then 0 else c - 1

theorem toNat_creditLess (c : BitVec 16) : (creditLess c).toNat = c.toNat - 1 := by
  unfold creditLess
  split
  · next h => subst h; rfl
  · bv_omega

/-- A transmitter busy with a line effect, which the pacer and the station's credits count. -/
def Port.starting (x : Port) (n : TxNow) : Port :=
  { x with
    tx := { x.tx with now := n, driver := true, backoff := false, paceCount := satInc x.tx.paceCount }
    flow := { x.flow with txCredit := if x.credits = true then creditLess x.flow.txCredit else x.flow.txCredit } }

theorem startLine_port (n : TxNow) : (s.startLine p n).port p = (s.port p).starting n := by
  unfold State.startLine Port.starting
  dsimp only
  rcases hc : (s.port p).credits with _ | _
  · rw [if_neg Bool.false_ne_true, if_neg Bool.false_ne_true]
    exact State.port_modPort ..
  · rw [if_pos rfl, if_pos rfl, State.modFlow, State.port_modPort, State.modTx, State.port_modPort]
    rfl

/-! ### The frame that is sent (R149 to R151) -/

/-- The frame that is sent ends. -/
def AfSt.closed (a : AfSt) : AfSt := { a with txFrame := .outside }

theorem closeTxFrame_untold : ((s.closeTxFrame p).port p).untold = ((s.port p).detecting AfSt.closed).untold := by
  have hset : ((s.modAf p AfSt.closed).port p).untold = ((s.port p).detecting AfSt.closed).untold := congrArg Port.untold (port_modAf _)
  by_cases ho : (s.port p).af.txFrame = .outside
  · have hstill : s.closeTxFrame p = s := if_pos (beq_iff_eq.mpr ho)
    have hsame : (s.port p).detecting AfSt.closed = s.port p := by
      unfold Port.detecting AfSt.closed
      rw [← ho]
    rw [hstill, hsame]
  · have hclose : s.closeTxFrame p = if (s.port p).af.txSent = (s.port p).af.txLen then s.modAf p AfSt.closed
        else (s.modAf p AfSt.closed).afEvent 3 p := if_neg (mt beq_iff_eq.mp ho)
    rw [hclose]
    split
    · exact hset
    · exact (afEvent_untold 3).trans hset

/-- The frame whose header is to be sent. -/
def AfSt.heading (pid : Byte) (len : Nat) (a : AfSt) : AfSt := { a with txFrame := .header, txPid := pid, txLen := len, txSent := 0 }

/-- The header's characters (R149). -/
def frameHeader (sync pid : Byte) (len : Nat) (counted : Bool) : List (BitVec 9) :=
  [sync.setWidth 9, pid.setWidth 9] ++ (if counted then [BitVec.ofNat 9 (len % 256)] else []) ++ [(frameCrc pid len).setWidth 9]

/-- The characters that follow the break of a header. -/
def Port.headed (x : Port) (hdr : List (BitVec 9)) : Port := { x with tx := { x.tx with header := hdr } }

/-- A port that starts a frame. -/
def Port.framing (x : Port) (pid : Byte) (len : Nat) (counted : Bool) : Port :=
  ((x.detecting (AfSt.heading pid len)).headed (frameHeader x.sync pid len counted)).starting (.brk (x.breakBits (brkTxField x.cfg[16])))

theorem startFrame_untold (arg : BitVec 10) (len : Nat) (counted : Bool) : ((s.startFrame p arg len counted).port p).untold =
    ((s.port p).framing (pidByte (arg.extractLsb' 0 6)) len counted).untold := by
  have hclosed := closeTxFrame_untold (s := s) (p := p)
  have hstart : s.startFrame p arg len counted = ((((s.closeTxFrame p).modAf p (AfSt.heading (pidByte (arg.extractLsb' 0 6)) len)).modTx p
      (fun t => { t with header := frameHeader ((s.closeTxFrame p).port p).sync (pidByte (arg.extractLsb' 0 6)) len counted })).startLine p
      (.brk (((s.closeTxFrame p).port p).breakBits (brkTxField ((s.closeTxFrame p).port p).cfg[16])))) := rfl
  have hport : (s.startFrame p arg len counted).port p = ((s.closeTxFrame p).port p).framing (pidByte (arg.extractLsb' 0 6)) len counted := by
    rw [hstart, startLine_port, State.modTx, State.port_modPort, port_modAf]
    rfl
  rw [hport]
  generalize (s.closeTxFrame p).port p = x at hclosed
  generalize pidByte (arg.extractLsb' 0 6) = pid
  have hboth (x : Port) : (x.framing pid len counted).untold = x.untold.framing pid len counted := rfl
  rw [hboth, hclosed, hboth]
  rfl

/-! ### The item that is sent -/

theorem takeItem_port {d : Dir} {e : Entry} {l : QLane} {t : State} (h : s.takeItem p d = some (e, l, t)) :
    ∃ q, t.port p = (s.port p).setQueue d q := by
  unfold State.takeItem at h
  split at h
  · cases h
  split at h
  · cases h
  · rename_i r hr
    cases h
    refine ⟨r.q, ?_⟩
    have hset : ((s.setQueue p d r.q).port p) = (s.port p).setQueue d r.q := State.port_modPort ..
    refine Eq.trans ?_ hset
    unfold State.putQueue State.setPool
    dsimp only
    exact keeps_if (π := fun t : State => t.port p) (port_of_count ..) rfl

/-- A port that counts an item as refused. -/
def Port.refusing (x : Port) : Port := { x with txRefused := satInc x.txRefused }

theorem refuseItem_untold : ((s.refuseItem p).port p).untold = ((s.port p).refusing).untold :=
  (txqEvent_untold 3).trans (congrArg Port.untold (State.port_modPort ..))

/-- One payload character more has been sent (R151). -/
def AfSt.paid (a : AfSt) : AfSt := { a with txSent := if a.txFrame == .payload then a.txSent + 1 else a.txSent }

section
variable {i : Item}

theorem isType_isMark {t : BitVec 5} (h : i.isType t = true) : i.isMark = true ∧ i.typ = t := by
  unfold Item.isType at h
  rw [Bool.and_eq_true, beq_iff_eq] at h
  exact h

/-- A character of the transmit queue (R149). -/
theorem sendItem_char (hmark : i.isMark = false)
    (hcode : ¬ ((s.port p).fcMode ≠ 0 ∧ (s.port p).dataBits = 9 ∧ 0x1F0 ≤ ((s.port p).sendBits i.cell).toNat)) :
    (s.sendItem p i).port p = ((s.port p).starting (.char ((s.port p).sendBits i.cell))).detecting AfSt.paid := by
  have hsend : s.sendItem p i = State.portCount 17 p ((s.startLine p (.char ((s.port p).sendBits i.cell))).modAf p AfSt.paid) := by
    refine (if_pos (by rw [hmark]; rfl)).trans (if_neg ?_)
    simp only [Bool.and_eq_true, bne_iff_ne, decide_eq_true_eq]
    exact fun h => hcode ⟨h.1.1, h.1.2, h.2⟩
  rw [hsend, portCount_port, port_modAf, startLine_port]

/-- A reserved code is refused (R158). -/
theorem sendItem_code (hmark : i.isMark = false)
    (hcode : (s.port p).fcMode ≠ 0 ∧ (s.port p).dataBits = 9 ∧ 0x1F0 ≤ ((s.port p).sendBits i.cell).toNat) :
    s.sendItem p i = (s.refuseItem p).flowEvent 2 p := by
  refine (if_pos (by rw [hmark]; rfl)).trans (if_pos ?_)
  simp only [Bool.and_eq_true, bne_iff_ne, decide_eq_true_eq]
  exact ⟨⟨hcode.1, hcode.2.1⟩, hcode.2.2⟩

/-- A mark is sent by its type. -/
theorem sendItem_break {n : CellW} (h : i.isType 1 = true) (hext : i.ext = some n) :
    s.sendItem p i = s.startLine p (.brk ((s.port p).breakBits n.toNat)) := by
  obtain ⟨hmark, htyp⟩ := isType_isMark h
  unfold State.sendItem
  dsimp only
  rw [hmark, if_neg (by decide), htyp, hext]
  rfl

theorem sendItem_flush (h : i.isType 8 = true) : s.sendItem p i = s.modPort p (fun x => { x with flushTag := some i.arg }) := by
  obtain ⟨hmark, htyp⟩ := isType_isMark h
  unfold State.sendItem
  dsimp only
  rw [hmark, if_neg (by decide), htyp]
  rfl

theorem sendItem_tie (h : i.isType 7 = true) : s.sendItem p i =
    (s.modTie ⟨(i.arg.extractLsb' 0 2).toNat, (i.arg.extractLsb' 0 2).isLt⟩ (fun t => { t with stray := true })).attEvent
      (tieSrc ⟨(i.arg.extractLsb' 0 2).toNat, (i.arg.extractLsb' 0 2).isLt⟩) := by
  obtain ⟨hmark, htyp⟩ := isType_isMark h
  unfold State.sendItem
  dsimp only
  rw [hmark, if_neg (by decide), htyp]
  rfl

end

end

end Sys2Proof.Machine
end

section
/-! SUPPORT. The transmitter's next step, what stands on the line, and the drivers of a port (04 R104, R114 to R120; 05 R135, R149 to
R151; 06 R158 to R171; 12 R330). -/

namespace Sys2Proof.Machine

/-! ### The step at a character boundary (R195, R199) -/

/-- The back-off is over (R92; log 105). -/
def State.unbacked (s : State) (p : PortId) : State :=
  (s.modPort p (fun x => { x with tx := { x.tx with backoff := false } })).tieSync p

theorem unbacked_steady (s : State) (p : PortId) : (s.unbacked p).steady = s.steady :=
  (tieSync_steady ..).trans (modPort_steady (by exact fun _ => rfl))

section
variable {s t : State} {p : PortId} {mid : Mid}

theorem exec_transmitStart (hdue : s.lineStartDue p = false) (hdrive : s.mayDrive p mid = true) :
    exec (.transmitStart ⟨p, mid⟩) s = .next ((s.unbacked p).txStart p mid) :=
  congrArg Host.Outcome.next (if_neg (by rw [hdue, hdrive]; decide))

theorem exec_transmitStart_held (h : ¬ (s.lineStartDue p = false ∧ s.mayDrive p mid = true)) :
    exec (.transmitStart ⟨p, mid⟩) s = .next s := by
  refine congrArg Host.Outcome.next (if_pos ?_)
  dsimp only
  rcases hdue : s.lineStartDue p with _ | _
  · rcases hdrive : s.mayDrive p mid with _ | _
    · rfl
    · exact absurd ⟨hdue, hdrive⟩ h
  · rfl

/-- A transmitter that may drive is idle in Run, and no other driver of the port is on. -/
theorem mayDrive_rests (h : s.mayDrive p mid = true) : (s.port p).inRun = true ∧ (s.port p).tx.now = .idle ∧
    ((s.port p).line.pair (otherPair (s.port p).sendPair)).retrying = false := by
  unfold State.mayDrive Port.usable at h
  simp only [Bool.and_eq_true, Bool.not_eq_true', beq_iff_eq] at h
  obtain ⟨⟨⟨⟨⟨-, ⟨⟨hrun, -⟩, -⟩⟩, -⟩, hother⟩, hidle⟩, -⟩ := h
  exact ⟨hrun, hidle, hother⟩

section
variable (hdrive : s.mayDrive p mid = true) (hflow : (s.port p).flowStops = false) (hcode : s.codeDue p = false)
include hdrive hflow hcode

theorem txStart_open : ¬ (!s.mayDrive p mid || (s.port p).flowStops || s.codeDue p) = true := by
  rw [hdrive, hflow, hcode]
  decide

theorem txStart_header {c : BitVec 9} {rest : List (BitVec 9)} (h : (s.port p).tx.header = c :: rest) :
    s.txStart p mid = (s.sendHeader p c rest).tieSync p := by
  refine (if_neg (txStart_open hdrive hflow hcode)).trans ?_
  rw [h]

theorem txStart_waits (h : (s.port p).tx.header = []) (hwaits : (s.port p).flow.tieWait ≠ none ∨ (s.port p).paceFull = true) :
    s.txStart p mid = s := by
  refine (if_neg (txStart_open hdrive hflow hcode)).trans ?_
  rw [h]
  dsimp only
  cases (s.port p).txq.peekNext with
  | none => rfl
  | some e =>
    refine if_pos ?_
    rw [Bool.or_eq_true, Option.isSome_iff_ne_none]
    exact hwaits

section
variable {e : Entry} {lane : QLane} (h : (s.port p).tx.header = []) (hwait : (s.port p).flow.tieWait = none)
  (hfull : (s.port p).paceFull = false) (hpeek : (s.port p).txq.peekNext = some (e, lane))
include h hwait hfull hpeek

theorem txStart_frame (hstart : e.item.isType 4 = true) : s.txStart p mid = (s.sendFrameStart p e.item).tieSync p := by
  refine (if_neg (txStart_open hdrive hflow hcode)).trans ?_
  rw [h, hpeek]
  exact (if_neg (by rw [hwait, hfull]; decide)).trans (if_pos hstart)

theorem txStart_item (hstart : e.item.isType 4 = false) {t : State} (htake : s.takeItem p .tx = some (e, lane, t)) :
    s.txStart p mid = (t.sendItem p e.item).tieSync p := by
  refine (if_neg (txStart_open hdrive hflow hcode)).trans ?_
  rw [h, hpeek]
  refine (if_neg (by rw [hwait, hfull]; decide)).trans ((if_neg (ne_true_of_eq_false hstart)).trans ?_)
  rw [htake]

end

end

/-! ### A FRAME_START (R149 to R151) -/

/-- A FRAME_START that is consumed: the frame before it ends, and it is refused with TX_LS_RESERVED (R150). -/
def State.refuseStart (p : PortId) (t : State) : State := ((t.closeTxFrame p).refuseItem p).afEvent 2 p

theorem refuseStart_untold : ((t.refuseStart p).port p).untold = (((t.port p).detecting AfSt.closed).refusing).untold := by
  refine (afEvent_untold 2).trans (refuseItem_untold.trans ?_)
  have hboth (x : Port) : x.refusing.untold = x.untold.refusing := rfl
  rw [hboth, closeTxFrame_untold, hboth]

theorem source_iff {arg : BitVec 10} (n : Fin 4) : (arg.extractLsb' 8 2).toNat = n.val ↔ arg.extractLsb' 8 2 = BitVec.ofFin n := by
  rw [← BitVec.toNat_inj]
  rfl

section
variable {i : Item} {e : Entry} {lane : QLane} (htake : s.takeItem p .tx = some (e, lane, t))
include htake

theorem sendFrameStart_table (h : (i.arg.extractLsb' 8 2).toNat = 0) : s.sendFrameStart p i =
    t.startFrame p i.arg ((t.frameEntry (i.cell.setWidth 8)).extractLsb' 0 10).toNat false := by
  unfold State.sendFrameStart
  rw [htake]
  exact if_pos ((source_iff 0).mp h)

theorem sendFrameStart_counted (h : (i.arg.extractLsb' 8 2).toNat = 1) {c : Entry} {l : QLane} {w : State}
    (hnext : (t.port p).afterStart = some true) (hc : t.takeItem p .tx = some (c, l, w)) :
    s.sendFrameStart p i = w.startFrame p i.arg (c.item.cell.setWidth 8 : BitVec 8).toNat true := by
  unfold State.sendFrameStart
  rw [htake]
  dsimp only
  rw [(source_iff 1).mp h, hnext, hc]
  rfl

theorem sendFrameStart_waits (h : (i.arg.extractLsb' 8 2).toNat = 1) (hnext : (t.port p).afterStart = none) : s.sendFrameStart p i = s := by
  unfold State.sendFrameStart
  rw [htake]
  dsimp only
  rw [(source_iff 1).mp h, hnext]
  rfl

theorem sendFrameStart_mark (h : (i.arg.extractLsb' 8 2).toNat = 1) (hnext : (t.port p).afterStart = some false) :
    s.sendFrameStart p i = t.refuseStart p := by
  unfold State.sendFrameStart
  rw [htake]
  dsimp only
  rw [(source_iff 1).mp h, hnext]
  rfl

theorem sendFrameStart_reserved (h : 2 ≤ (i.arg.extractLsb' 8 2).toNat) : s.sendFrameStart p i = t.refuseStart p := by
  unfold State.sendFrameStart
  rw [htake]
  dsimp only
  refine (if_neg fun hz => ?_).trans (if_neg fun hz => ?_)
  · rw [hz] at h
    exact absurd h (by decide)
  · rw [hz] at h
    exact absurd h (by decide)

end

section
variable {x : Port}

theorem afterStart_next (h : x.fmt .tx ≠ .frame ∨ x.txq.servingNow ≠ .none) :
    x.afterStart = x.txq.peekNext.map (fun e => !e.1.item.isMark) := by
  refine if_neg ?_
  rw [Bool.and_eq_true, beq_iff_eq, beq_iff_eq]
  rintro ⟨hf, hs⟩
  exact h.elim (· hf) (· hs)

theorem afterStart_ended (hf : x.fmt .tx = .frame) (hs : x.txq.servingNow = .none) : x.afterStart = some false :=
  if_pos (by rw [hf, hs]; rfl)

theorem afterStart_mark {c : Entry} {l : QLane} (hpeek : x.txq.peekNext = some (c, l)) (hmark : c.item.isMark = true) :
    x.afterStart = some false := by
  by_cases h : x.fmt .tx = .frame ∧ x.txq.servingNow = .none
  · exact afterStart_ended h.1 h.2
  · rw [afterStart_next (not_and_or.mp h), hpeek]
    exact congrArg (fun b => some !b) hmark

end

/-! ### What the step leaves -/

/-- The port `z` has started the line effect `now` of a port like `y`: what pacer and credits count of it (R120, R165). -/
def Port.StartedFrom (y z : Port) (now : TxNow) : Prop :=
  z.tx.now = now ∧ z.tx.driver = true ∧ z.tx.backoff = false ∧ z.tx.paceCount = satInc y.tx.paceCount ∧
    z.flow.txCredit = if y.credits = true then creditLess y.flow.txCredit else y.flow.txCredit

/-- The port `z` has started no line effect. -/
def Port.RestsFrom (y z : Port) : Prop :=
  z.tx.now = .idle ∧ z.tx.header = [] ∧ z.tx.paceCount = y.tx.paceCount ∧ z.flow.txCredit = y.flow.txCredit

section
variable {y z w : Port} {now : TxNow}

theorem tx_of_untold (h : z.untold = w.untold) : z.tx = w.tx := by
  have htx : z.untold.tx = w.untold.tx := congrArg Port.tx h
  exact htx
theorem credit_of_untold (h : z.untold = w.untold) : z.flow.txCredit = w.flow.txCredit := by
  have hc : z.untold.flow.txCredit = w.untold.flow.txCredit := congrArg (fun x => x.flow.txCredit) h
  exact hc
theorem txq_of_untold (h : z.untold = w.untold) : z.txq = w.txq := by
  have hq : z.untold.txq = w.untold.txq := congrArg Port.txq h
  exact hq
theorem refused_of_untold (h : z.untold = w.untold) : z.txRefused = w.txRefused := by
  have hq : z.untold.txRefused = w.untold.txRefused := congrArg Port.txRefused h
  exact hq
theorem flushTag_of_untold (h : z.untold = w.untold) : z.flushTag = w.flushTag := by
  have hq : z.untold.flushTag = w.untold.flushTag := congrArg Port.flushTag h
  exact hq

/-- What the transmitter's detector half knows of the frame it sends. -/
def AfSt.sending (a : AfSt) : TxFrame × Byte × Nat × Nat := (a.txFrame, a.txPid, a.txLen, a.txSent)

theorem sending_of_untold (h : z.untold = w.untold) : z.af.sending = w.af.sending := by
  have hq : z.untold.af.sending = w.untold.af.sending := congrArg (fun x => x.af.sending) h
  exact hq

/-- A start in the words of the obligation. -/
theorem StartedFrom.of_untold (hz : z.untold = w.untold) (h : y.StartedFrom w now) {F : Prop} (hf : F) :
    z.tx.now = now ∧ z.tx.driver = true ∧ z.tx.backoff = false ∧ z.tx.paceCount = satInc y.tx.paceCount ∧
      z.flow.txCredit.toNat = y.flow.txCredit.toNat - (if y.credits = true then 1 else 0) ∧ F := by
  obtain ⟨hnow, hdriver, hback, hpace, hcredit⟩ := h
  rw [tx_of_untold hz, credit_of_untold hz, hcredit]
  refine ⟨hnow, hdriver, hback, hpace, ?_, hf⟩
  split
  · exact toNat_creditLess _
  · rfl

theorem RestsFrom.of_untold (hz : z.untold = w.untold) (h : y.RestsFrom w) {F : Prop} (hf : F) :
    z.tx.now = .idle ∧ z.tx.header = [] ∧ z.tx.paceCount = y.tx.paceCount ∧ z.flow.txCredit = y.flow.txCredit ∧ F := by
  obtain ⟨hnow, hheader, hpace, hcredit⟩ := h
  rw [tx_of_untold hz, credit_of_untold hz]
  exact ⟨hnow, hheader, hpace, hcredit, hf⟩

end

/-- The header's next character goes out; the payload follows the last one (R149). -/
def AfSt.headSent (rest : List (BitVec 9)) (a : AfSt) : AfSt := { a with txFrame := if rest = [] then .payload else a.txFrame }

theorem sendHeader_port (c : BitVec 9) (rest : List (BitVec 9)) :
    (s.sendHeader p c rest).port p = (((s.port p).headed rest).starting (.char c)).detecting (AfSt.headSent rest) := by
  have hstart : ((s.modTx p (fun t => { t with header := rest })).startLine p (.char c)).port p =
      ((s.port p).headed rest).starting (.char c) := by
    rw [startLine_port, State.modTx, State.port_modPort]
    rfl
  unfold State.sendHeader
  dsimp only
  rw [portCount_port]
  cases rest with
  | nil =>
    refine (congrArg (fun t : State => t.port p) (if_pos rfl)).trans ((port_modAf _).trans ?_)
    rw [hstart]
    rfl
  | cons c rest =>
    refine (congrArg (fun t : State => t.port p) (if_neg Bool.false_ne_true)).trans ?_
    rw [hstart]
    rfl

end

end Sys2Proof.Machine
end

section
/-! SUPPORT. What stands on the line (04 R104, R114; 05 R135), the drivers of a port (12 R330), and the obligation on the transmitter. -/

namespace Sys2Proof.Machine

/-! ### The bits of a character (R104) -/

section
variable {x : Port} {v : BitVec 9}

/-- The parity bits of a character: one, or none. -/
def Port.parityBits (x : Port) (v : BitVec 9) : List Bool := (expectedParity x.parity (v &&& x.dataMask)).toList

/-- The stop bits of a character. -/
def Port.stopBits (x : Port) : List Bool := if x.cfg[0].getLsbD 7 then [true, true] else [true]

theorem charLine_eq : x.charLine v =
    ((false :: (List.range x.dataBits).map (fun k => v.getLsbD k)) ++ x.parityBits v) ++ x.stopBits := rfl

theorem length_expectedParity (m : BitVec 3) (data : BitVec 9) (h : m ≤ 4#3) :
    (expectedParity m data).toList.length = if m = 0 then 0 else 1 := by
  have hcases : m = 0 ∨ m = 1 ∨ m = 2 ∨ m = 3 ∨ m = 4 := by revert m; decide
  obtain rfl | rfl | rfl | rfl | rfl := hcases <;> rfl

theorem parity_le (x : Port) : x.parity ≤ 4#3 := by
  unfold Port.parity parityField
  split
  · assumption
  · decide

theorem length_charLine : (x.charLine v).length = x.charBits := by
  have hstop : x.stopBits.length = if x.cfg[0].getLsbD 7 then 2 else 1 := by
    unfold Port.stopBits
    split <;> rfl
  rw [charLine_eq, List.length_append, List.length_append, List.length_cons, List.length_map, List.length_range, hstop,
    Port.parityBits, length_expectedParity _ _ (parity_le x)]
  unfold Port.charBits
  omega

theorem getLast_charLine : (x.charLine v).getLast? = some true := by
  have hstop : ∃ l, x.stopBits = l ++ [true] := by
    unfold Port.stopBits
    split
    · exact ⟨[true], rfl⟩
    · exact ⟨[], rfl⟩
  obtain ⟨l, hl⟩ := hstop
  rw [charLine_eq, hl, ← List.append_assoc, List.getLast?_append, List.getLast?_singleton]
  rfl

/-- The data bits follow the start bit, least significant first. -/
theorem charLine_data {k : Nat} (h : k < x.dataBits) : (x.charLine v)[1 + k]? = some (v.getLsbD k) := by
  have hlen : 1 + k < (false :: (List.range x.dataBits).map (fun k => v.getLsbD k)).length := by
    rw [List.length_cons, List.length_map, List.length_range]
    omega
  rw [charLine_eq, List.append_assoc, List.getElem?_append_left hlen, Nat.add_comm, List.getElem?_cons_succ,
    List.getElem?_map, List.getElem?_range h]
  rfl

/-- The parity bit follows the data bits. -/
theorem charLine_parity {b : Bool} (h : expectedParity x.parity (v &&& x.dataMask) = some b) :
    (x.charLine v)[1 + x.dataBits]? = some b := by
  have hlen : (false :: (List.range x.dataBits).map (fun k => v.getLsbD k)).length = 1 + x.dataBits := by
    rw [List.length_cons, List.length_map, List.length_range]
    omega
  rw [charLine_eq, List.append_assoc, List.getElem?_append_right (by omega), hlen, Nat.sub_self, Port.parityBits, h]
  rfl

/-- What the obligation says of a character's bits, wherever they stand. -/
theorem charLine_bits : (x.charLine v).length = x.charBits ∧ (x.charLine v)[0]? = some false ∧ (x.charLine v).getLast? = some true ∧
    (∀ k, k < x.dataBits → (x.charLine v)[1 + k]? = some (v.getLsbD k)) ∧
    (x.parity = 1 → (x.charLine v)[1 + x.dataBits]? = some (popcount (v &&& x.dataMask) % 2 == 1)) ∧
    (x.parity = 2 → (x.charLine v)[1 + x.dataBits]? = some (popcount (v &&& x.dataMask) % 2 == 0)) ∧
    (x.parity = 3 → (x.charLine v)[1 + x.dataBits]? = some true) ∧
    (x.parity = 4 → (x.charLine v)[1 + x.dataBits]? = some false) :=
  ⟨length_charLine, rfl, getLast_charLine, fun _ => charLine_data,
    fun h => charLine_parity (by rw [h]; rfl), fun h => charLine_parity (by rw [h]; rfl),
    fun h => charLine_parity (by rw [h]; rfl), fun h => charLine_parity (by rw [h]; rfl)⟩

theorem onLine_char (h : x.tx.now = .char v) : x.onLine = List.replicate (x.idleBefore v) true ++ x.charLine v := by
  unfold Port.onLine
  rw [h]

theorem onLine_code (h : x.tx.now = .code v) : x.onLine = x.charLine v := by
  unfold Port.onLine
  rw [h]

/-- The mark before a character, and the character after it (R135). -/
theorem onLine_split (h : x.tx.now = .char v ∨ x.tx.now = .code v) {n : Nat}
    (hn : n = if x.tx.now = .char v ∧ x.addrMode = true ∧ v.getLsbD 8 = true then (bits x.cfg[7] 12 4 : BitVec 4).toNat else 0) :
    x.onLine.take n = List.replicate n true ∧ x.onLine.drop n = x.charLine v := by
  obtain h | h := h
  · have hidle : n = x.idleBefore v := by
      rw [hn]
      unfold Port.idleBefore Port.addrTxIdle
      simp only [h, true_and, Bool.and_eq_true]
    rw [onLine_char h, hidle]
    exact ⟨List.take_left' (List.length_replicate ..), List.drop_left' (List.length_replicate ..)⟩
  · have hidle : n = 0 := by
      rw [hn, h]
      exact if_neg (fun hc => nomatch hc.1)
    rw [onLine_code h, hidle]
    exact ⟨rfl, rfl⟩

end

/-! ### One driver (R330) -/

section
variable {s t : State} {p : PortId} {pr : PairId} {mid : Mid}

theorem drivesPrbs_of_run (h : (s.port p).inRun = true) : s.drivesPrbs p pr = false := by
  unfold Port.inRun at h
  rw [Bool.and_eq_true, beq_iff_eq] at h
  have hst : ((s.port p).st == PState.off) = false := by
    rw [h.1]
    rfl
  unfold State.drivesPrbs
  dsimp only
  rw [hst]
  simp

/-- In Run the driver of a pair is on for what the port sends, or for a retry. -/
theorem driverOn_run (h : (s.port p).inRun = true) (hon : s.driverOn p pr = true) :
    ((s.port p).tx.driver = true ∧ pr = (s.port p).sendPair) ∨ ((s.port p).line.pair pr).retrying = true := by
  unfold State.driverOn at hon
  dsimp only at hon
  rw [drivesPrbs_of_run h, Bool.or_false, Bool.and_eq_true, Bool.or_eq_true, Bool.and_eq_true, beq_iff_eq] at hon
  exact hon.2

theorem both_pairs {P : PairId → Prop} (ha : P .a) (hb : P .b) : ∀ pr, P pr
  | .a => ha
  | .b => hb

/-- With no retry on the pair that the port does not send on, only one driver is on. -/
theorem oneDriver_of_send (h : (s.port p).inRun = true)
    (hother : ((s.port p).line.pair (otherPair (s.port p).sendPair)).retrying = false) :
    ¬ (s.driverOn p .a = true ∧ s.driverOn p .b = true) := by
  rintro ⟨ha, hb⟩
  have hon := both_pairs (P := fun pr => s.driverOn p pr = true) ha hb (otherPair (s.port p).sendPair)
  obtain ⟨-, heq⟩ | hr := driverOn_run h hon
  · revert heq
    cases (s.port p).sendPair <;> decide
  · rw [hother] at hr
    cases hr

/-- With the port not sending and no retry on the other pair, only one driver is on. -/
theorem oneDriver_of_retry (h : (s.port p).inRun = true) (hdriver : (s.port p).tx.driver = false)
    (hother : ((s.port p).line.pair (otherPair pr)).retrying = false) :
    ¬ (s.driverOn p .a = true ∧ s.driverOn p .b = true) := by
  rintro ⟨ha, hb⟩
  have hon := both_pairs (P := fun pr => s.driverOn p pr = true) ha hb (otherPair pr)
  obtain ⟨hd, -⟩ | hr := driverOn_run h hon
  · rw [hdriver] at hd
    cases hd
  · rw [hother] at hr
    cases hr

/-- What of a port its state and its pairs' retries show. -/
def Port.retries (x : Port) : Bool × PairId × Bool × Bool := (x.inRun, x.sendPair, x.line.a.retrying, x.line.b.retrying)

theorem retries_of_steady (h : t.steady = s.steady) : (t.port p).retries = (s.port p).retries := by
  have hret : (t.port p).steady.retries = (s.port p).steady.retries := congrArg Port.retries (port_steady h p)
  exact hret

theorem retrying_of_retries {x y : Port} (h : x.retries = y.retries) (pr : PairId) :
    (x.line.pair pr).retrying = (y.line.pair pr).retrying := by
  obtain ⟨-, h⟩ := Prod.mk.inj h
  obtain ⟨-, h⟩ := Prod.mk.inj h
  obtain ⟨ha, hb⟩ := Prod.mk.inj h
  cases pr
  · exact ha
  · exact hb

theorem transmitStart_oneDriver (hone : ¬ (s.driverOn p .a = true ∧ s.driverOn p .b = true))
    (hrun : exec (.transmitStart ⟨p, mid⟩) s = .next t) : ¬ (t.driverOn p .a = true ∧ t.driverOn p .b = true) := by
  by_cases h : s.lineStartDue p = false ∧ s.mayDrive p mid = true
  · obtain ⟨hin, -, hother⟩ := mayDrive_rests h.2
    have hnext : (s.unbacked p).txStart p mid = t := Host.Outcome.next.inj ((exec_transmitStart h.1 h.2).symm.trans hrun)
    have hsteady : t.steady = s.steady := hnext ▸ (txStart_steady p mid (s.unbacked p)).trans (unbacked_steady s p)
    have hret := retries_of_steady (p := p) hsteady
    obtain ⟨hst, hrest⟩ := Prod.mk.inj hret
    obtain ⟨hsend, -⟩ := Prod.mk.inj hrest
    refine oneDriver_of_send (hst.trans hin) ?_
    rw [hsend, retrying_of_retries hret]
    exact hother
  · obtain rfl : s = t := Host.Outcome.next.inj ((exec_transmitStart_held h).symm.trans hrun)
    exact hone

theorem shortRetry_oneDriver {trips : Bool} (hone : ¬ (s.driverOn p .a = true ∧ s.driverOn p .b = true))
    (hrun : exec (.shortRetry p pr trips) s = .next t) : ¬ (t.driverOn p .a = true ∧ t.driverOn p .b = true) := by
  by_cases h : (s.lineLive p && (s.port p).marksNow && !((s.port p).line.pair pr).notUsed &&
      (((s.port p).line.pair pr).cond == 3 || ((s.port p).line.pair pr).cond == 5) && !(s.port p).tx.driver &&
      !((s.port p).line.pair (otherPair pr)).retrying) = true
  · have hnext : t = s.modLine p (fun l =>
        { l.modPair pr (fun q => { q with retry := !trips }) with trips := if trips then satInc l.trips else l.trips }) :=
      (Host.Outcome.next.inj ((congrArg Host.Outcome.next (if_pos h)).symm.trans hrun)).symm
    simp only [Bool.and_eq_true, Bool.not_eq_true'] at h
    obtain ⟨⟨⟨⟨⟨-, hmarks⟩, -⟩, -⟩, hdriver⟩, hother⟩ := h
    have hin : (s.port p).inRun = true := by
      unfold Port.marksNow at hmarks
      exact ((Bool.and_eq_true ..).mp hmarks).1
    have hport := State.port_modPort s p (fun x => { x with line :=
        { x.line.modPair pr (fun q => { q with retry := !trips }) with trips := if trips then satInc x.line.trips else x.line.trips } })
    rw [hnext]
    refine oneDriver_of_retry (pr := pr) ?_ ?_ ?_
    · exact (congrArg Port.inRun hport).trans hin
    · exact (congrArg (fun x : Port => x.tx.driver) hport).trans hdriver
    · refine (congrArg (fun x : Port => (x.line.pair (otherPair pr)).retrying) hport).trans (Eq.trans ?_ hother)
      cases pr <;> rfl
  · have hstay : exec (.shortRetry p pr trips) s = .next s := congrArg Host.Outcome.next (if_neg h)
    obtain rfl : s = t := Host.Outcome.next.inj (hstay.symm.trans hrun)
    exact hone

end

end Sys2Proof.Machine
end

section
/-! SUPPORT. The transmitter's next step by its cases, and the obligation on it. -/

namespace Sys2Proof.Machine

/-- The transmitter of port `p` of `s` stands as in `u` once the back-off of a collision is over, and may take its next step. -/
structure Standing (s : State) (p : PortId) (mid : Mid) (u : State) : Prop where
  runs : exec (.transmitStart ⟨p, mid⟩) s = .next (u.txStart p mid)
  steady : (u.txStart p mid).steady = s.steady
  idle : (u.port p).tx.now = .idle
  header : ∀ c rest, (u.port p).tx.header = c :: rest → u.txStart p mid = (u.sendHeader p c rest).tieSync p
  waits : (u.port p).tx.header = [] → (u.port p).flow.tieWait ≠ none ∨ (u.port p).paceFull = true → u.txStart p mid = u
  frame : ∀ e lane, (u.port p).tx.header = [] → (u.port p).flow.tieWait = none → (u.port p).paceFull = false →
    (u.port p).txq.peekNext = some (e, lane) → e.item.isType 4 = true → u.txStart p mid = (u.sendFrameStart p e.item).tieSync p
  item : ∀ e lane t, (u.port p).tx.header = [] → (u.port p).flow.tieWait = none → (u.port p).paceFull = false →
    (u.port p).txq.peekNext = some (e, lane) → e.item.isType 4 = false → u.takeItem p .tx = some (e, lane, t) →
    u.txStart p mid = (t.sendItem p e.item).tieSync p

theorem standing_unbacked {s : State} {p : PortId} {mid : Mid} (hdue : s.lineStartDue p = false) (hdrive : s.mayDrive p mid = true)
    (hstill : (s.unbacked p).mayDrive p mid = true) (hflow : ((s.unbacked p).port p).flowStops = false)
    (hcode : (s.unbacked p).codeDue p = false) : Standing s p mid (s.unbacked p) where
  runs := exec_transmitStart hdue hdrive
  steady := (txStart_steady p mid (s.unbacked p)).trans (unbacked_steady s p)
  idle := (mayDrive_rests hstill).2.1
  header _ _ := txStart_header hstill hflow hcode
  waits := txStart_waits hstill hflow hcode
  frame _ _ := txStart_frame hstill hflow hcode
  item _ _ _ h hwait hfull hpeek hstart htake := txStart_item hstill hflow hcode h hwait hfull hpeek hstart htake

/-- The step starts the line effect `now` of a port like `y`, and `f` holds of the port. -/
def State.Starts (s : State) (p : PortId) (mid : Mid) (y : Port) (now : TxNow) (f : Port → Prop) : Prop :=
  ∃ v, exec (.transmitStart ⟨p, mid⟩) s = .next v ∧ v.steady = s.steady ∧ (v.port p).tx.now = now ∧ (v.port p).tx.driver = true ∧
    (v.port p).tx.backoff = false ∧ (v.port p).tx.paceCount = satInc y.tx.paceCount ∧
    (v.port p).flow.txCredit.toNat = y.flow.txCredit.toNat - (if y.credits = true then 1 else 0) ∧ f (v.port p)

/-- The step starts no line effect of a port like `y`, and `f` holds of the port. -/
def State.Stays (s : State) (p : PortId) (mid : Mid) (y : Port) (f : Port → Prop) : Prop :=
  ∃ v, exec (.transmitStart ⟨p, mid⟩) s = .next v ∧ v.steady = s.steady ∧ (v.port p).tx.now = .idle ∧ (v.port p).tx.header = [] ∧
    (v.port p).tx.paceCount = y.tx.paceCount ∧ (v.port p).flow.txCredit = y.flow.txCredit ∧ f (v.port p)

section
variable {s u v : State} {p : PortId} {mid : Mid} (hs : Standing s p mid u)
include hs

theorem Standing.starts {y w : Port} {now : TxNow} {f : Port → Prop} (hstep : u.txStart p mid = v.tieSync p)
    (hport : (v.port p).untold = w.untold) (hw : y.StartedFrom w now)
    (hf : ((v.tieSync p).port p).untold = w.untold → f ((v.tieSync p).port p)) : s.Starts p mid y now f :=
  ⟨_, hs.runs.trans (congrArg Host.Outcome.next hstep), hstep ▸ hs.steady,
    StartedFrom.of_untold (tieSync_untold.trans hport) hw (hf (tieSync_untold.trans hport))⟩

theorem Standing.stays {y w : Port} {f : Port → Prop} (hstep : u.txStart p mid = v.tieSync p)
    (hport : (v.port p).untold = w.untold) (hw : y.RestsFrom w)
    (hf : ((v.tieSync p).port p).untold = w.untold → f ((v.tieSync p).port p)) : s.Stays p mid y f :=
  ⟨_, hs.runs.trans (congrArg Host.Outcome.next hstep), hstep ▸ hs.steady,
    RestsFrom.of_untold (tieSync_untold.trans hport) hw (hf (tieSync_untold.trans hport))⟩

end

/-! ### What the ports of the cases show -/

section
variable {x z : Port} {q : Queue} {now : TxNow}

theorem startedFrom_header (x : Port) (rest : List (BitVec 9)) (now : TxNow) :
    x.StartedFrom (((x.headed rest).starting now).detecting (AfSt.headSent rest)) now := ⟨rfl, rfl, rfl, rfl, rfl⟩

theorem startedFrom_item (x : Port) (q : Queue) (now : TxNow) : x.StartedFrom ((x.setQueue .tx q).starting now) now :=
  ⟨rfl, rfl, rfl, rfl, rfl⟩

theorem startedFrom_char (x : Port) (q : Queue) (now : TxNow) :
    x.StartedFrom (((x.setQueue .tx q).starting now).detecting AfSt.paid) now := ⟨rfl, rfl, rfl, rfl, rfl⟩

theorem startedFrom_framing (x : Port) (q : Queue) (pid : Byte) (len : Nat) (counted : Bool) :
    x.StartedFrom ((x.setQueue .tx q).framing pid len counted) (.brk (max (brkTxField x.cfg[16]) (x.charBits + 1))) :=
  ⟨rfl, rfl, rfl, rfl, rfl⟩

theorem header_sent {rest : List (BitVec 9)} (h : z.untold = (((x.headed rest).starting now).detecting (AfSt.headSent rest)).untold) :
    z.tx.header = rest ∧ z.txq = x.txq ∧ z.af.txFrame = if rest = [] then .payload else x.af.txFrame :=
  ⟨congrArg TxSt.header (tx_of_untold h), (txq_of_untold h :), congrArg Prod.fst (sending_of_untold h)⟩

theorem txSent_paid (a : AfSt) : a.paid.txSent = if a.txFrame = .payload then a.txSent + 1 else a.txSent := by
  unfold AfSt.paid
  simp only [beq_iff_eq]

theorem char_sent (h : z.untold = (((x.setQueue .tx q).starting now).detecting AfSt.paid).untold) :
    z.txq = q ∧ z.af.txSent = if x.af.txFrame = .payload then x.af.txSent + 1 else x.af.txSent :=
  ⟨(txq_of_untold h :), (congrArg (fun a => a.2.2.2) (sending_of_untold h)).trans (txSent_paid x.af)⟩

/-- The transmitter of `z` is about to send the header of a frame (R149). -/
def Port.frames (z : Port) (sync pid : Byte) (len : Nat) (counted : Bool) : Prop :=
  z.af.txFrame = .header ∧ z.af.txPid = pid ∧ z.af.txLen = len ∧ z.af.txSent = 0 ∧ z.tx.header = frameHeader sync pid len counted

theorem frames_of_framing {pid : Byte} {len : Nat} {counted : Bool}
    (h : z.untold = ((x.setQueue .tx q).framing pid len counted).untold) : z.txq = q ∧ z.frames x.sync pid len counted := by
  have hsending := sending_of_untold h
  have htx := tx_of_untold h
  unfold AfSt.sending at hsending
  obtain ⟨hframe, hrest⟩ := Prod.mk.inj hsending
  obtain ⟨hpid, hrest⟩ := Prod.mk.inj hrest
  obtain ⟨hlen, hsent⟩ := Prod.mk.inj hrest
  exact ⟨(txq_of_untold h :), hframe, hpid, hlen, hsent, congrArg TxSt.header htx⟩

theorem refused_sent (h : z.untold = (((x.setQueue .tx q).detecting AfSt.closed).refusing).untold) :
    z.txq = q ∧ z.txRefused = satInc x.txRefused ∧ z.af.txFrame = .outside :=
  ⟨(txq_of_untold h :), (refused_of_untold h :), congrArg Prod.fst (sending_of_untold h)⟩

end

section
variable {i : Item} {t : BitVec 5}

theorem isType_of_isMark (h : i.isMark = false) (t : BitVec 5) : i.isType t = false := by
  unfold Item.isType
  rw [h, Bool.false_and]

theorem isType_other (h : i.isType t = true) {r : BitVec 5} (hne : t ≠ r) : i.isType r = false := by
  obtain ⟨-, ht⟩ := isType_isMark h
  unfold Item.isType
  rw [ht, beq_false_of_ne hne, Bool.and_false]

end

section
variable {t : State} {p : PortId}

theorem refuseItem_flow : ((t.refuseItem p).port p).flow = (t.port p).flow := by
  have hset : ((((t.modPort p Port.refusing).modPort p (fun x => { x with txqEvents := x.txqEvents ||| oneBit 5 3 })).portCount 43 p).port
      p).flow = (t.port p).flow := by
    rw [portCount_port, State.port_modPort, State.port_modPort]
    rfl
  exact (congrArg Port.flow (port_of_attEvent ..)).trans hset

theorem refusal_events : (((((t.refuseItem p).flowEvent 2 p)).tieSync p).port p).flow.events = (t.port p).flow.events ||| 4#3 := by
  obtain ⟨w, hw⟩ := tieSync_port p ((t.refuseItem p).flowEvent 2 p)
  rw [hw, flowEvent_port, refuseItem_flow]
  rfl

theorem refuseStart_event : (((t.refuseStart p).tieSync p).port p).af.events.getLsbD 2 = true := by
  obtain ⟨w, hw⟩ := tieSync_port p (t.refuseStart p)
  rw [hw]
  exact afEvent_sets (s := (t.closeTxFrame p).refuseItem p) 2

theorem stray_tieSync {g : Fin 4} (h : (t.tie g).stray = true) : ((t.tieSync p).tie g).stray = true := by
  have hrecord : ((t.tieSync p).tie g).record = (t.tie g).record := tieSync_record g p t
  generalize (t.tieSync p).tie g = k at hrecord ⊢
  have hstray : k.record.2.2.2.2 = (t.tie g).record.2.2.2.2 := congrArg (fun r => r.2.2.2.2) hrecord
  exact hstray.trans h

end

/-! ### The cases -/

section
variable {s u t : State} {p : PortId} {mid : Mid} {y : Port} {e : Entry} {lane : QLane} {q : Queue}
  (hs : Standing s p mid u) (hy : u.port p = y) (hheader : y.tx.header = []) (hwait : y.flow.tieWait = none)
  (hfull : y.paceFull = false) (hpeek : y.txq.peekNext = some (e, lane))

theorem Standing.idle_of (hs : Standing s p mid u) (hy : u.port p = y) : y.tx.now = .idle := hy ▸ hs.idle

include hs hy hheader hwait hfull hpeek

/-! #### A FRAME_START (R149 to R151) -/

section
variable (hstart : e.item.isType 4 = true)
include hstart

theorem Standing.frameStep : u.txStart p mid = (u.sendFrameStart p e.item).tieSync p := by
  subst hy
  exact hs.frame e lane hheader hwait hfull hpeek hstart

/-- A frame starts once its FRAME_START, and the length behind it, have left. -/
theorem Standing.stepFrame {w : State} {r : Queue} {len : Nat} {counted : Bool} (hr : w.port p = y.setQueue .tx r)
    (h : u.sendFrameStart p e.item = w.startFrame p e.item.arg len counted) :
    s.Starts p mid y (.brk (max (brkTxField y.cfg[16]) (y.charBits + 1))) (fun z => z.txq = r ∧
      z.frames y.sync (pidByte (e.item.arg.extractLsb' 0 6)) len counted) := by
  have hport := startFrame_untold (s := w) (p := p) e.item.arg len counted
  rw [hr] at hport
  have hstep := hs.frameStep hy hheader hwait hfull hpeek hstart
  rw [h] at hstep
  exact hs.starts hstep hport (startedFrom_framing y r _ len counted) frames_of_framing

/-- A length that has not come is waited for. -/
theorem Standing.stepWaits (h : u.sendFrameStart p e.item = u) : s.Stays p mid y (fun z => z.txq = y.txq) := by
  have hstep := hs.frameStep hy hheader hwait hfull hpeek hstart
  rw [h] at hstep
  exact hs.stays hstep (congrArg Port.untold hy) ⟨(hs.idle_of hy :), hheader, rfl, rfl⟩ fun hz => (txq_of_untold hz :)

/-- A FRAME_START that is consumed. -/
theorem Standing.stepRefused (hq : t.port p = y.setQueue .tx q) (h : u.sendFrameStart p e.item = t.refuseStart p) :
    s.Stays p mid y (fun z => z.txq = q ∧ z.af.events.getLsbD 2 = true ∧ z.txRefused = satInc y.txRefused ∧ z.af.txFrame = .outside) := by
  have hport := refuseStart_untold (t := t) (p := p)
  rw [hq] at hport
  have hstep := hs.frameStep hy hheader hwait hfull hpeek hstart
  rw [h] at hstep
  refine hs.stays hstep hport ⟨(hs.idle_of hy :), hheader, rfl, rfl⟩ fun hz => ?_
  obtain ⟨hzq, hrefused, hframe⟩ := refused_sent hz
  exact ⟨hzq, refuseStart_event, hrefused, hframe⟩

end

/-! #### Every other item -/

section
variable (htake : u.takeItem p .tx = some (e, lane, t))
include htake

theorem Standing.itemStep (hstart : e.item.isType 4 = false) : u.txStart p mid = (t.sendItem p e.item).tieSync p := by
  subst hy
  exact hs.item e lane t hheader hwait hfull hpeek hstart htake

theorem Standing.stepTie (htie : e.item.isType 7 = true) : ∃ v, exec (.transmitStart ⟨p, mid⟩) s = .next v ∧
    (v.tie ⟨(e.item.arg.extractLsb' 0 2).toNat, (e.item.arg.extractLsb' 0 2).isLt⟩).stray = true := by
  refine ⟨_, hs.runs.trans (congrArg Host.Outcome.next
    (hs.itemStep hy hheader hwait hfull hpeek htake (isType_other htie (by decide)))), ?_⟩
  rw [sendItem_tie htie]
  refine stray_tieSync ?_
  rw [tie_of_attEvent, State.tie_modTie]

variable (hq : t.port p = y.setQueue .tx q)
include hq

theorem Standing.stepTie_stays (htie : e.item.isType 7 = true) : s.Stays p mid y (fun z => z.txq = q) := by
  have hport : (t.sendItem p e.item).port p = y.setQueue .tx q := by
    rw [sendItem_tie htie, port_of_attEvent, ← hq]
    rfl
  exact hs.stays (hs.itemStep hy hheader hwait hfull hpeek htake (isType_other htie (by decide))) (congrArg Port.untold hport)
    ⟨(hs.idle_of hy :), hheader, rfl, rfl⟩ fun hz => (txq_of_untold hz :)

theorem Standing.stepChar (hmark : e.item.isMark = false)
    (hplain : ¬ (y.fcMode ≠ 0 ∧ y.dataBits = 9 ∧ 0x1F0 ≤ (y.sendBits e.item.cell).toNat)) :
    s.Starts p mid y (.char (y.sendBits e.item.cell)) (fun z => z.txq = q ∧
      z.af.txSent = if y.af.txFrame = .payload then y.af.txSent + 1 else y.af.txSent) := by
  have hsend := sendItem_char (s := t) (p := p) hmark (by rw [hq]; exact hplain)
  rw [hq] at hsend
  exact hs.starts (hs.itemStep hy hheader hwait hfull hpeek htake (isType_of_isMark hmark 4)) (congrArg Port.untold hsend)
    (startedFrom_char y q _) char_sent

theorem Standing.stepCode (hmark : e.item.isMark = false)
    (hres : y.fcMode ≠ 0 ∧ y.dataBits = 9 ∧ 0x1F0 ≤ (y.sendBits e.item.cell).toNat) :
    s.Stays p mid y (fun z => z.txq = q ∧ z.txRefused = satInc y.txRefused ∧ z.flow.events = y.flow.events ||| 4#3) := by
  have hsend := sendItem_code (s := t) (p := p) hmark (by rw [hq]; exact hres)
  have hport : (((t.refuseItem p).flowEvent 2 p).port p).untold = (y.setQueue .tx q).refusing.untold := by
    rw [← hq]
    exact (flowEvent_untold 2).trans refuseItem_untold
  have hstep := hs.itemStep hy hheader hwait hfull hpeek htake (isType_of_isMark hmark 4)
  rw [hsend] at hstep
  refine hs.stays hstep hport ⟨(hs.idle_of hy :), hheader, rfl, rfl⟩ fun hz =>
    ⟨(txq_of_untold hz :), (refused_of_untold hz :), refusal_events.trans ?_⟩
  rw [hq]
  rfl

theorem Standing.stepBreak {n : CellW} (hbrk : e.item.isType 1 = true) (hext : e.item.ext = some n) :
    s.Starts p mid y (.brk (max n.toNat (y.charBits + 1))) (fun z => z.txq = q) := by
  have hsend := startLine_port (s := t) (p := p) (.brk ((t.port p).breakBits n.toNat))
  rw [hq] at hsend
  have hstep := hs.itemStep hy hheader hwait hfull hpeek htake (isType_other hbrk (by decide))
  rw [sendItem_break hbrk hext, hq] at hstep
  exact hs.starts hstep (congrArg Port.untold hsend) (startedFrom_item y q _) fun hz => (txq_of_untold hz :)

theorem Standing.stepFlush (hflush : e.item.isType 8 = true) :
    s.Stays p mid y (fun z => z.txq = q ∧ z.flushTag = some e.item.arg) := by
  have hsend := State.port_modPort t p (fun x => { x with flushTag := some e.item.arg })
  rw [hq] at hsend
  have hstep := hs.itemStep hy hheader hwait hfull hpeek htake (isType_other hflush (by decide))
  rw [sendItem_flush hflush] at hstep
  exact hs.stays hstep (congrArg Port.untold hsend) ⟨(hs.idle_of hy :), hheader, rfl, rfl⟩
    fun hz => ⟨(txq_of_untold hz :), (flushTag_of_untold hz :)⟩

end

end

end Sys2Proof.Machine
end

section
/-! SUPPORT. The obligation on the transmitter. -/

namespace Sys2Proof.Machine

theorem sound_of_takeItem {s t : State} {p : PortId} {d : Dir} {e : Entry} {l : QLane} (h : s.takeItem p d = some (e, l, t)) :
    s.sound p d = true := by
  unfold State.takeItem at h
  cases hsound : s.sound p d
  · rw [hsound] at h
    cases h
  · rfl

/-- Two items that leave one after the other. -/
theorem takeItem_takeItem_port {u t w : State} {p : PortId} {e c : Entry} {l m : QLane} (h : u.takeItem p .tx = some (e, l, t))
    (h' : t.takeItem p .tx = some (c, m, w)) : w.port p = (u.port p).setQueue .tx ((w.port p).txq) := by
  obtain ⟨q, hq⟩ := takeItem_port h
  obtain ⟨r, hr⟩ := takeItem_port h'
  have hagrees : (u.port p).agrees .tx = true := ((Bool.and_eq_true ..).mp (sound_of_takeItem h)).1
  rw [hq, setQueue_setQueue hagrees] at hr
  have hwq : (w.port p).txq = r := congrArg Port.txq hr
  rw [hwq]
  exact hr

theorem takeItem_port_txq {u t : State} {p : PortId} {e : Entry} {l : QLane} (h : u.takeItem p .tx = some (e, l, t)) :
    t.port p = (u.port p).setQueue .tx (t.port p).txq := by
  obtain ⟨q, hq⟩ := takeItem_port h
  have htq : (t.port p).txq = q := congrArg Port.txq hq
  rw [htq]
  exact hq

/-- Settles O37: the step at a character boundary by its cases (`Standing`), what each leaves of its port but for the events
(`sendItem_char`, `startFrame_untold`), the bits of a character by its parts (`charLine_bits`), and one driver since the pair that the
port does not send on has no retry (`oneDriver_of_send`). -/
theorem transmittedCharacterStarts : Obligations.TransmittedCharacterStarts := by
  refine ⟨fun s p mid hdue hdrive => ?_, fun x v hnow => ?_, fun x n hnow => ?_, fun s t p pr trips mid hone hrun => ?_⟩
  · intro u y
    have hu : u = s.unbacked p := rfl
    have hy : u.port p = y := rfl
    clear_value y u
    intro hstill hflow hcode leads starts stays
    have hstarts {now f} (h : s.Starts p mid y now f) : starts now f := h
    have hstays {f} (h : s.Stays p mid y f) : stays f := h
    clear_value starts stays
    have hs : Standing s p mid u := by
      subst hu hy
      exact standing_unbacked hdue hdrive hstill hflow hcode
    clear hu hstill hflow hcode
    refine ⟨fun c rest hheader => ?_, fun hheader hcond => ?_, fun e lane t hheader hwait hfull hpeek htake => ?_⟩
    · have hport := sendHeader_port (s := u) (p := p) c rest
      have hstep := hs.header c rest
      rw [hy] at hport hstep
      exact hstarts (hs.starts (hstep hheader) (congrArg Port.untold hport) (startedFrom_header y rest _) header_sent)
    · rw [← hy] at hheader hcond
      exact hs.runs.trans (congrArg Host.Outcome.next (hs.waits hheader hcond))
    · intro left mask v code arg source id frame opening
      have hq : t.port p = y.setQueue .tx left := hy ▸ takeItem_port_txq htake
      refine ⟨fun hmark hplain => ?_, fun hmark hres => ?_, fun n hbrk hext => ?_, fun hflush => ?_, fun hstart => ?_, fun htie => ?_⟩
      · exact hstarts (hs.stepChar hy hheader hwait hfull hpeek htake hq hmark hplain)
      · exact hstays (hs.stepCode hy hheader hwait hfull hpeek htake hq hmark hres)
      · exact hstarts (hs.stepBreak hy hheader hwait hfull hpeek htake hq hbrk hext)
      · exact hstays (hs.stepFlush hy hheader hwait hfull hpeek htake hq hflush)
      · refine ⟨fun hsource => ?_, fun c l w hsource hnext hc hmark hw => ?_, fun hsource hnext hc => ?_, fun hcond => ?_⟩
        · exact hstarts (hs.stepFrame hy hheader hwait hfull hpeek hstart hq (sendFrameStart_table htake hsource))
        · have hafter : (t.port p).afterStart = some true := by
            rw [afterStart_next hnext]
            exact (congrArg (Option.map _) hc).trans (congrArg (fun b => some !b) hmark)
          exact hstarts (hs.stepFrame hy hheader hwait hfull hpeek hstart (hy ▸ takeItem_takeItem_port htake hw)
            (sendFrameStart_counted htake hsource hafter hw))
        · have hafter : (t.port p).afterStart = none := (afterStart_next hnext).trans (congrArg (Option.map _) hc)
          exact hstays (hs.stepWaits hy hheader hwait hfull hpeek hstart (sendFrameStart_waits htake hsource hafter))
        · refine hstays (hs.stepRefused hy hheader hwait hfull hpeek hstart hq ?_)
          obtain ⟨hsource, ⟨hfmt, hserving⟩ | ⟨c, l, hc, hmark⟩⟩ | hsource := hcond
          · exact sendFrameStart_mark htake hsource (afterStart_ended hfmt hserving)
          · exact sendFrameStart_mark htake hsource (afterStart_mark hc hmark)
          · exact sendFrameStart_reserved htake hsource
      · exact ⟨hstays (hs.stepTie_stays hy hheader hwait hfull hpeek htake hq htie), hs.stepTie hy hheader hwait hfull hpeek htake htie⟩
  · intro idle wire sent
    obtain ⟨htake, hdrop⟩ := onLine_split hnow (n := idle) rfl
    have hwire : wire = x.charLine v := hdrop
    rw [hwire]
    exact ⟨htake, charLine_bits⟩
  · unfold Port.onLine
    rw [hnow]
  · obtain hrun | hrun := hrun
    · exact transmitStart_oneDriver hone hrun
    · exact shortRetry_oneDriver hone hrun

end Sys2Proof.Machine
end

section
/-! SUPPORT. What the host's requests do in Sleep (12 R229, R340, R343, R344; 08 R240; 09 R270; 11 R320). -/

namespace Sys2Proof.Machine

/-! ### Device commands -/

theorem svc_of_offTrunk {s t : State} (h : t.offTrunk = s.offTrunk) : t.svc = s.svc := by
  have hsvc : t.offTrunk.svc = s.offTrunk.svc := congrArg State.svc h
  exact hsvc

theorem complete_exiting (q st n d w) (t : State) : (State.complete q st n d w t).dev.exiting = t.dev.exiting := by
  have h : (State.complete q st n d w t).offTrunk.dev.exiting = t.offTrunk.dev.exiting :=
    congrArg (fun x : State => x.dev.exiting) (complete_offTrunk q st n d w t)
  exact h

theorem complete_deepWait (q st n d w) (t : State) : (State.complete q st n d w t).dev.deepWait = t.dev.deepWait := by
  have h : (State.complete q st n d w t).offTrunk.dev.deepWait = t.offTrunk.dev.deepWait :=
    congrArg (fun x : State => x.dev.deepWait) (complete_offTrunk q st n d w t)
  exact h

theorem complete_svc (q st n d w) (t : State) : (State.complete q st n d w t).svc = t.svc := svc_of_offTrunk (complete_offTrunk ..)

section
variable {u : State} (hst : u.dev.st = .sleep)
include hst

/-- A command to Run or Idle in Sleep begins its exit (R344). -/
theorem deviceStateCmd_exits (hc : u.dev.changing = false) {c : BitVec 2} (h : c = 0#2 ∨ c = 1#2) :
    u.deviceStateCmd c = ({ u with dev := { u.dev with
      changing := true, byState := true, exiting := true
      cmdWidth := if c = 0#2 then BitVec.ofNat 3 (popcount u.tr.trained) else 1 } }, .ok) := by
  unfold State.deviceStateCmd
  dsimp only
  rw [if_neg (ne_true_of_eq_false hc), if_pos h, hst, show (DState.sleep == DState.sleep) = true from rfl]

/-- A command to Sleep in Sleep is done at once (log 75). -/
theorem deviceStateCmd_asleep (hc : u.dev.changing = false) (hq : u.portsQuiet = true) :
    u.deviceStateCmd 2 = (u.powerEvent 5, .ok) := by
  unfold State.deviceStateCmd
  dsimp only
  rw [if_neg (ne_true_of_eq_false hc), if_neg (by decide), if_neg (by rw [hq]; decide),
    if_pos (show (2 : BitVec 2) = 2#2 from rfl), hst]
  rfl

theorem trkWidthCmd_asleep (w : BitVec 3) : u.trkWidthCmd w = (u, .refused 0 false) := by
  refine if_pos ?_
  rw [hst]
  simp

end

theorem beginChange_of_exiting {t : State} (h : t.dev.exiting = true) (was : Bool) : t.beginChange was = t :=
  if_pos (by rw [h, Bool.or_true])

theorem powerEvent_dev (b : Fin 7) (s : State) : (s.powerEvent b).dev = s.dev := by
  obtain ⟨a, c, e, h⟩ := powerEvent_form b s
  rw [h]

/-- A command to Deep takes effect at its completion. -/
theorem beginChange_complete_deep {t : State} (hc : t.dev.changing = true) (hexit : t.dev.exiting = false)
    (hdeep : t.dev.deepWait = true) (hbusy : t.svc.busy = .none) (q : Req) :
    (t.complete q 0 0 0 []).beginChange false = (t.complete q 0 0 0 []).enterDeep := by
  refine (beginChange_deep ((complete_changing ..).trans hc) ((complete_exiting ..).trans hexit)
    ((complete_deepWait ..).trans hdeep)).trans (if_pos ?_)
  rw [complete_svc, hbusy]
  rfl

theorem acceptBlk_asleep {s : State} (hst : s.dev.st = .sleep) : s.acceptBlk.dev.st = .sleep := by rw [acceptBlk_dev, hst]

theorem blockRefused_asleep {s : State} (hstage : s.boot.stage = .released) (hst : s.dev.st = .sleep) (write : Bool) {b : Nat} (hb : (0x4000 ≤ b ∧ b < 0x6000) ∨ 0x7000 ≤ b) :
    s.acceptBlk.blockRefused write b = true := by
  have hstage' : s.acceptBlk.boot.stage = .released := (stage_of_offTrunk (acceptBlk_offTrunk s)).trans hstage
  unfold State.blockRefused
  rw [hstage', if_neg (by decide), acceptBlk_asleep hst]
  obtain hb | hb := hb
  · rw [decide_eq_true hb]
    rfl
  · rw [decide_eq_true hb, Bool.or_true]
    rfl

section
variable {s : State} (hflow : s.blocksFlow = true) (hstage : s.boot.stage = .released)
include hflow hstage

/-- A PORT_STATE_CMD that the image does not hold back completes with OK. -/
theorem stateCmd_released (q : Req) (st : PState) (ports : BitVec 16) (mids : List Mid) (hfree : (st == .run && s.runHeld) = false) :
    s.stateCmdReq q st ports mids = (s.acceptBlk.commandAll (s.portsOf ports) st mids).complete q 0 0 0 [] := by
  have hcmd := stateCmdReq_eq (takes_of_released hflow hstage (by decide)) q st ports mids
  dsimp only at hcmd
  rw [runHeld_acceptBlk, portsOf_acceptBlk, hfree] at hcmd
  exact hcmd

/-- A command to Deep, also in Sleep, is carried out at its completion (log 169). -/
theorem deviceReq_deep (q : Req) (hc : s.dev.changing = false) (hexit : s.dev.exiting = false) (hq : s.portsQuiet = true)
    (hd : s.deepAllowed = true) (hbusy : s.svc.busy = .none) :
    s.deviceReq q 3 = (State.complete q 0 0 0 [] { s.acceptBlk with dev := { s.dev with
      changing := true, byState := true, deepWait := true } }).enterDeep := by
  have hcmd := deviceStateCmd_deep ((acceptBlk_changing s).trans hc) ((acceptBlk_portsQuiet s).trans hq)
    ((acceptBlk_deepAllowed s).trans hd)
  rw [acceptBlk_dev] at hcmd
  have hdone := deviceWord_done (addr := 0x600C) (q := q) (v := fld 0 3#2) (takes_of_released hflow hstage (by decide)) rfl
    regAt_deviceStateCmd rfl hc ((writeReg_deviceStateCmd ..).trans hcmd)
  have hbusy' : s.acceptBlk.svc.busy = .none := (congrArg Svc.busy (acceptBlk_svc s)).trans hbusy
  refine hdone.trans ?_
  refine beginChange_complete_deep ?_ ?_ ?_ ?_ q
  · rfl
  · exact hexit
  · rfl
  · exact hbusy'

variable (hst : s.dev.st = .sleep)
include hst

/-- The exit from Sleep begins, with no retrain of its own. -/
theorem deviceReq_exits (q : Req) (hc : s.dev.changing = false) {c : BitVec 2} (h : c = 0#2 ∨ c = 1#2) :
    s.deviceReq q c = State.complete q 0 0 0 [] { s.acceptBlk with dev := { s.dev with
      changing := true, byState := true, exiting := true
      cmdWidth := if c = 0#2 then BitVec.ofNat 3 (popcount s.tr.trained) else 1 } } := by
  have hcmd := deviceStateCmd_exits (acceptBlk_asleep hst) ((acceptBlk_changing s).trans hc) h
  rw [acceptBlk_dev, acceptBlk_trained] at hcmd
  have hdone := deviceWord_done (addr := 0x600C) (q := q) (v := fld 0 c) (takes_of_released hflow hstage (by decide)) rfl
    regAt_deviceStateCmd rfl hc ((writeReg_deviceStateCmd ..).trans hcmd)
  exact hdone.trans (beginChange_of_exiting ((complete_exiting ..).trans rfl) _)

theorem deviceReq_asleep (q : Req) (hc : s.dev.changing = false) (hq : s.portsQuiet = true) :
    s.deviceReq q 2 = (s.acceptBlk.powerEvent 5).complete q 0 0 0 [] := by
  have hcmd := deviceStateCmd_asleep (acceptBlk_asleep hst) ((acceptBlk_changing s).trans hc)
    ((acceptBlk_portsQuiet s).trans hq)
  exact write1_takes_still (addr := 0x600C) (takes_of_released hflow hstage (by decide)) rfl regAt_deviceStateCmd rfl
    ((writeReg_deviceStateCmd ..).trans hcmd) (congrArg Dev.changing ((powerEvent_dev ..).trans (acceptBlk_dev s)))

theorem trkWidthCmd_refuses (q : Req) (w : BitVec 3) : exec (.trkWidthCmd q w) s = .next (s.acceptBlk.complete q 2 1 0 []) :=
  congrArg Host.Outcome.next (deviceWord_refused (takes_of_released hflow hstage (by decide)) rfl regAt_trkWidthCmd rfl
    ((writeReg_trkWidthCmd ..).trans (trkWidthCmd_asleep (acceptBlk_asleep hst) w)))

/-! ### The registers whose blocks refuse every request (Table 9.3) -/

theorem read1_asleep (q : Req) {a : BitVec 16} (hb : (0x4000 ≤ a.toNat ∧ a.toNat < 0x6000) ∨ 0x7000 ≤ a.toNat) :
    s.read1 q a = s.acceptBlk.accessError q a 1 :=
  read1_refused hflow (beatRefused_of_block (blockRefused_asleep hstage hst false hb))

theorem write1_asleep (q : Req) {a : BitVec 16} (hb : (0x4000 ≤ a.toNat ∧ a.toNat < 0x6000) ∨ 0x7000 ≤ a.toNat) (v : Word)
    (mids : List Mid) : s.write1 q a v mids = s.acceptBlk.accessError q a 1 :=
  write1_refused hflow (beatRefused_of_block (blockRefused_asleep hstage hst true hb))

/-! ### Data blocks and QWRITEs -/

theorem exec_hostDataBlock_asleep {b : DataBlk} {rs : List (PortId × List TxItem)} (hrs : blkDecode b = some rs) :
    exec (.hostDataBlock b) s = .next (if s.overfills b (s.blkCells b) then s.discardBlk
      else
        let t := s.acceptBlk.carryAll (s.blkCells b)
        { t with host := { t.host with sleepHeld := t.host.sleepHeld ++ [⟨b, s.blkCells b, t.host.accepted, []⟩] } }) := by
  have hrel : s.released = true := by rw [State.released, hstage]; rfl
  refine congrArg Host.Outcome.next ?_
  dsimp only
  rw [hflow, hrel, hst, hrs]
  rfl

end

theorem exec_qwriteComplete_asleep {s : State} (hst : s.dev.st = .sleep) (q : Req) : exec (.qwriteComplete q) s = .next s := by
  refine congrArg Host.Outcome.next ?_
  cases s.host.qwrites.find? (fun w => sameReq w.q q) with
  | none => rfl
  | some w => exact if_pos (by rw [hst, show (DState.sleep == DState.sleep) = true from rfl, Bool.or_true])

theorem carry_host (p : PortId) (n : BitVec 24) (s : State) : (s.carry p n).host.sleepHeld = s.host.sleepHeld := by
  unfold State.carry
  dsimp only
  split
  · obtain ⟨a, c, e, h⟩ := hostError_form 4 (s.modPort p (fun x => { x with carried := x.carried + n }))
    rw [h]
    rfl
  · rfl

theorem carry_txq (p : PortId) (n : BitVec 24) (s : State) (o : PortId) : ((s.carry p n).port o).txq = (s.port o).txq := by
  by_cases h : o = p
  · rw [h, carry_port]
  · unfold State.carry
    dsimp only
    split
    · rw [port_of_hostError, State.port_modPort_ne s _ h]
    · rw [State.port_modPort_ne s _ h]

theorem carryAll_sleepHeld (cells : List (PortId × BitVec 24)) (s : State) : (s.carryAll cells).host.sleepHeld = s.host.sleepHeld :=
  forEach_keeps (π := fun s => s.host.sleepHeld) (fun _ _ _ => carry_host ..) s

theorem carryAll_txq (cells : List (PortId × BitVec 24)) (s : State) (o : PortId) :
    ((s.carryAll cells).port o).txq = (s.port o).txq :=
  forEach_keeps (π := fun s : State => (s.port o).txq) (fun _ _ _ => carry_txq ..) s

theorem acceptBlk_sleepHeld (s : State) : s.acceptBlk.host.sleepHeld = s.host.sleepHeld := by
  obtain ⟨x, n, l, a, c, e, h⟩ := acceptBlk_form s
  rw [h]

/-! ### Queue commands (log 110) -/

section
variable {s : State} {p : PortId} {d : Dir}

theorem items_cancelFlush : ((s.cancelFlush p d).queue p d).items = (s.queue p d).items ∧
    ((s.cancelFlush p d).queue p d).flush = .none := by
  have hlast (t : State) (ht : (t.queue p d).items = (s.queue p d).items) :
      ((t.modQueue p d (fun q => { q with flush := .none })).queue p d).items = (s.queue p d).items ∧
        ((t.modQueue p d (fun q => { q with flush := .none })).queue p d).flush = .none := by
    rw [queue_modQueue]
    exact ⟨ht, rfl⟩
  unfold State.cancelFlush
  refine hlast _ ?_
  split
  · split
    · rfl
    · unfold State.addLoss
      rw [queue_modQueue]
      rfl
  · rfl

theorem resetCmd_asleep (hst : s.dev.st = .sleep) : s.resetCmd p d = { s.cancelFlush p d with host := { (s.cancelFlush p d).host with
    sleepResets := (s.cancelFlush p d).host.sleepResets ++ [{ p := p, d := d, order := (s.cancelFlush p d).host.accepted }] } } :=
  if_neg (by rw [hst]; decide)

theorem cancelFlush_host : (s.cancelFlush p d).host = s.host := by
  unfold State.cancelFlush
  split
  · split <;> rfl
  · rfl

end

end Sys2Proof.Machine
end

section
/-! SUPPORT. What events and counts leave of the attention unit: which sources are claimed and whether its state is saved
(11 R307, R320). -/

namespace Sys2Proof.Machine

/-- Which sources are claimed, and whether the state is saved. -/
def Att.claims (a : Att) : Bool × Vector Bool 160 := (a.saved, a.srcs.map Src.claimed)

/-- The claims of the attention unit. -/
def State.claims (s : State) : Bool × Vector Bool 160 := s.att.claims

theorem event_claimed (q : Src) : q.event.claimed = q.claimed := by
  unfold Src.event
  dsimp only
  split
  · rfl
  · split <;> rfl

theorem set_claimed (v : Vector Src 160) (i : SrcId) {q : Src} (h : q.claimed = v[i].claimed) :
    (v.set i q).map Src.claimed = v.map Src.claimed := by
  refine Vector.ext fun j hj => ?_
  simp only [Vector.getElem_map, Vector.getElem_set]
  split
  · next e =>
    subst e
    exact h
  · rfl

theorem put_claims (a : Att) (i : SrcId) {q : Src} (h : q.claimed = a.srcs[i].claimed) : (a.put i q).claims = a.claims :=
  Prod.ext rfl (set_claimed a.srcs i h)

theorem selfEvent_claims (a : Att) (b : BitVec 3) : (a.selfEvent b).claims = a.claims := by
  have hput (a : Att) : (a.put attSelf { a.srcs[attSelf].event with asserted := true }).claims = a.claims :=
    put_claims a attSelf (event_claimed _)
  have hset := hput { a with events := a.events ||| b }
  unfold Att.selfEvent
  dsimp only
  split <;> exact hset

theorem noTargets_claims (n : Nat) (a : Att) : (Att.noTargets n a).claims = a.claims := by
  induction n generalizing a with
  | zero => rfl
  | succ n ih => exact (ih _).trans (selfEvent_claims ..)

theorem update_claims (a : Att) (i : SrcId) {q : Src} (h : q.claimed = a.srcs[i].claimed) : (a.update i q).claims = a.claims :=
  (noTargets_claims _ (a.put i q)).trans (put_claims a i h)

theorem attEvent_claims (i : SrcId) (s : State) : (s.attEvent i).claims = s.claims := by
  unfold State.attEvent
  split
  · rfl
  split
  · rfl
  split
  · rfl
  · exact update_claims s.att i (event_claimed _)

theorem attEvents_claims (is : List SrcId) (s : State) : (s.attEvents is).claims = s.claims :=
  forEach_keeps (π := State.claims) (fun i _ t => attEvent_claims i t) s

theorem attFall_claims (i : SrcId) (s : State) : (s.attFall i).claims = s.claims := Prod.ext rfl (set_claimed s.att.srcs i rfl)

theorem count_claims (code : Nat) (s : State) : (s.count code).claims = s.claims := by
  unfold State.count
  split
  · rfl
  · generalize s.cnt.bump code = r
    exact forEach_keeps (π := State.claims) (xs := List.replicate r.2 147) (fun i _ t => attEvent_claims i t) { s with cnt := r.1 }

theorem hostError_claims (b : Fin 6) (s : State) : (s.hostError b).claims = s.claims :=
  (attEvent_claims ..).trans (count_claims ..)

theorem powerEvent_claims (b : Fin 7) (s : State) : (s.powerEvent b).claims = s.claims :=
  (attEvent_claims ..).trans (count_claims ..)

theorem claims_blind : PortsBlind State.claims where
  modPort _ _ _ := rfl
  modRegion _ _ _ := rfl
  modTie _ _ _ := rfl
  attEvent := attEvent_claims
  attFall := attFall_claims
  count := count_claims
  hostError := hostError_claims
  loaded _ _ _ := rfl
  upsetShadow _ := rfl

/-! ### What the trunk's operations leave -/

/-- The view `π` shows nothing of the trunk, of the losses that it counts, and of events and counts. -/
structure TrunkBlind {α : Type} (π : State → α) : Prop where
  modTr : ∀ s f, π (s.modTr f) = π s
  trkLoss : ∀ p n s, π (s.trkLoss p n) = π s
  attEvent : ∀ i s, π (s.attEvent i) = π s
  count : ∀ code s, π (s.count code) = π s

section
variable {α : Type} {π : State → α} (hv : TrunkBlind π)
include hv

theorem TrunkBlind.trkEvent (b s) : π (State.trkEvent b s) = π s := by
  have hcount := (hv.count (0x060 + b) (s.modTr fun r => { r with trkEvents := r.trkEvents ||| oneBit 11 b })).trans (hv.modTr s _)
  unfold State.trkEvent
  dsimp only
  split
  · exact (hv.attEvent ..).trans hcount
  · exact hcount
theorem TrunkBlind.countN (c n s) : π (State.countN c n s) = π s :=
  forEach_keeps (π := π) (f := State.count) (xs := List.replicate n c) (fun c _ t => hv.count c t) s
theorem TrunkBlind.stubOldest {s t : State} (h : s.stubOldest = some t) : π t = π s := by
  unfold State.stubOldest at h
  split at h
  · cases h
  · cases h
    exact (hv.trkEvent ..).trans ((forEach_keeps (π := π) (fun c _ t => hv.trkLoss ..) _).trans (hv.modTr ..))
theorem TrunkBlind.storeBlk (b s) : π (State.storeBlk b s) = π s :=
  keeps_if ((hv.count ..).trans (hv.modTr ..)) (hv.modTr ..)
theorem TrunkBlind.placeBlk (b n s) : π (State.placeBlk b n s) = π s := by
  induction n generalizing s with
  | zero => exact hv.modTr ..
  | succ n ih =>
    unfold State.placeBlk
    refine keeps_if (hv.storeBlk b s) (keeps_if ?_ (keeps_if (hv.modTr ..) ((hv.trkEvent ..).trans (hv.modTr ..))))
    split
    · exact (ih _).trans (hv.stubOldest ‹_›)
    · exact hv.modTr ..
theorem TrunkBlind.place (b s) : π (State.place b s) = π s := hv.placeBlk ..
theorem TrunkBlind.pumpN (n s) : π (State.pumpN n s) = π s := by
  induction n generalizing s with
  | zero => rfl
  | succ n ih =>
    unfold State.pumpN
    refine keeps_if rfl ?_
    split
    · exact keeps_if (hv.place ..) ((ih _).trans (hv.place ..))
    · split
      · rfl
      · next b bs _ => exact keeps_if rfl ((ih _).trans ((hv.place ..).trans (hv.modTr s fun r => { r with ctlQ := bs })))
theorem TrunkBlind.pump {s : State} (h : s.dev.changeDue = false) : π s.pump = π s := by
  have hdev : (s.pumpN (s.tr.ctlQ.length + 2)).dev.changeDue = false :=
    (congrArg (fun u : State => u.dev.changeDue) (pumpN_unbuilt (s.tr.ctlQ.length + 2) s)).trans h
  exact (congrArg π (dueChange_of_none hdev)).trans (hv.pumpN ..)
theorem TrunkBlind.rewind (s) : π (State.rewind s) = π s := by
  unfold State.rewind
  exact (hv.countN ..).trans ((hv.countN ..).trans ((hv.trkEvent ..).trans (hv.modTr ..)))
theorem TrunkBlind.measure (t s) : π (State.measure t s) = π s := by
  unfold State.measure
  exact keeps_if ((hv.trkEvent ..).trans (hv.modTr ..)) (hv.modTr ..)
theorem TrunkBlind.trainLanes (t half s) : π (State.trainLanes t half s) = π s :=
  (hv.measure ..).trans ((hv.modTr ..).trans (hv.modTr ..))
theorem TrunkBlind.retrainLanes (t s) : π (State.retrainLanes t s) = π s := by
  unfold State.retrainLanes State.keepLanes State.setWidth
  extract_lets ps back s1 s2 s3
  have h1 : π s1 = π s := hv.modTr ..
  have h2 : π s2 = π s := (hv.modTr ..).trans ((hv.measure ..).trans h1)
  have h3 : π s3 = π s := (hv.modTr ..).trans h2
  exact keeps_if ((hv.trkEvent ..).trans h3) h3
end

theorem claims_trunk : TrunkBlind State.claims where
  modTr _ _ := rfl
  trkLoss _ _ _ := rfl
  attEvent := attEvent_claims
  count := count_claims

/-- Everything but the ports, the regions, the tie groups, the trunk, the attention unit, the counters and the events that
wait for Release. -/
def State.seat (s : State) : State :=
  { s with ports := Vector.replicate 16 {}, regions := Vector.replicate 4 {}, ties := Vector.replicate 4 {}, tieDisturbed := 0
           tr := {}, att := {}, cnt := {}, boot := { s.boot with early := [] } }

theorem seat_trunk : TrunkBlind State.seat where
  modTr _ _ := rfl
  trkLoss _ _ _ := rfl
  attEvent i s := by
    obtain ⟨a, e, h⟩ := attEvent_form i s
    rw [h]
    rfl
  count code s := by
    obtain ⟨a, c, e, h⟩ := count_form code s
    rw [h]
    rfl

end Sys2Proof.Machine
end

section
/-! SUPPORT. What the end of Sleep leaves alone while the queue commands, the blocks held and the deferred port commands act
(12 R344; 07 R207; 09 R278). -/

namespace Sys2Proof.Machine

/-- The view `π` shows, beside ports, regions, tie groups and events, nothing of the items of QWRITEs on their way. -/
structure EntryBlind {α : Type} (π : State → α) : Prop extends PortsBlind π where
  writes : ∀ (s : State) (f : QWrite → QWrite), π { s with host := s.host.mapWrites f } = π s

section
variable {α : Type} {π : State → α} (hv : EntryBlind π)
include hv

theorem EntryBlind.txEnter (p i u o s) : π (State.txEnter p i u o s) = π s := (hv.run p).toItemBlind.txEnter ..
theorem EntryBlind.enterQwrites (p order s) : π (State.enterQwrites p order s) = π s := by
  unfold State.enterQwrites
  exact (forEach_keeps (π := π) (fun _ _ _ => hv.txEnter ..) _).trans (hv.writes s _)
theorem EntryBlind.placeItems (p is order s) : π (State.placeItems p is order s) = π s :=
  keeps_if rfl ((forEach_keeps (π := π) (fun _ _ _ => hv.txEnter ..) _).trans (hv.enterQwrites ..))
theorem EntryBlind.malformedLoss (p n order s) : π (State.malformedLoss p n order s) = π s := by
  have hb := (hv.run p).toItemBlind
  unfold State.malformedLoss
  exact (hb.tieSync _).trans ((hb.tryGap ..).trans ((hb.addLoss ..).trans ((hb.lossSince ..).trans
    ((hv.modPort ..).trans (hv.enterQwrites ..)))))
theorem EntryBlind.placeData (b order cells gone s) : π (State.placeData b order cells gone s) = π s := by
  unfold State.placeData
  split
  · exact forEach_keeps (π := π) (fun _ _ _ => hv.placeItems ..) s
  · exact forEach_keeps (π := π) (fun _ _ _ => hv.malformedLoss ..) s
theorem EntryBlind.freshLoss (p o s) : π (State.freshLoss p o s) = π s := by
  have hb := (hv.run p).toItemBlind
  unfold State.freshLoss
  exact (hb.tieSync _).trans ((hb.tryGap ..).trans ((hb.addLoss ..).trans (hb.lossSince ..)))
end

section
variable {α : Type} {π : State → α} (hv : PortsBlind π)
include hv

theorem PortsBlind.fetchTx (p s) : π (State.fetchTx p s) = π s := by
  have hb := (hv.run p).toItemBlind
  unfold State.fetchTx
  exact (hb.tieSync _).trans ((hb.putQueue ..).trans (hb.resetParted ..))
theorem PortsBlind.crossWaiting (p s) : π (State.crossWaiting p s) = π s := by
  unfold State.crossWaiting
  split
  · exact (hv.run p).toItemBlind.crossFlush ..
  · rfl
theorem PortsBlind.startDeferred (x s) : π (State.startDeferred x s) = π s :=
  keeps_if ((hv.modPort ..).trans (hv.modPort ..)) ((hv.startCmd ..).trans (hv.modPort ..))
end

/-- The view `π` shows, beside that, nothing of what Sleep holds: the GAPs owed, the QWRITEs and the blocks. -/
structure SleepBlind {α : Type} (π : State → α) : Prop extends EntryBlind π where
  fresh : ∀ (s : State) (l), π { s with host := { s.host with sleepFresh := l } } = π s
  held : ∀ (s : State) (l), π { s with host := { s.host with sleepHeld := l } } = π s
  sleepWrites : ∀ (s : State) (l), π { s with host := { s.host with sleepWrites := l } } = π s

section
variable {α : Type} {π : State → α} (hv : SleepBlind π)
include hv

theorem SleepBlind.writeFresh (w o s) : π (State.writeFresh w o s) = π s := by
  unfold State.writeFresh
  exact (forEach_keeps (π := π) (fun _ _ _ => (hv.freshLoss ..).trans (hv.enterQwrites ..)) _).trans (hv.fresh s _)
theorem SleepBlind.emptyAt (p d o s) : π (State.emptyAt p d o s) = π s := by
  have hb := (hv.run p).toItemBlind
  cases d with
  | rx =>
    change π (s.emptyQueue p .rx 0 true 0) = π s
    exact hb.emptyQueue ..
  | tx =>
    unfold State.emptyAt
    extract_lets gone since s1 h s2
    have h1 : π s1 = π s := hv.modPort ..
    have h2 : π s2 = π s := (hv.held { s1 with host := s1.host.mapWrites (QWrite.cut p o) } _).trans ((hv.writes s1 _).trans h1)
    exact (hb.emptyQueue ..).trans ((hb.lossSince since s2).trans h2)
theorem SleepBlind.releaseHeld (s) : π (State.releaseHeld s) = π s := by
  unfold State.releaseHeld
  extract_lets hs h1 s1 s2 s3 h4
  have h2 : π s2 = π s1 := forEach_keeps (π := π) (fun _ _ _ => (hv.placeData ..).trans (hv.writeFresh ..)) s1
  have h3 : π s3 = π s2 := hv.writeFresh ..
  exact (hv.sleepWrites s3 []).trans (h3.trans (h2.trans (hv.held s [])))

/-- The queue commands that Sleep held back act; none is held back any more. -/
theorem SleepBlind.runSleepCmds (s) : π (State.runSleepCmds s) = π { s with host := { s.host with sleepResets := [] } } := by
  unfold State.runSleepCmds
  extract_lets h1 s1
  have hfetch : π s1 = π { s with host := { s.host with sleepResets := [] } } :=
    forEach_keeps (π := π) (fun p _ t => hv.fetchTx p t) _
  refine (forEach_keeps (π := π) (fun p _ t => hv.crossWaiting p t) _).trans (Eq.trans (forEach_keeps (π := π) (fun r _ t => ?_) s1) hfetch)
  refine (hv.emptyAt ..).trans ?_
  split
  · rfl
  · exact hv.writeFresh ..
end

/-- The device state, the claims and the resets that Sleep holds back. -/
def State.poise (s : State) : Dev × (Bool × Vector Bool 160) × List SleepReset := (s.dev, s.claims, s.host.sleepResets)

theorem poise_blind : SleepBlind State.poise where
  modPort _ _ _ := rfl
  modRegion _ _ _ := rfl
  modTie _ _ _ := rfl
  attEvent i s := Prod.ext (dev_blind.attEvent i s) (Prod.ext (claims_blind.attEvent i s) (by
    obtain ⟨a, e, h⟩ := attEvent_form i s
    rw [h]
    rfl))
  attFall i s := Prod.ext rfl (Prod.ext (claims_blind.attFall i s) rfl)
  count code s := Prod.ext (dev_blind.count code s) (Prod.ext (claims_blind.count code s) (by
    obtain ⟨a, c, e, h⟩ := count_form code s
    rw [h]
    rfl))
  hostError b s := Prod.ext (dev_blind.hostError b s) (Prod.ext (claims_blind.hostError b s) (by
    obtain ⟨a, c, e, h⟩ := hostError_form b s
    rw [h]
    rfl))
  loaded _ _ _ := rfl
  upsetShadow _ := rfl
  writes _ _ := rfl
  fresh _ _ := rfl
  held _ _ := rfl
  sleepWrites _ _ := rfl

/-- A view of the host's blocks and GAPs held in Sleep. -/
def State.sleepLoad (s : State) : List HeldBlk × List (PortId × Nat) := (s.host.sleepHeld, s.host.sleepFresh)

theorem sleepLoad_blind : EntryBlind State.sleepLoad where
  modPort _ _ _ := rfl
  modRegion _ _ _ := rfl
  modTie _ _ _ := rfl
  attEvent i s := by
    obtain ⟨a, e, h⟩ := attEvent_form i s
    rw [h]
    rfl
  attFall i s := rfl
  count code s := by
    obtain ⟨a, c, e, h⟩ := count_form code s
    rw [h]
    rfl
  hostError b s := by
    obtain ⟨a, c, e, h⟩ := hostError_form b s
    rw [h]
    rfl
  loaded _ _ _ := rfl
  upsetShadow _ := rfl
  writes _ _ := rfl

/-! ### The blocks held enter (R344) -/

theorem writeFresh_of_none {s : State} (h : s.host.sleepFresh = []) (w : PortId → Bool) (o : Nat) : s.writeFresh w o = s := by
  unfold State.writeFresh
  rw [h]
  change { s with host := { s.host with sleepFresh := [] } } = s
  rw [← h]

/-- With no GAP owed the blocks held enter one after the other. -/
theorem releaseHeld_of_none {s : State} (h : s.host.sleepFresh = []) : s.releaseHeld =
    { forEach s.host.sleepHeld (fun h t => t.placeData h.blk h.order h.cells h.gone)
        { s with host := { s.host with sleepHeld := [] } } with
      host := { (forEach s.host.sleepHeld (fun h t => t.placeData h.blk h.order h.cells h.gone)
        { s with host := { s.host with sleepHeld := [] } }).host with sleepWrites := [] } } := by
  have hall (hs : List HeldBlk) (t : State) (ht : t.host.sleepFresh = []) :
      forEach hs (fun h t => (t.writeFresh (fun _ => true) h.order).placeData h.blk h.order h.cells h.gone) t =
        forEach hs (fun h t => t.placeData h.blk h.order h.cells h.gone) t ∧
      (forEach hs (fun h t => t.placeData h.blk h.order h.cells h.gone) t).host.sleepFresh = [] := by
    induction hs generalizing t with
    | nil => exact ⟨rfl, ht⟩
    | cons x xs ih =>
      have hplace : (t.placeData x.blk x.order x.cells x.gone).host.sleepFresh = [] :=
        (congrArg Prod.snd (sleepLoad_blind.placeData x.blk x.order x.cells x.gone t)).trans ht
      rw [forEach_cons, forEach_cons, writeFresh_of_none ht]
      exact ih _ hplace
  obtain ⟨heq, hnone⟩ := hall s.host.sleepHeld { s with host := { s.host with sleepHeld := [] } } h
  unfold State.releaseHeld
  dsimp only
  rw [heq, writeFresh_of_none hnone]

theorem releaseHeld_sleepHeld (s : State) : s.releaseHeld.host.sleepHeld = [] := by
  have hfresh (t : State) (w : PortId → Bool) (o : Nat) : (t.writeFresh w o).host.sleepHeld = t.host.sleepHeld := by
    unfold State.writeFresh
    refine congrArg Prod.fst (a₂ := ({ t with host := { t.host with sleepFresh := _ } } : State).sleepLoad)
      (forEach_keeps (π := State.sleepLoad) (fun _ _ _ => ?_) _)
    exact (sleepLoad_blind.freshLoss ..).trans (sleepLoad_blind.enterQwrites ..)
  unfold State.releaseHeld
  extract_lets hs h1 s1 s2 s3 h4
  have h2 : s2.host.sleepHeld = s1.host.sleepHeld := forEach_keeps (π := fun t : State => t.host.sleepHeld)
    (fun h _ t => (congrArg Prod.fst (sleepLoad_blind.placeData h.blk h.order h.cells h.gone _)).trans (hfresh ..)) s1
  exact (hfresh s2 _ _).trans h2

end Sys2Proof.Machine
end

section
/-! SUPPORT. A host item counts in ENTERED, and its cells in P, wherever its write ends (09 R265, R273), and those of the block
that placed it. -/

namespace Sys2Proof.Machine

/-- What a port counts of the host's items: ENTERED and P. -/
def State.tally (p : PortId) (s : State) : BitVec 24 × BitVec 24 := ((s.port p).entered, (s.port p).placed)

theorem tally_of_stock {p : PortId} {s t : State} (h : (t.port p).stock = (s.port p).stock) : t.tally p = s.tally p := by
  have hcounts : ((t.port p).stock.entered, (t.port p).stock.placed) = ((s.port p).stock.entered, (s.port p).stock.placed) := by
    rw [h]
  exact hcounts

theorem tally_blind (p : PortId) : StockBlind p (State.tally p) where
  stock s f h := tally_of_stock ((stock_blind p).stock s f h)
  modRegion s f h := tally_of_stock ((stock_blind p).modRegion s f h)
  modTie s g f := tally_of_stock ((stock_blind p).modTie s g f)
  portEvent k s := tally_of_stock ((stock_blind p).portEvent k s)
  tieEvent g s := tally_of_stock ((stock_blind p).tieEvent g s)
  tieFall g s := tally_of_stock ((stock_blind p).tieFall g s)
  count code s := tally_of_stock ((stock_blind p).count code s)
  hostError s := tally_of_stock ((stock_blind p).hostError s)

section
variable (p : PortId) (i : Item) (u : Bool) (o : Nat) (s : State)

/-- One item more in ENTERED. -/
def countedIn (c : BitVec 24 × BitVec 24) : BitVec 24 × BitVec 24 := (c.1 + 1, c.2)

theorem modPort_tally_entered : (s.modPort p (fun x => { x with entered := x.entered + 1 })).tally p = countedIn (s.tally p) := by
  unfold State.tally countedIn
  rw [State.port_modPort]

theorem txLost_tally (reason : BitVec 4) : (s.txLost p reason i o).tally p = countedIn (s.tally p) := by
  have hb := tally_blind p
  exact (modPort_tally_entered ..).trans (congrArg countedIn ((hb.loseItem ..).trans (hb.lossSince ..)))

theorem txOver_tally : (s.txOver p i o).tally p = countedIn (s.tally p) := by
  unfold State.txOver
  dsimp only
  split
  · exact txLost_tally ..
  · exact ((tally_blind p).hostError ..).trans (txLost_tally ..)

/-- The item counts in ENTERED and its cells in P. -/
theorem txEnter_tally : (s.txEnter p i u o).tally p =
    ((s.port p).entered + 1, (s.port p).placed + BitVec.ofNat 24 i.cells) := by
  have hb := tally_blind p
  unfold State.txEnter
  extract_lets s1 x s2 s3
  have h1 : countedIn (s1.tally p) = ((s.port p).entered + 1, (s.port p).placed + BitVec.ofNat 24 i.cells) := by
    unfold s1 State.tally countedIn
    rw [State.port_modPort]
  have h2 : s2.tally p = s1.tally p := hb.boundaryBefore ..
  have h3 : s3.tally p = s1.tally p := (hb.tryGap ..).trans h2
  refine Eq.trans ?_ h1
  split
  · exact txLost_tally ..
  split
  · exact txLost_tally ..
  split
  · exact (modPort_tally_entered ..).trans (congrArg countedIn ((hb.flushDiscard ..).trans ((hb.lossSince ..).trans h2)))
  split
  · exact (txOver_tally ..).trans (congrArg countedIn h3)
  split
  · exact (txOver_tally ..).trans (congrArg countedIn h3)
  · exact (hb.tieSync ..).trans ((modPort_tally_entered ..).trans (congrArg countedIn ((hb.enterItem ‹_›).trans h3)))
end

/-- The items of one placing count one after the other. -/
theorem txEnters_tally (p : PortId) (o : Nat) (is : List TxItem) (s : State) :
    (forEach is (fun i t => t.txEnter p i.item i.urgent o) s).tally p =
      ((s.port p).entered + BitVec.ofNat 24 is.length, (s.port p).placed + BitVec.ofNat 24 (is.map (fun i => i.item.cells)).sum) := by
  induction is generalizing s with
  | nil => exact Prod.ext (BitVec.add_zero _).symm (BitVec.add_zero _).symm
  | cons i is ih =>
    have hi := txEnter_tally p i.item i.urgent o s
    have hentered : ((s.txEnter p i.item i.urgent o).port p).entered = (s.port p).entered + 1#24 := congrArg Prod.fst hi
    have hplaced : ((s.txEnter p i.item i.urgent o).port p).placed = (s.port p).placed + BitVec.ofNat 24 i.item.cells :=
      congrArg Prod.snd hi
    rw [forEach_cons, ih, hentered, hplaced, List.length_cons, List.map_cons, List.sum_cons, Nat.add_comm is.length, BitVec.ofNat_add,
      BitVec.ofNat_add, BitVec.add_assoc, BitVec.add_assoc]

/-- The QWRITEs of which items wait. -/
def State.onTheWay (s : State) : List QWrite × BitVec 16 := (s.host.writes, s.presentMask)

theorem onTheWay_blind : PortsBlind State.onTheWay where
  modPort _ _ _ := rfl
  modRegion _ _ _ := rfl
  modTie _ _ _ := rfl
  attEvent i s := by
    obtain ⟨a, e, h⟩ := attEvent_form i s
    rw [h]
    rfl
  attFall i s := rfl
  count code s := by
    obtain ⟨a, c, e, h⟩ := count_form code s
    rw [h]
    rfl
  hostError b s := by
    obtain ⟨a, c, e, h⟩ := hostError_form b s
    rw [h]
    rfl
  loaded _ _ _ := rfl
  upsetShadow _ := rfl

section
variable {s : State} (h : s.host.writes = [])
include h

theorem enterQwrites_of_none (p : PortId) (o : Nat) : s.enterQwrites p o = s := by
  obtain ⟨hsleep, hawake⟩ := List.append_eq_nil_iff.mp h
  have hmap (f : QWrite → QWrite) : s.host.mapWrites f = s.host := by
    unfold HostSt.mapWrites
    rw [show s.host.sleepWrites.map f = s.host.sleepWrites by rw [hsleep]; rfl,
      show s.host.qwrites.map f = s.host.qwrites by rw [hawake]; rfl]
  unfold State.enterQwrites
  dsimp only
  rw [hmap, h]
  rfl

theorem placeItems_of_none (p : PortId) (is : List TxItem) (o : Nat) (hp : s.present p = true) :
    s.placeItems p is o = forEach is (fun i t => t.txEnter p i.item i.urgent o) s := by
  unfold State.placeItems
  rw [enterQwrites_of_none h, hp]
  exact if_neg (by simp)
end

theorem placeItems_onTheWay {s : State} (h : s.host.writes = []) (p : PortId) (is : List TxItem) (o : Nat) :
    (s.placeItems p is o).onTheWay = s.onTheWay := by
  unfold State.placeItems
  rw [enterQwrites_of_none h]
  exact keeps_if rfl (forEach_keeps (π := State.onTheWay) (fun _ _ _ => (onTheWay_blind.run p).toItemBlind.txEnter ..) s)

theorem placeItems_port {p q : PortId} (hq : q ≠ p) {s : State} (h : s.host.writes = []) (is : List TxItem) (o : Nat) :
    (s.placeItems p is o).port q = s.port q := by
  unfold State.placeItems
  rw [enterQwrites_of_none h]
  exact keeps_if (π := fun s : State => s.port q) rfl
    (forEach_keeps (π := fun s : State => s.port q) (fun _ _ _ => (port_blind hq).toItemBlind.txEnter ..) s)

/-- The items that a block's runs place in one queue. -/
def runsFor (p : PortId) (rs : List (PortId × List TxItem)) : List TxItem :=
  (rs.filter (fun r => r.1 == p)).flatMap (fun r => r.2)

/-- The runs of a block count their items for their ports, no other item being on its way. -/
theorem placeRuns_tally (p : PortId) (o : Nat) (rs : List (PortId × List TxItem)) {s : State} (h : s.host.writes = [])
    (hp : s.present p = true) : (forEach rs (fun r t => t.placeItems r.1 r.2 o) s).tally p =
      ((s.port p).entered + BitVec.ofNat 24 (runsFor p rs).length,
        (s.port p).placed + BitVec.ofNat 24 ((runsFor p rs).map (fun i => i.item.cells)).sum) := by
  induction rs generalizing s with
  | nil => exact Prod.ext (BitVec.add_zero _).symm (BitVec.add_zero _).symm
  | cons r rs ih =>
    have hway := placeItems_onTheWay h r.1 r.2 o
    have hwrites : (s.placeItems r.1 r.2 o).host.writes = [] := (congrArg Prod.fst hway).trans h
    have hpres : (s.placeItems r.1 r.2 o).present p = true := (present_of_presentMask (congrArg Prod.snd hway) p).trans hp
    rw [forEach_cons, ih hwrites hpres]
    by_cases hr : r.1 = p
    · have hmine : runsFor p (r :: rs) = r.2 ++ runsFor p rs := by
        unfold runsFor
        rw [List.filter_cons_of_pos (by simp [hr]), List.flatMap_cons]
      have hcount := txEnters_tally p o r.2 s
      rw [← placeItems_of_none h p r.2 o hp, ← hr] at hcount
      rw [← hr] at hmine ⊢
      rw [show ((s.placeItems r.1 r.2 o).port r.1).entered = _ from congrArg Prod.fst hcount,
        show ((s.placeItems r.1 r.2 o).port r.1).placed = _ from congrArg Prod.snd hcount, hmine, List.length_append, List.map_append,
        List.sum_append, BitVec.ofNat_add, BitVec.ofNat_add, BitVec.add_assoc, BitVec.add_assoc]
    · have hmine : runsFor p (r :: rs) = runsFor p rs := by
        unfold runsFor
        rw [List.filter_cons_of_neg (by simp [hr])]
      rw [placeItems_port (Ne.symm hr) h, hmine]

/-- A decoded block places its items, those of the ports that a reset took out of it aside. -/
theorem placeData_tally {s : State} {b : DataBlk} {rs : List (PortId × List TxItem)} (n : Nat) (cells : List (PortId × BitVec 24))
    {gone : List PortId} {p : PortId} (hb : blkDecode b = some rs) (h : s.host.writes = []) (hp : s.present p = true)
    (hgone : p ∉ gone) : (s.placeData b n cells gone).tally p =
      ((s.port p).entered + BitVec.ofNat 24 (runsFor p rs).length,
        (s.port p).placed + BitVec.ofNat 24 ((runsFor p rs).map (fun i => i.item.cells)).sum) := by
  have hmine : runsFor p (rs.filter (fun r => !gone.contains r.1)) = runsFor p rs := by
    unfold runsFor
    rw [List.filter_filter]
    refine congrArg (List.flatMap _) (List.filter_congr fun r _ => ?_)
    by_cases hr : r.1 = p
    · simp [hr, hgone]
    · simp [hr]
  have hdata : s.placeData b n cells gone =
      forEach (rs.filter (fun r => !gone.contains r.1)) (fun r t => t.placeItems r.1 r.2 n) s := by
    unfold State.placeData
    rw [hb]
  rw [hdata, placeRuns_tally p n _ h hp, hmine]

end Sys2Proof.Machine
end

section
/-! SUPPORT. The entry of a host item into a queue that takes it (09 R265), and the port commands that Sleep deferred (12 R340,
R344). -/

namespace Sys2Proof.Machine

/-! ### A bulk item of the host enters -/

theorem txEnter_bulk {s : State} {p : PortId} {i : Item} (o : Nat) (hsinks : (s.port p).txSinks = false)
    (hflush : (s.port p).txq.flushing = false) (hblocked : (s.port p).txq.blocked = false)
    (hfree : i.cells ≤ (s.port p).txq.freeCells (s.pool p)) (hsound : s.sound p .tx = true) :
    (((s.txEnter p i false o).port p).txq.bulkItems = (s.port p).txq.bulkItems ++ [i.withUrgent false]) ∧
      ((s.txEnter p i false o).port p).txq.urgItems = (s.port p).txq.urgItems := by
  obtain ⟨hoff, hdiscard⟩ := Bool.or_eq_false_iff.mp hsinks
  let u := s.modPort p (fun x => { x with placed := x.placed + BitVec.ofNat 24 i.cells })
  have hport : u.port p = { s.port p with placed := (s.port p).placed + BitVec.ofNat 24 i.cells } := State.port_modPort ..
  have hq : u.queue p .tx = (s.port p).txq := by
    unfold State.queue
    rw [hport]
    rfl
  have hpool : u.pool p = s.pool p := rfl
  have husound : u.sound p .tx = true := by
    unfold State.sound
    rw [hport]
    exact hsound
  obtain ⟨ns, r, t, hr, ht, hberth⟩ := enterItem_enters (s := u) (p := p) (d := .tx) (i := i) (urgent := false) (notes := [])
    (order := some o) husound (by rw [hq, hpool]; exact hfree)
  obtain ⟨r', hr', -, -, hbulk⟩ := enter_room (q := u.queue p .tx) (f := (u.port p).fmt .tx) (guard := (u.port p).guard .tx)
    (urgent := false) (notes := ns) (order := some o) (pool := u.pool p) (i := i) (by rw [hq, hpool]; exact hfree)
  obtain rfl : r = r' := Option.some.inj (hr.symm.trans hr')
  have henter : s.txEnter p i false o = State.tieSync p (t.modPort p (fun x => { x with entered := x.entered + 1 })) := by
    unfold State.txEnter
    extract_lets x s2 s3
    have hs2 : s2 = u := boundaryBefore_of_not_flushing (s := u) (d := .tx) (by rw [hq]; exact hflush)
    have hs3 : s3 = u := by
      unfold s3
      rw [hs2]
      exact tryGap_unblocked (s := u) (d := .tx) (by rw [hq]; exact hblocked)
    have hx : x = { s.port p with placed := (s.port p).placed + BitVec.ofNat 24 i.cells } := hport
    rw [hs3, hs2, hq, hflush, hblocked, show x.txOff = false by rw [hx]; exact hoff,
      show x.line.lfDiscard = false by rw [hx]; exact hdiscard, show u.enterItem p .tx i false [] (some o) = some t from ht]
    rfl
  have hqueue : (s.txEnter p i false o).queue p .tx = r.q := by
    have hsync := tieSync_berth p (t.modPort p (fun x => { x with entered := x.entered + 1 }))
    have hcount : (t.modPort p (fun x => { x with entered := x.entered + 1 })).queue p .tx = t.queue p .tx := by
      unfold State.queue
      rw [State.port_modPort]
      rfl
    rw [henter, show State.queue _ p .tx = _ from queue_of_berth hsync .tx]
    exact hcount.trans ((queue_of_berth hberth .tx).trans (Port.queue_setQueue ..))
  obtain ⟨hb, hu⟩ := hbulk rfl
  rw [hq] at hb hu
  rw [show ((s.txEnter p i false o).port p).txq = r.q from hqueue]
  exact ⟨hb, hu⟩

/-! ### The deferred commands in the order of their acceptance -/

theorem mem_insertDeferred (x y : PortId × QueuedCmd) (l : List (PortId × QueuedCmd)) :
    y ∈ insertDeferred x l ↔ y = x ∨ y ∈ l := by
  induction l with
  | nil => simp [insertDeferred]
  | cons z zs ih =>
    unfold insertDeferred
    split
    · simp
    · rw [List.mem_cons, ih, List.mem_cons]
      exact or_left_comm

theorem insertDeferred_sorted (x : PortId × QueuedCmd) {l : List (PortId × QueuedCmd)}
    (h : l.Pairwise (fun a b => a.2.order ≤ b.2.order)) : (insertDeferred x l).Pairwise (fun a b => a.2.order ≤ b.2.order) := by
  induction l with
  | nil => exact List.pairwise_singleton ..
  | cons z zs ih =>
    obtain ⟨hz, hzs⟩ := List.pairwise_cons.mp h
    unfold insertDeferred
    split
    · next hlt =>
      refine List.pairwise_cons.mpr ⟨fun y hy => ?_, h⟩
      obtain rfl | hy := List.mem_cons.mp hy
      · omega
      · have := hz y hy
        omega
    · next hge =>
      refine List.pairwise_cons.mpr ⟨fun y hy => ?_, ih hzs⟩
      obtain rfl | hy := (mem_insertDeferred x y zs).mp hy
      · omega
      · exact hz y hy

theorem insertAll_sorted (xs l : List (PortId × QueuedCmd)) (h : l.Pairwise (fun a b => a.2.order ≤ b.2.order)) :
    (xs.foldl (fun l x => insertDeferred x l) l).Pairwise (fun a b => a.2.order ≤ b.2.order) := by
  induction xs generalizing l with
  | nil => exact h
  | cons x xs ih => exact ih _ (insertDeferred_sorted x h)

theorem mem_insertAll (y : PortId × QueuedCmd) (xs l : List (PortId × QueuedCmd)) :
    y ∈ xs.foldl (fun l x => insertDeferred x l) l ↔ y ∈ xs ∨ y ∈ l := by
  induction xs generalizing l with
  | nil => simp
  | cons x xs ih =>
    rw [List.foldl_cons, ih, mem_insertDeferred, List.mem_cons]
    exact or_left_comm.trans or_assoc.symm

theorem mem_deferredList {s : State} {p : PortId} {c : QueuedCmd} :
    (p, c) ∈ s.deferredList ↔ s.present p = true ∧ (s.port p).deferred = some c := by
  unfold State.deferredList
  rw [mem_insertAll, List.mem_filterMap]
  simp only [List.not_mem_nil, or_false]
  constructor
  · rintro ⟨q, hq, hmap⟩
    obtain ⟨d, hd, he⟩ := Option.map_eq_some_iff.mp hmap
    obtain ⟨rfl, rfl⟩ := Prod.mk.inj he
    exact ⟨present_of_mem hq, hd⟩
  · rintro ⟨hp, hd⟩
    exact ⟨p, mem_presentPorts hp, by rw [hd]; rfl⟩

/-! ### The start of one -/

/-- What the start of a deferred command makes of its port's course. -/
def Course.resumed (x : Course) (c : QueuedCmd) (wait : Bool) : Course :=
  if x.trans.isSome then { x with deferred := none, queued := some c }
  else { x with deferred := none }.started c.target c.order wait

theorem startDeferred_course (s : State) (p : PortId) (c : QueuedCmd) : ((s.startDeferred (p, c)).port p).course =
    (s.port p).course.resumed c (s.mustWait (regionOf p) c.order) := by
  let u := s.modPort p (fun y => { y with deferred := none })
  have hu : (u.port p).course = { (s.port p).course with deferred := none } := congrArg Port.course (State.port_modPort ..)
  have hwait : u.mustWait (regionOf p) c.order = s.mustWait (regionOf p) c.order :=
    mustWait_modPort s p (fun y => { y with deferred := none }) (fun _ => rfl) (fun _ => rfl) _ _
  have htrans : (u.port p).trans = (s.port p).course.trans := congrArg Course.trans hu
  unfold State.startDeferred Course.resumed
  dsimp only
  rw [htrans]
  split
  · exact (congrArg Port.course (State.port_modPort ..)).trans (congrArg (fun x : Course => { x with queued := some c }) hu)
  · have hstart := congrFun (startCmd_courses p c.target c.order .idle u) p
    rw [Function.update_self, hu, hwait] at hstart
    exact hstart

section
variable {x : Course} {c : QueuedCmd} {w : Bool}

theorem resumed_of_trans {tr : Trans} (h : x.trans = some tr) : x.resumed c w = { x with deferred := none, queued := some c } :=
  if_pos (by rw [h]; rfl)

theorem resumed_of_none (h : x.trans = none) : x.resumed c w = { x with deferred := none }.started c.target c.order w :=
  if_neg (by rw [h]; exact Bool.false_ne_true)

theorem resumed_deferred : (x.resumed c w).deferred = none := by
  unfold Course.resumed
  split
  · rfl
  · unfold Course.started
    split
    · rfl
    · split <;> rfl
end

theorem startDeferred_acts (s : State) (p : PortId) (c : QueuedCmd) :
    let y := (s.startDeferred (p, c)).port p
    let waits := raisesSupply (s.port p).st c.target = true ∧ s.mustWait (regionOf p) c.order = true
    y.deferred = none ∧
      (∀ tr, (s.port p).trans = some tr → y.trans = some tr ∧ y.queued = some c) ∧
      ((s.port p).trans = none → (s.port p).st = c.target → y.trans = none ∧ y.queued = none) ∧
      ((s.port p).trans = none → (s.port p).st ≠ c.target → waits → y.trans = none ∧ y.queued = some c) ∧
      ((s.port p).trans = none → (s.port p).st ≠ c.target → ¬ waits → y.queued = none ∧
        y.trans = some (transTo (s.port p).st c.target true)) := by
  intro y waits
  have hy : y.course = (s.port p).course.resumed c (s.mustWait (regionOf p) c.order) := startDeferred_course s p c
  generalize hx : (s.port p).course = x at hy
  have hst : (s.port p).st = x.st := congrArg Course.st hx
  have htr : (s.port p).trans = x.trans := congrArg Course.trans hx
  unfold waits
  rw [hst, htr]
  refine ⟨(congrArg Course.deferred hy).trans resumed_deferred, ?_, ?_, ?_, ?_⟩
  · intro tr h
    rw [resumed_of_trans h] at hy
    exact ⟨(congrArg Course.trans hy).trans h, congrArg Course.queued hy⟩
  · intro h hsame
    rw [resumed_of_none h, started_of_reached (by exact hsame)] at hy
    exact ⟨(congrArg Course.trans hy).trans h, congrArg Course.queued hy⟩
  · intro h hne ⟨hraise, hwait⟩
    rw [resumed_of_none h, hwait, started_of_wait (by exact hne) (by exact hraise)] at hy
    exact ⟨(congrArg Course.trans hy).trans h, congrArg Course.queued hy⟩
  · intro h hne hgo
    rw [resumed_of_none h, started_of_go (by exact hne) (by exact hgo)] at hy
    exact ⟨congrArg Course.queued hy, congrArg Course.trans hy⟩

end Sys2Proof.Machine
end

section
/-! SUPPORT. What a retrain and a training leave of the trunk (08 R223 to R229), and the width as Sleep begins and ends. -/

namespace Sys2Proof.Machine

/-- The trunk but for its blocks, its events, what it measures and the settings of its lanes. -/
def Trunk.shape (t : Trunk) : Trunk := { t.unbuilt with delay := 0, delayValid := false, lanes := Vector.replicate 4 0 }

/-- The shape of the trunk. -/
def State.shape (s : State) : Trunk := s.tr.shape

theorem shape_of_unbuilt {s t : State} (h : t.unbuilt = s.unbuilt) : t.shape = s.shape :=
  (congrArg (fun u : State => u.tr.shape) h :)

theorem modTr_shape {f : Trunk → Trunk} (h : ∀ t, (f t).shape = t.shape) (s : State) : (s.modTr f).shape = s.shape := h s.tr

theorem measure_shape (tn : Trained) (s : State) : (s.measure tn).shape = s.shape := by
  unfold State.measure
  dsimp only
  split
  · exact (shape_of_unbuilt (trkEvent_unbuilt ..)).trans (modTr_shape (fun _ => rfl) s)
  · exact modTr_shape (fun _ => rfl) s

theorem keepLanes_shape (on : BitVec 4) (tn : Trained) (s : State) : (s.keepLanes on tn).shape = s.shape :=
  modTr_shape (fun _ => rfl) s

theorem rewind_shape (s : State) : s.rewind.shape = s.shape := shape_of_unbuilt (rewind_unbuilt s)

/-- The device keeps its state while the lanes are trained again. -/
theorem dev_trunk : TrunkBlind State.dev where
  modTr _ _ := rfl
  trkLoss _ _ _ := rfl
  attEvent := dev_blind.attEvent
  count := dev_blind.count

/-- The trunk of a retrain that ends on the pairs `ps` (R226). -/
def Trunk.retrained (t : Trunk) (ps pairInv : BitVec 4) : Trunk :=
  { t with
    link := .up, alive := ps, trained := t.trained ||| ps,
    order := t.order ++ (List.finRange 4).filter (fun k => ps.getLsbD k.val && !t.order.contains k),
    pairInv := (t.pairInv &&& t.trained) ||| (pairInv &&& ~~~t.trained),
    restoring := false, markMissed := 0, laneLocked := t.laneLocked &&& ~~~ps }

/-- The width in use is set from the device's state and the trunk's shape alone. -/
theorem widthNow_of_shape {s t : State} (hd : t.dev = s.dev) (h : t.shape = s.shape) (b : Bool) : t.widthNow b = s.widthNow b := by
  have hw : t.tr.width = s.tr.width := (congrArg Trunk.width h :)
  have ha : t.tr.alive = s.tr.alive := (congrArg Trunk.alive h :)
  unfold State.widthNow
  rw [hd, hw, ha]

/-- The width in use follows the device's state (R228, R229). -/
def State.widthSet (s : State) : BitVec 3 := s.widthNow (s.dev.st == .sleep || (s.dev.toSleep && !s.dev.changeDue))

theorem setWidth_shape (s : State) : s.setWidth.shape = { s.shape with width := s.widthSet } := rfl

theorem widthSet_of_shape {s t : State} (hd : t.dev = s.dev) (h : t.shape = s.shape) : t.widthSet = s.widthSet := by
  unfold State.widthSet
  rw [widthNow_of_shape hd h, hd]

theorem retrainLanes_shape (tn : Trained) (s : State) : (s.retrainLanes tn).shape =
    { (s.tr.retrained (s.retrainPairs tn) tn.pairInv).shape with
      width := { s with tr := s.tr.retrained (s.retrainPairs tn) tn.pairInv }.widthSet } := by
  unfold State.retrainLanes
  extract_lets ps back s1 s2 s3
  have h1 : (s1.measure tn).shape = s1.shape := measure_shape ..
  have hd : (s1.measure tn).dev = s1.dev := dev_trunk.measure ..
  have h2 : s2.shape = { s1.shape with width := s1.widthSet } := by
    unfold s2
    rw [setWidth_shape, widthSet_of_shape hd h1, h1]
  have h3 : s3.shape = s2.shape := keepLanes_shape ..
  have hlast : (if back then s3.trkEvent 1 else s3).shape = s3.shape :=
    keeps_if (π := State.shape) (shape_of_unbuilt (trkEvent_unbuilt ..)) rfl
  exact hlast.trans (h3.trans h2)

theorem popcount_pos {x : BitVec 4} (h : x ≠ 0) : 1 ≤ popcount x := by
  revert x
  decide

theorem retrainPairs_of {s : State} {tn : Trained} (h : s.tr.restoring = false) : s.retrainPairs tn = s.tr.alive &&& tn.pairUp := by
  unfold State.retrainPairs Trunk.locked
  rw [h, BitVec.and_comm]
  rfl

/-! ### Sleep begins (R229, R343) -/

theorem saveAtt_saved (s : State) : s.saveAtt.att.saved = true := by
  unfold State.saveAtt
  split
  · next h => exact h
  · rfl

theorem saveAtt_unbuilt (s : State) : s.saveAtt.unbuilt = s.unbuilt := keeps_if rfl rfl

/-- What a device in Sleep shows as it begins. -/
structure Asleep (t : State) : Prop where
  dev : t.dev.st = .sleep ∧ t.dev.changing = false ∧ t.dev.toSleep = false
  link : t.tr.link = .up ∧ t.tr.width = 1 ∧ t.tr.laneLocked = 0
  saved : t.att.saved = true
  done : t.pw.events.getLsbD 5 = true

theorem enterSleep_asleep {s : State} (hlink : s.tr.link = .up) (hwidth : s.tr.width = 1) (hdue : s.dev.changeDue = false) :
    Asleep s.enterSleep.pump := by
  let u : State := { s with
    dev := { s.dev with st := .sleep, changing := false, byState := false, toSleep := false }, tr := { s.tr with laneLocked := 0 } }
  have hu : u.saveAtt.unbuilt = u.unbuilt := saveAtt_unbuilt u
  obtain ⟨a, c, e, h⟩ := powerEvent_form 5 u.saveAtt
  have hclaims : s.enterSleep.claims = u.saveAtt.claims := powerEvent_claims 5 u.saveAtt
  have hsleep : s.enterSleep = u.saveAtt.powerEvent 5 := rfl
  have hdev : s.enterSleep.dev = u.dev := by
    rw [hsleep, h]
    exact (congrArg State.dev hu :)
  have hdue' : s.enterSleep.dev.changeDue = false := by
    rw [hdev]
    exact hdue
  have hpump := pump_unbuilt hdue'
  have hsaved : s.enterSleep.pump.att.saved = true :=
    (congrArg Prod.fst (claims_trunk.pump hdue')).trans ((congrArg Prod.fst hclaims).trans (saveAtt_saved u))
  have hshape : s.enterSleep.pump.tr.unbuilt = u.tr.unbuilt := by
    refine (congrArg State.tr hpump).trans ?_
    rw [hsleep, h]
    exact congrArg State.tr hu
  have hdevp : s.enterSleep.pump.dev = u.dev := (congrArg State.dev hpump).trans hdev
  have hevent : s.enterSleep.pump.pw.events = s.enterSleep.pw.events := (congrArg (fun v : State => v.pw.events) hpump :)
  refine ⟨?_, ⟨?_, ?_, ?_⟩, hsaved, ?_⟩
  · rw [hdevp]
    exact ⟨rfl, rfl, rfl⟩
  · exact (congrArg Trunk.link hshape).trans hlink
  · exact (congrArg Trunk.width hshape).trans hwidth
  · exact congrArg Trunk.laneLocked hshape
  · rw [hevent, hsleep, h]
    exact getLsbD_or_oneBit (i := 5) (by decide) _

theorem exec_retrainEnd {s : State} {tn : Trained} (hon : s.trunkOn = true) (hlink : s.tr.link = .retrain)
    (hup : s.retrainPairs tn ≠ 0) : exec (.retrainEnd tn) s = .next (s.retrainLanes tn).rewind.settle.pump := by
  refine congrArg Host.Outcome.next (if_pos ?_)
  rw [hon, hlink, bne_iff_ne.mpr hup]
  rfl

/-- The retrain of a command to Sleep ends in Sleep, on one lane. -/
theorem retrainEnd_sleeps {s : State} {tn : Trained} (hrest : s.tr.restoring = false) (hup : s.tr.alive &&& tn.pairUp ≠ 0)
    (hsleep : s.dev.toSleep = true) (hdue : s.dev.changeDue = false) : Asleep (s.retrainLanes tn).rewind.settle.pump := by
  have hdev : (s.retrainLanes tn).rewind.dev = s.dev := (dev_trunk.rewind _).trans (dev_trunk.retrainLanes ..)
  have hshape : (s.retrainLanes tn).rewind.shape = _ := (rewind_shape _).trans (retrainLanes_shape tn s)
  generalize (s.retrainLanes tn).rewind = w at hdev hshape
  have hwidth : w.tr.width = 1 := by
    refine (congrArg Trunk.width hshape).trans ?_
    unfold State.widthSet State.widthNow
    dsimp only
    rw [hsleep, hdue, show (s.tr.retrained (s.retrainPairs tn) tn.pairInv).alive = s.retrainPairs tn from rfl, retrainPairs_of hrest]
    have hpos := popcount_pos hup
    rw [show (s.dev.st == DState.sleep || (true && !false)) = true by simp, if_pos rfl, Nat.min_eq_left hpos]
    rfl
  have hsettle : w.settle = w.enterSleep := by
    unfold State.settle
    rw [hdev, hdue, hsleep]
    rfl
  rw [hsettle]
  exact enterSleep_asleep (congrArg Trunk.link hshape) hwidth (by rw [hdev]; exact hdue)

/-! ### Sleep ends (R229, R344) -/

/-- The width is commanded again as Sleep ends. -/
theorem wakeRetrain_width {s : State} {tn : Trained} (hlink : s.tr.link = .up ∨ s.tr.link = .retrain)
    (hrest : s.tr.restoring = false) (hup : s.tr.alive &&& tn.pairUp ≠ 0) (hst : s.dev.st = .awake) (hsleep : s.dev.toSleep = false)
    (hdue : s.dev.changeDue = false) : (s.wakeRetrain tn).tr.link = .up ∧
      (s.wakeRetrain tn).tr.width = BitVec.ofNat 3 (min s.dev.cmdWidth.toNat (popcount (s.tr.alive &&& tn.pairUp))) ∧
      (s.tr.link = .up → (s.wakeRetrain tn).tr.retrains = satInc s.tr.retrains) := by
  let u := if s.tr.link == .up then s.beginRetrain else s
  have hwake : s.wakeRetrain tn = (u.retrainLanes tn).rewind := by
    refine if_pos ?_
    rw [bne_iff_ne.mpr hup]
    obtain h | h := hlink <;> rw [h] <;> rfl
  have hdev : u.dev = s.dev := keeps_if (π := State.dev) rfl rfl
  have hrestu : u.tr.restoring = s.tr.restoring :=
    keeps_if (a := s.beginRetrain) (b := s) (π := fun v : State => v.tr.restoring) rfl rfl
  have halive : u.tr.alive = s.tr.alive := keeps_if (a := s.beginRetrain) (b := s) (π := fun v : State => v.tr.alive) rfl rfl
  have hretrains : s.tr.link = .up → u.tr.retrains = satInc s.tr.retrains := fun h => by
    unfold u
    rw [h]
    rfl
  clear_value u
  have hpairs : u.retrainPairs tn = s.tr.alive &&& tn.pairUp := by rw [retrainPairs_of (hrestu.trans hrest), halive]
  have hshape : (u.retrainLanes tn).rewind.shape = _ := (rewind_shape _).trans (retrainLanes_shape tn u)
  rw [hwake]
  refine ⟨congrArg Trunk.link hshape, (congrArg Trunk.width hshape).trans ?_, fun h => (congrArg Trunk.retrains hshape).trans (hretrains h)⟩
  unfold State.widthSet State.widthNow
  dsimp only
  rw [hdev, hst, hsleep, hdue, show (u.tr.retrained (u.retrainPairs tn) tn.pairInv).alive = u.retrainPairs tn from rfl, hpairs]
  rfl

end Sys2Proof.Machine
end

section
/-! SUPPORT. The restored attention state (11 R322, R323), and what stands as Sleep has ended (12 R344). -/

namespace Sys2Proof.Machine

/-! ### Attention is restored -/

theorem setProc_saved (a : Att) (v : BitVec 8) : (a.setProc v).saved = a.saved := by
  have hrefresh (is : List SrcId) (b : Att) : (is.foldl Att.refresh b).saved = b.saved := by
    induction is generalizing b with
    | nil => rfl
    | cons i is ih => exact ih _
  exact (noTargets_saved ..).trans (hrefresh ..)

theorem replaceLost_form (bad : RetentionFault) (s : State) : ∃ a n,
    s.replaceLost bad = { s with att := a, freeCtr := n } ∧ a.saved = s.att.saved := by
  refine ⟨_, _, rfl, ?_⟩
  have hupdate (b : Att) (is : List SrcId) : (b.updateAll is s.lostSrc).saved = b.saved := updateAll_saved ..
  have hevents : (if bad.events then { s.att with events := Config.lostEvents s.freeCtr } else s.att).saved = s.att.saved := by
    split <;> rfl
  dsimp only
  split
  · exact (setProc_saved ..).trans ((hupdate ..).trans hevents)
  · exact (hupdate ..).trans hevents

/-- Every pending source is announced again. -/
def Att.announced (a : Att) : Att :=
  (List.finRange 160).foldl (fun a i => a.put i (if a.srcs[i].pend then { a.srcs[i] with noticed := 0 } else a.srcs[i]))
    { a with due := [] }

theorem announced_saved (a : Att) : a.announced.saved = a.saved := by
  have hall (is : List SrcId) (b : Att) :
      (is.foldl (fun a i => a.put i (if a.srcs[i].pend then { a.srcs[i] with noticed := 0 } else a.srcs[i])) b).saved = b.saved := by
    induction is generalizing b with
    | nil => rfl
    | cons i is ih => exact ih _
  exact hall _ { a with due := [] }

/-- Every source's input is computed again. -/
def State.inputsRead (s : State) : State :=
  { s with att := { s.att with srcs := Vector.ofFn (fun i => { s.att.srcs[i] with asserted := s.ownerAsserted i }) } }

/-- The state as it was saved, words that fail replaced and the events that arrived applied. -/
def State.restored (bad : RetentionFault) (s : State) : State :=
  (({ s with att := { s.att with saved := false, arrived := [] } }).replaceLost bad).inputsRead.attEvents
    ((List.finRange 160).filter (fun i => s.att.arrived.contains i))

theorem restoreAtt_eq (bad : RetentionFault) (s : State) : s.restoreAtt bad =
    { (if bad.sources.isEmpty && !bad.proc && !bad.events then s.restored bad else (s.restored bad).attUnitEvent 4#3) with
      att := (if bad.sources.isEmpty && !bad.proc && !bad.events then s.restored bad
        else (s.restored bad).attUnitEvent 4#3).att.announced } := rfl

theorem inputsRead_form (s : State) : ∃ a, s.inputsRead = { s with att := a } ∧ a.saved = s.att.saved := ⟨_, rfl, rfl⟩

theorem restored_form (bad : RetentionFault) (s : State) : ∃ a e n,
    s.restored bad = { s with att := a, boot := { s.boot with early := e }, freeCtr := n } ∧ a.saved = false := by
  obtain ⟨b, n, hlost, hb⟩ := replaceLost_form bad { s with att := { s.att with saved := false, arrived := [] } }
  obtain ⟨c, hread, hc⟩ := inputsRead_form { s with att := b, freeCtr := n }
  obtain ⟨a, e, hevents⟩ := attEvents_form ((List.finRange 160).filter (fun i => s.att.arrived.contains i))
    { s with att := c, freeCtr := n }
  have hsaved := congrArg Prod.fst (attEvents_claims ((List.finRange 160).filter (fun i => s.att.arrived.contains i))
    { s with att := c, freeCtr := n })
  have hcfalse : c.saved = false := hc.trans hb
  have heq : s.restored bad = { s with att := a, boot := { s.boot with early := e }, freeCtr := n } := by
    unfold State.restored
    rw [hlost]
    exact (congrArg (State.attEvents _) hread).trans hevents
  refine ⟨a, e, n, heq, ?_⟩
  have ha : ({ s with att := a, boot := { s.boot with early := e }, freeCtr := n } : State).claims.1 = c.saved :=
    (congrArg (fun v : State => v.claims.1) hevents).symm.trans hsaved
  exact ha.trans hcfalse

/-- Attention is restored: nothing else but the events that wait for Release, and what the spec leaves free, moves. -/
theorem restoreAtt_form (bad : RetentionFault) (s : State) : ∃ a e n,
    s.restoreAtt bad = { s with att := a, boot := { s.boot with early := e }, freeCtr := n } ∧ a.saved = false := by
  obtain ⟨a, e, n, hform, ha⟩ := restored_form bad s
  rw [restoreAtt_eq, hform]
  split
  · exact ⟨a.announced, e, n, rfl, (announced_saved a).trans ha⟩
  · exact ⟨(a.selfEvent 4#3).announced, e, n, rfl,
      (announced_saved _).trans ((congrArg Prod.fst (selfEvent_claims a 4#3)).trans ha)⟩

/-! ### What stands as Sleep has ended -/

theorem wakeRetrain_seat (tn : Trained) (s : State) : (s.wakeRetrain tn).seat = s.seat := by
  have hbegin : (if s.tr.link == .up then s.beginRetrain else s).seat = s.seat := keeps_if rfl rfl
  exact keeps_if (π := State.seat) ((seat_trunk.rewind _).trans ((seat_trunk.retrainLanes ..).trans hbegin)) rfl

theorem wakeRetrain_claims (tn : Trained) (s : State) : (s.wakeRetrain tn).claims = s.claims := by
  have hbegin : (if s.tr.link == .up then s.beginRetrain else s).claims = s.claims := keeps_if (π := State.claims) rfl rfl
  exact keeps_if (π := State.claims) ((claims_trunk.rewind _).trans ((claims_trunk.retrainLanes ..).trans hbegin)) rfl

/-- What Sleep held back has acted, and the deferred commands start. -/
def State.sleepEnded (s : State) : State :=
  forEach s.runSleepCmds.releaseHeld.deferredList State.startDeferred s.runSleepCmds.releaseHeld

theorem sleepEnded_poise (s : State) : s.sleepEnded.poise = { s with host := { s.host with sleepResets := [] } }.poise := by
  have hstart (l : List (PortId × QueuedCmd)) (t : State) : (forEach l State.startDeferred t).poise = t.poise :=
    forEach_keeps (π := State.poise) (fun x _ t => poise_blind.startDeferred x t) t
  exact (hstart ..).trans ((poise_blind.releaseHeld _).trans (poise_blind.runSleepCmds s))

theorem sleepEnded_held (s : State) : s.sleepEnded.host.sleepHeld = [] := by
  have hstart (l : List (PortId × QueuedCmd)) (t : State) : (forEach l State.startDeferred t).sleepLoad = t.sleepLoad :=
    forEach_keeps (π := State.sleepLoad) (fun x _ t => sleepLoad_blind.startDeferred x t) t
  exact (congrArg Prod.fst (hstart ..)).trans (releaseHeld_sleepHeld _)

/-- The events of a state that is reached and of a wake are raised, and what waited is built. -/
theorem wokeUp {s : State} (hdue : s.dev.changeDue = false) :
    ((s.powerEvent 5).powerEvent 6).pump.dev = s.dev ∧ ((s.powerEvent 5).powerEvent 6).pump.host = s.host ∧
      ((s.powerEvent 5).powerEvent 6).pump.claims = s.claims ∧
      ((s.powerEvent 5).powerEvent 6).pump.pw.events.getLsbD 5 = true ∧
      ((s.powerEvent 5).powerEvent 6).pump.pw.events.getLsbD 6 = true := by
  obtain ⟨a, c, e, h⟩ := powerEvent_form 5 s
  obtain ⟨a', c', e', h'⟩ := powerEvent_form 6 (s.powerEvent 5)
  have hclaims : ((s.powerEvent 5).powerEvent 6).claims = s.claims := (powerEvent_claims ..).trans (powerEvent_claims ..)
  have hdev : ((s.powerEvent 5).powerEvent 6).dev = s.dev := (powerEvent_dev ..).trans (powerEvent_dev ..)
  have hpump := pump_unbuilt (s := (s.powerEvent 5).powerEvent 6) (by rw [hdev]; exact hdue)
  have hbuilt := claims_trunk.pump (s := (s.powerEvent 5).powerEvent 6) (by rw [hdev]; exact hdue)
  generalize ((s.powerEvent 5).powerEvent 6).pump = t at hpump hbuilt ⊢
  rw [h', h] at hpump
  have ht {β : Type} (g : State → β) : g t.unbuilt = g (State.unbuilt _) := congrArg g hpump
  have hevents : t.pw.events = (s.pw.events ||| oneBit 7 5) ||| oneBit 7 6 := ht fun v => v.pw.events
  refine ⟨ht State.dev, ht State.host, hbuilt.trans hclaims, ?_, ?_⟩
  · rw [hevents, BitVec.getLsbD_or, getLsbD_or_oneBit (i := 5) (by decide)]
    rfl
  · rw [hevents]
    exact getLsbD_or_oneBit (i := 6) (by decide) _

/-- The state in which Sleep ends (R344). -/
def State.wakening (s : State) : State :=
  { s with dev := { s.dev with st := .awake, exiting := false, changing := false, byState := false, changeDue := false } }

section
variable {s : State} (tn : Trained) (bad : RetentionFault)

theorem exec_sleepExitEnd_waits (h : s.tr.ctlQ ≠ [] ∨ s.tr.waitBlk ≠ none) : exec (.sleepExitEnd tn bad) s = .next s := by
  refine congrArg Host.Outcome.next (if_neg ?_)
  obtain h | h := h
  · rw [List.isEmpty_eq_false_iff.mpr h]
    simp
  · rw [Option.isNone_eq_false_iff.mpr (Option.isSome_iff_ne_none.mpr h)]
    simp

theorem exec_sleepExitEnd (hs : s.serving = true) (hst : s.dev.st = .sleep) (hexit : s.dev.exiting = true) (hctl : s.tr.ctlQ = [])
    (hwait : s.tr.waitBlk = none) : exec (.sleepExitEnd tn bad) s =
      .next ((((s.wakening.restoreAtt bad).wakeRetrain tn).sleepEnded.powerEvent 5).powerEvent 6).pump := by
  refine congrArg Host.Outcome.next (if_pos ?_)
  rw [hs, hst, hexit, hctl, hwait]
  rfl

/-- What the end of Sleep leaves of the device, the attention unit and what Sleep held. -/
theorem sleepExitEnd_wakes : ∃ t, ((((s.wakening.restoreAtt bad).wakeRetrain tn).sleepEnded.powerEvent 5).powerEvent 6).pump = t ∧
    t.dev = s.wakening.dev ∧ t.att.saved = false ∧ t.host.sleepHeld = [] ∧ t.host.sleepResets = [] ∧
    t.pw.events.getLsbD 5 = true ∧ t.pw.events.getLsbD 6 = true := by
  obtain ⟨a, e, n, hrestore, ha⟩ := restoreAtt_form bad s.wakening
  have hseat := wakeRetrain_seat tn (s.wakening.restoreAtt bad)
  have hclaims := wakeRetrain_claims tn (s.wakening.restoreAtt bad)
  generalize (s.wakening.restoreAtt bad).wakeRetrain tn = w at hseat hclaims ⊢
  rw [hrestore] at hseat hclaims
  have hdev : w.dev = s.wakening.dev := (congrArg State.dev hseat :)
  have hsaved : w.claims.1 = false := (congrArg Prod.fst hclaims).trans ha
  have hpoise := sleepEnded_poise w
  have hheld := sleepEnded_held w
  generalize w.sleepEnded = u at hpoise hheld ⊢
  have hudev : u.dev = s.wakening.dev := (congrArg Prod.fst hpoise).trans hdev
  obtain ⟨htdev, hthost, htclaims, hdone, hwoke⟩ := wokeUp (s := u) (by rw [hudev]; rfl)
  refine ⟨_, rfl, htdev.trans hudev, ?_, ?_, ?_, hdone, hwoke⟩
  · exact (congrArg Prod.fst htclaims).trans ((congrArg (fun x => x.2.1.1) hpoise).trans hsaved)
  · rw [hthost, hheld]
  · rw [hthost]
    exact congrArg (fun x => x.2.2) hpoise

end

end Sys2Proof.Machine
end

section
/-! SUPPORT. The registers that Sleep shuts, and the obligation on Sleep. -/

namespace Sys2Proof.Machine

section
variable {s : State} (q : Req) (hflow : s.blocksFlow = true) (hstage : s.boot.stage = .released) (hst : s.dev.st = .sleep)
include hflow hstage hst

/-- The claim, attention and counter registers refuse every request. -/
theorem attention_shut (i : SrcId) (k : Fin 5) (v : Word) :
    exec (.claim q i) s = .next (s.acceptBlk.accessError q (0x7000#16 + BitVec.ofNat 16 (4 * i.val)) 1) ∧
      exec (.claimComplete q i) s = .next (s.acceptBlk.accessError q (0x7000#16 + BitVec.ofNat 16 (4 * i.val)) 1) ∧
      exec (.attPendSet q k v) s = .next (s.acceptBlk.accessError q (0x4020#16 + BitVec.ofNat 16 (4 * k.val)) 1) ∧
      exec (.targets q i v) s = .next (s.acceptBlk.accessError q (0x4400#16 + BitVec.ofNat 16 (4 * i.val)) 1) ∧
      exec (.cntClear q v) s = .next (s.acceptBlk.accessError q 0x5204 1) := by
  have hread {a : BitVec 16} (ha : (0x4000 ≤ a.toNat ∧ a.toNat < 0x6000) ∨ 0x7000 ≤ a.toNat) :
      (.next (s.read1 q a) : Out) = .next (s.acceptBlk.accessError q a 1) :=
    congrArg Host.Outcome.next (read1_asleep hflow hstage hst q ha)
  have hwrite {a : BitVec 16} (ha : (0x4000 ≤ a.toNat ∧ a.toNat < 0x6000) ∨ 0x7000 ≤ a.toNat) (v : Word) :
      (.next (s.write1 q a v []) : Out) = .next (s.acceptBlk.accessError q a 1) :=
    congrArg Host.Outcome.next (write1_asleep hflow hstage hst q ha v [])
  have hi := i.isLt
  have hk := k.isLt
  refine ⟨?_, ?_, ?_, ?_, ?_⟩
  · exact hread (a := claimAddr i) (.inr (by rw [claimAddr_toNat]; omega))
  · exact hwrite (a := claimAddr i) (.inr (by rw [claimAddr_toNat]; omega)) 0
  · exact hwrite (a := 0x4020#16 + BitVec.ofNat 16 (4 * k.val)) (.inl (by simp only [BitVec.toNat_add, BitVec.toNat_ofNat]; omega)) v
  · exact hwrite (.inl (by simp only [BitVec.toNat_add, BitVec.toNat_ofNat]; omega)) v
  · exact hwrite (.inl (by decide)) v

/-- The data windows refuse every request. -/
theorem windows_shut (p : PortId) (d : Dir) (v : Word) :
    exec (.pop q p d) s = .next (s.acceptBlk.accessError q (windowAddr p d 0) 1) ∧
      exec (.peek q p d) s = .next (s.acceptBlk.accessError q (windowAddr p d 4) 1) ∧
      exec (.push q p d v) s = .next (s.acceptBlk.accessError q (windowAddr p d 8) 1) := by
  refine ⟨congrArg Host.Outcome.next (read1_asleep hflow hstage hst q (.inr ?_)),
    congrArg Host.Outcome.next (read1_asleep hflow hstage hst q (.inr ?_)),
    congrArg Host.Outcome.next (write1_asleep hflow hstage hst q (.inr ?_) v [])⟩
  all_goals rw [windowAddr_toNat p d (by decide)]; omega

/-- A data block is discarded where it overfills a placement buffer, and else held. -/
theorem hostDataBlock_asleep {b : DataBlk} {rs : List (PortId × List TxItem)} (hrs : blkDecode b = some rs) :
    (s.overfills b (s.blkCells b) = true → exec (.hostDataBlock b) s = exec (.blockDiscard .crc) s) ∧
      (s.overfills b (s.blkCells b) = false → ∃ t, exec (.hostDataBlock b) s = .next t ∧
        t.host.sleepHeld = s.host.sleepHeld ++ [⟨b, s.blkCells b, s.host.accepted + 1, []⟩] ∧
        ∀ o, (t.port o).txq = (s.port o).txq) := by
  refine ⟨fun hover => ?_, fun hfits => ?_⟩
  · have hcrc : exec (.blockDiscard .crc) s = .next s.discardBlk := congrArg Host.Outcome.next (if_neg (by rw [hflow]; decide))
    rw [exec_hostDataBlock_asleep hflow hstage hst hrs, hover, hcrc]
    rfl
  · refine ⟨_, (exec_hostDataBlock_asleep hflow hstage hst hrs).trans (congrArg Host.Outcome.next (if_neg (by rw [hfits]; decide))), ?_,
      fun o => ?_⟩
    · dsimp only
      rw [carryAll_sleepHeld, carryAll_accepted, acceptBlk_sleepHeld, acceptBlk_accepted]
    · exact (carryAll_txq ..).trans (congrArg Port.txq (acceptBlk_port s o))
end

theorem queueCmds_asleep {s : State} (hst : s.dev.st = .sleep) (p : PortId) (d : Dir) :
    ((s.queue p d).flush = .none → ((s.flushCmd p d).queue p d).flush = .waiting s.host.accepted ∧
        ((s.flushCmd p d).queue p d).items = (s.queue p d).items) ∧
      (s.resetCmd p d).host.sleepResets = s.host.sleepResets ++ [{ p := p, d := d, order := s.host.accepted }] ∧
      ((s.resetCmd p d).queue p d).items = (s.queue p d).items ∧ ((s.resetCmd p d).queue p d).flush = .none := by
  refine ⟨fun hnone => ?_, ?_, ?_⟩
  · rw [flushCmd_waits (.inr (by rw [hst]; decide)) hnone, queue_modQueue]
    exact ⟨rfl, rfl⟩
  · rw [resetCmd_asleep hst, cancelFlush_host]
  · rw [resetCmd_asleep hst]
    exact items_cancelFlush

/-- Settles O59: Sleep begins by `retrainEnd_sleeps`; its requests are `deviceReq_exits` and the registers it shuts; it ends by
`sleepExitEnd_wakes`, with `releaseHeld_of_none`, `placeData_tally` and `startDeferred_acts` for what it held. -/
theorem sleepActs : Obligations.SleepActs := by
  unfold Obligations.SleepActs
  refine ⟨?_, ?_, ?_, fun s h => releaseHeld_of_none h, ?_, ?_, ?_⟩
  · intro s tn hon hlink hrest hup hst hsleep hdue
    have hpairs : s.retrainPairs tn ≠ 0 := by rw [retrainPairs_of hrest]; exact hup
    obtain ⟨⟨hst, hchanging, hto⟩, ⟨hlinkup, hwidth, hlocked⟩, hsaved, hdone⟩ := retrainEnd_sleeps hrest hup hsleep hdue
    exact ⟨_, exec_retrainEnd hon hlink hpairs, hst, hchanging, hto, hlinkup, hwidth, hlocked, hsaved, hdone⟩
  · intro s q w ports mids p hflow hstage hst u ok all exits shut
    have hcmd (st : PState) (ms : List Mid) := stateCmd_released hflow hstage q st ports ms
    refine ⟨fun hc => ⟨?_, ?_, fun hq => ?_⟩, fun hc hexit hq hd hbusy => ?_, trkWidthCmd_refuses hflow hstage hst q w, ?_, ?_, ?_,
      fun hrun => ?_, attention_shut q hflow hstage hst, windows_shut q hflow hstage hst p, fun urgent odd ws hpos hmax hp => ?_,
      exec_qwriteComplete_asleep hst q, fun b rs => hostDataBlock_asleep hflow hstage hst, queueCmds_asleep hst p⟩
    · exact congrArg Host.Outcome.next (deviceReq_exits hflow hstage hst q hc (.inl rfl))
    · exact congrArg Host.Outcome.next (deviceReq_exits hflow hstage hst q hc (.inr rfl))
    · exact congrArg Host.Outcome.next (deviceReq_asleep hflow hstage hst q hc hq)
    · exact congrArg Host.Outcome.next (deviceReq_deep hflow hstage q hc hexit hq hd hbusy)
    · exact congrArg Host.Outcome.next (hcmd .off mids rfl)
    · exact congrArg Host.Outcome.next (hcmd .retain mids rfl)
    · exact congrArg Host.Outcome.next (hcmd .ready mids rfl)
    · exact congrArg Host.Outcome.next (hcmd .run [] (by rw [hrun]; rfl))
    · obtain ⟨t, hrun, hqw, hcarried, htxq⟩ := exec_qwrite_waits hflow hstage q hp urgent odd hpos hmax
      exact ⟨t, hrun, htxq, hqw, hcarried⟩
  · intro s tn bad hs hst hexit
    refine ⟨exec_sleepExitEnd_waits tn bad, ?_⟩
    intro hctl hwait r w v
    obtain ⟨a, e, n, hrestore, ha⟩ := restoreAtt_form bad s.wakening
    have hr : r = { s.wakening with att := a, boot := { s.boot with early := e }, freeCtr := n } := hrestore
    obtain ⟨t, ht, hdev, hsaved, hheld, hresets, hdone, hwoke⟩ := sleepExitEnd_wakes (s := s) tn bad
    have hrdev : r.dev = s.wakening.dev := by rw [hr]
    have hrtr : r.tr = s.tr := by rw [hr]; rfl
    refine ⟨by rw [hr]; exact ha, by rw [hr]; rfl, fun hlink hrest hup hsleep => ?_, t, ?_, ht.symm, ?_⟩
    · have hwake := wakeRetrain_width (s := r) (tn := tn) (by rw [hrtr]; exact hlink) (by rw [hrtr]; exact hrest)
        (by rw [hrtr]; exact hup) (by rw [hrdev]; rfl) (by rw [hrdev]; exact hsleep) (by rw [hrdev]; rfl)
      rw [hrtr, hrdev] at hwake
      exact hwake
    · rw [exec_sleepExitEnd tn bad hs hst hexit hctl hwait, ht]
    · rw [hdev]
      exact ⟨rfl, rfl, rfl, rfl, hsaved, hheld, hresets, hdone, hwoke⟩
  · intro s b rs n cells gone p hb hw hp hgone mine y
    have htally := placeData_tally n cells hb hw hp hgone
    exact ⟨congrArg Prod.fst htally, congrArg Prod.snd htally⟩
  · intro s p i o hsinks hflush hblocked hfree hsound
    exact txEnter_bulk o hsinks hflush hblocked hfree hsound
  · intro s
    exact ⟨insertAll_sorted _ [] List.Pairwise.nil, fun p c => ⟨mem_deferredList, startDeferred_acts s p c⟩⟩

end Sys2Proof.Machine
end

section
/-! SUPPORT. The domains come up on the way out of Deep (12 R346, Table 12.8; 13 R370): the store is empty, the port states stand
as they were, the reservations are the shadow's, and attention is restored. -/

namespace Sys2Proof.Machine

/-- What the loads and the store's start make of a port: its state, the items of its queues and its reservations. -/
def Port.stores (x : Port) : PState × Nat × Nat × BitVec 12 × BitVec 12 :=
  (x.st, x.rxq.items, x.txq.items, x.resvRx, x.resvTx)

theorem stores_of_unmarked {x y : Port} (h : x.unmarked = y.unmarked) : x.stores = y.stores := by
  have hs : x.unmarked.stores = y.unmarked.stores := congrArg Port.stores h
  exact hs

theorem stores_setQueue (x : Port) (d : Dir) {q : Queue} (h : q.items = (x.queue d).items) : (x.setQueue d q).stores = x.stores := by
  cases d
  · exact congrArg (fun n => (x.st, n, x.txq.items, x.resvRx, x.resvTx)) h
  · exact congrArg (fun n => (x.st, x.rxq.items, n, x.resvRx, x.resvTx)) h

theorem putQueue_stores (p : PortId) (d : Dir) {q : Queue} (n : Nat) (s : State) (h : q.items = (s.queue p d).items) :
    ((s.putQueue p d q n).port p).stores = (s.port p).stores :=
  (stores_of_unmarked (unmarked_of_berth (putQueue_berth p s d q n))).trans (stores_setQueue (s.port p) d h)

theorem setResv_rx_stores (p : PortId) (n : BitVec 12) (s : State) : ((s.setResv p .rx n).port p).stores =
    ((s.port p).st, (s.port p).rxq.items, (s.port p).txq.items, n, (s.port p).resvTx) := by
  have hport : (s.modPort p (fun x => { x with resvRx := n })).port p = { s.port p with resvRx := n } := State.port_modPort ..
  unfold State.setResv
  extract_lets q own total free u
  have hu : u.port p = { s.port p with resvRx := n } := hport
  refine (putQueue_stores p .rx _ u ?_).trans (congrArg Port.stores hu)
  change q.items = ((u.port p).queue .rx).items
  rw [hu]
  rfl

theorem setResv_tx_stores (p : PortId) (n : BitVec 12) (s : State) : ((s.setResv p .tx n).port p).stores =
    ((s.port p).st, (s.port p).rxq.items, (s.port p).txq.items, (s.port p).resvRx, n) := by
  have hport : (s.modPort p (fun x => { x with resvTx := n })).port p = { s.port p with resvTx := n } := State.port_modPort ..
  unfold State.setResv
  extract_lets q own total free u
  have hu : u.port p = { s.port p with resvTx := n } := hport
  refine (putQueue_stores p .tx _ u ?_).trans (congrArg Port.stores hu)
  change q.items = ((u.port p).queue .tx).items
  rw [hu]
  rfl

theorem setResvs_stores (p : PortId) (a b : BitVec 12) (s : State) : (((s.setResv p .rx a).setResv p .tx b).port p).stores =
    ((s.port p).st, (s.port p).rxq.items, (s.port p).txq.items, a, b) := by
  have hrx := setResv_rx_stores p a s
  have htx := setResv_tx_stores p b (s.setResv p .rx a)
  generalize s.setResv p .rx a = u at hrx htx ⊢
  obtain ⟨hst, hr, ht, hresv⟩ : (u.port p).st = (s.port p).st ∧ (u.port p).rxq.items = (s.port p).rxq.items ∧
      (u.port p).txq.items = (s.port p).txq.items ∧ (u.port p).resvRx = a :=
    ⟨congrArg (·.1) hrx, congrArg (·.2.1) hrx, congrArg (·.2.2.1) hrx, congrArg (·.2.2.2.1) hrx⟩
  rw [htx, hst, hr, ht, hresv]

/-- The reservation of a port in the shadow. -/
def Boot.resvOf (b : Boot) (p : PortId) : Word := b.shadow.resv[p]

/-- A port's reservations are those of the shadow; its state and its items stay. -/
theorem loadResv_stores (p : PortId) (s : State) : ((s.loadResv p).port p).stores =
    ((s.port p).st, (s.port p).rxq.items, (s.port p).txq.items, bits (s.boot.resvOf p) 0 12, bits (s.boot.resvOf p) 16 12) := by
  have hloaded (t : State) : (State.resvLoaded p t).port p = t.port p := rfl
  unfold State.loadResv
  rw [hloaded]
  exact setResvs_stores ..

/-- A port whose queues are new. -/
def Port.emptied (x : Port) : Port := { (x.renewQueue .rx {}).renewQueue .tx {} with lossFrom := none }

theorem renewQueues_holds (x : Port) (q r : Queue) : ((x.renewQueue .rx q).renewQueue .tx r).st = x.st ∧
    ((x.renewQueue .rx q).renewQueue .tx r).rxq = q ∧ ((x.renewQueue .rx q).renewQueue .tx r).txq = r := ⟨rfl, rfl, rfl⟩

theorem emptied_holds (x : Port) : x.emptied.st = x.st ∧ x.emptied.rxq.items = 0 ∧ x.emptied.txq.items = 0 := by
  obtain ⟨hst, hrx, htx⟩ := renewQueues_holds x {} {}
  exact ⟨hst, congrArg Queue.items hrx, congrArg Queue.items htx⟩

/-- A port as the store comes up (R187, R384). -/
def State.portUp (p : PortId) (t : State) : State := (t.modPort p Port.emptied).loadResv p

theorem portUp_stores (p : PortId) (s : State) : ((s.portUp p).port p).stores =
    ((s.port p).st, 0, 0, bits (s.boot.resvOf p) 0 12, bits (s.boot.resvOf p) 16 12) := by
  obtain ⟨hst, hrx, htx⟩ := emptied_holds (s.port p)
  have hboot : (s.modPort p Port.emptied).boot = s.boot := rfl
  unfold State.portUp
  rw [loadResv_stores, State.port_modPort, hst, hrx, htx, hboot]

theorem portUp_st (p : PortId) (s : State) : ((s.portUp p).port p).st = (s.port p).st := by
  have h := portUp_stores p s
  generalize (s.portUp p).port p = x at h ⊢
  exact congrArg Prod.fst h

theorem port_portUp_ne {p q : PortId} (h : q ≠ p) (s : State) : (s.portUp p).port q = s.port q :=
  (port_of_loadResv h _).trans (State.port_modPort_ne _ _ h)

theorem portUp_afar (p : PortId) (s : State) : (s.portUp p).afar = s.afar := (loadResv_afar ..).trans (modPort_afar ..)

theorem resvOf_of_afar {s t : State} (h : t.afar = s.afar) (p : PortId) : t.boot.resvOf p = s.boot.resvOf p := by
  have himage : t.boot.image = s.boot.image := (congrArg (fun v : State => v.boot.image) h :)
  have hupsets : t.boot.upsets = s.boot.upsets := (congrArg (fun v : State => v.boot.upsets) h :)
  unfold Boot.resvOf Boot.shadow
  rw [himage, hupsets]

/-- The store comes up empty, the port states as they were. -/
theorem initStore_stores (s : State) {p : PortId} (hp : s.present p = true) : (s.initStore.port p).stores =
    ((s.port p).st, 0, 0, bits (s.boot.resvOf p) 0 12, bits (s.boot.resvOf p) 16 12) := by
  let u : State := { s with regions := s.regions.map (fun y => { y with pool := Config.bankSegments, poolUpsets := [],
                                                                        poolMin := Config.bankSegments, reclaim := false }) }
  have hinit : s.initStore.port p = (forEach s.presentPorts State.portUp u).port p := rfl
  rw [hinit]
  refine port_forEach_of_mem (f := State.portUp) (key := id) (xs := s.presentPorts) (q := p) (s := u)
    (I := fun t => t.boot.resvOf p = s.boot.resvOf p ∧ (t.port p).st = (s.port p).st)
    (P := fun x => x.stores = ((s.port p).st, 0, 0, bits (s.boot.resvOf p) 0 12, bits (s.boot.resvOf p) 16 12))
    (by
      rintro q t ⟨hshadow, hst⟩
      refine ⟨(resvOf_of_afar (portUp_afar q t) p).trans hshadow, ?_⟩
      by_cases hq : p = q
      · subst hq
        exact (portUp_st p t).trans hst
      · rw [port_portUp_ne hq, hst])
    (fun q t _ hq => port_portUp_ne hq t)
    (by
      rintro q t ⟨hshadow, hst⟩ (rfl : q = p)
      rw [portUp_stores, hshadow, hst])
    ⟨p, mem_presentPorts hp, rfl⟩ ⟨rfl, rfl⟩

theorem port_forEach_loadThresh_st (ps : List PortId) (s : State) (p : PortId) :
    ((forEach ps State.loadThresh s).port p).st = (s.port p).st := by
  refine forEach_keeps (π := fun t : State => (t.port p).st) (fun q _ t => ?_) s
  by_cases hq : p = q
  · subst hq
    unfold State.loadThresh
    rw [State.port_modPort]
  · unfold State.loadThresh
    rw [State.port_modPort_ne _ _ hq]

theorem loadAll_st (s : State) {p : PortId} (hp : s.present p = true) : (s.loadAll.port p).st = (s.port p).st := by
  refine (port_forEach_loadThresh_st ..).trans ?_
  rw [port_loadImg hp]
  rfl

/-- What the domains show as they come up. -/
structure BroughtUp (s t : State) : Prop where
  boot : t.afar.boot = s.afar.boot
  kept : t.dev = s.dev ∧ t.pw = s.pw ∧ t.flash = s.flash
  resvOf : ∀ p, t.boot.resvOf p = s.boot.resvOf p
  present : ∀ p, t.present p = s.present p
  saved : t.att.saved = false
  stores : ∀ p, s.present p = true → (t.port p).stores =
    ((s.port p).st, 0, 0, bits (s.boot.resvOf p) 0 12, bits (s.boot.resvOf p) 16 12)

theorem bringUp_broughtUp (s : State) : BroughtUp s s.bringUp := by
  have hafar : s.loadAll.initStore.afar = s.afar := (initStore_afar _).trans (loadAll_afar s)
  have hload : s.loadAll.afar = s.afar := loadAll_afar s
  have hstores {p : PortId} (hp : s.present p = true) := initStore_stores s.loadAll (p := p)
    ((congrArg (fun v : State => v.present p) hload :).trans hp)
  obtain ⟨a, e, n, hrestore, ha⟩ := restoreAtt_form s.boot.retentionBad s.loadAll.initStore
  have hup : s.bringUp = _ := hrestore
  rw [hup]
  refine ⟨?_, ⟨?_, ?_, ?_⟩, fun p => ?_, fun p => ?_, ha, fun p hp => ?_⟩
  · exact (congrArg State.boot hafar :)
  · exact (congrArg State.dev hafar :)
  · exact (congrArg State.pw hafar :)
  · exact (congrArg State.flash hafar :)
  · exact resvOf_of_afar hafar p
  · exact (congrArg (fun v : State => v.present p) hafar :)
  · refine (hstores hp).trans ?_
    rw [loadAll_st s hp, resvOf_of_afar hload]

end Sys2Proof.Machine
end

section
/-! SUPPORT. The wake tone, the passes of Kiln and Slip on the way out of Deep, and the training that follows (12 R346; 13 R370;
08 R223). -/

namespace Sys2Proof.Machine

/-! ### The shadows' checks -/

theorem fuseShadowFails_iff (v : Vector Word 32) : fuseShadowFails v = true ↔ ∃ w : Fin 32, w ≠ 3 ∧ evenParity v[w] = false := by
  unfold fuseShadowFails
  rw [List.any_eq_true]
  simp

theorem shadowFails_iff (b : Boot) : b.shadowFails = true ↔ ∃ u, u ∈ b.upsets ∧ evenParity (b.flipsOf u.word) = false := by
  unfold Boot.shadowFails Boot.torn
  rw [List.any_eq_true]
  simp

/-! ### The wake tone -/

/-- The state as the wake tone has powered the domains and checked the shadows. -/
def State.toned (fuses : List (Fin 32 × Word)) (image : List ShadowUpset) (bad : RetentionFault) (s : State) : State :=
  { s with
    boot := { s.boot with
      fuseShadow := s.upsetFuses fuses, upsets := s.boot.upsets ++ image, retentionBad := bad
      rerunKiln := fuseShadowFails (s.upsetFuses fuses)
      rerunSlip := ({ s.boot with upsets := s.boot.upsets ++ image } : Boot).shadowFails }
    dev := { s.dev with exiting := true }, pw := { s.pw with events := 0 } }

section
variable {s : State} {fuses : List (Fin 32 × Word)} {image : List ShadowUpset} {bad : RetentionFault}

theorem exec_wakeTone (hstage : s.boot.stage = .released) (hon : s.pw.inputOn = true) (hst : s.dev.st = .deep)
    (hexit : s.dev.exiting = false) : exec (.wakeTone fuses image bad) s = .next
      (if (s.toned fuses image bad).boot.rerunKiln || (s.toned fuses image bad).boot.rerunSlip then s.toned fuses image bad
        else (s.toned fuses image bad).bringUp) := by
  refine congrArg Host.Outcome.next (if_pos ?_)
  rw [State.released, hstage, hon, hst, hexit]
  rfl

theorem toned_rerunKiln : (s.toned fuses image bad).boot.rerunKiln = true ↔
    ∃ w : Fin 32, w ≠ 3 ∧ evenParity (s.upsetFuses fuses)[w] = false := fuseShadowFails_iff _

theorem toned_rerunSlip : (s.toned fuses image bad).boot.rerunSlip = true ↔
    ∃ u, u ∈ s.boot.upsets ++ image ∧
      evenParity (({ s.boot with upsets := s.boot.upsets ++ image } : Boot).flipsOf u.word) = false := shadowFails_iff _

end

/-- What the boot state shows of a device whose domains have come up: no pass is to run again where none was. -/
theorem boot_of_broughtUp {s t : State} (h : BroughtUp s t) : t.boot.fuseShadow = s.boot.fuseShadow ∧
    t.boot.rerunKiln = s.boot.rerunKiln ∧ t.boot.rerunSlip = s.boot.rerunSlip ∧ t.boot.stage = s.boot.stage ∧
    t.boot.fuseArray = s.boot.fuseArray :=
  have hboot := h.boot
  ⟨(congrArg Boot.fuseShadow hboot :), (congrArg Boot.rerunKiln hboot :), (congrArg Boot.rerunSlip hboot :),
    (congrArg Boot.stage hboot :), (congrArg Boot.fuseArray hboot :)⟩

/-- What a port shows whose domain has come up. -/
theorem port_of_broughtUp {s t : State} (h : BroughtUp s t) {p : PortId} (hp : t.present p = true) :
    (t.port p).st = (s.port p).st ∧ (t.port p).rxq.items = 0 ∧ (t.port p).txq.items = 0 ∧
      (t.port p).resvRx = bits (t.boot.resvOf p) 0 12 ∧ (t.port p).resvTx = bits (t.boot.resvOf p) 16 12 := by
  have hstores := h.stores p ((h.present p).symm.trans hp)
  rw [h.resvOf p]
  generalize t.port p = x at hstores
  exact ⟨congrArg (·.1) hstores, congrArg (·.2.1) hstores, congrArg (·.2.2.1) hstores, congrArg (·.2.2.2.1) hstores,
    congrArg (·.2.2.2.2) hstores⟩

/-! ### Kiln and Slip again (R370) -/

theorem imgLoaded_st (m : Image) (p : PortId) (x : Port) : (x.imgLoaded m p).st = x.st := rfl

/-- The way out of Deep is through, the domains up. -/
def State.OutOfDeep (s t : State) : Prop :=
  t.boot.rerunKiln = false ∧ t.boot.rerunSlip = false ∧ t.boot.stage = .released ∧ t.att.saved = false ∧
    ∀ o, t.present o = true → (t.port o).st = (s.port o).st ∧ (t.port o).rxq.items = 0 ∧ (t.port o).txq.items = 0 ∧
      (t.port o).resvRx = bits (t.boot.resvOf o) 0 12 ∧ (t.port o).resvTx = bits (t.boot.resvOf o) 16 12

theorem outOfDeep {s u t : State} (h : BroughtUp u t) (hkiln : u.boot.rerunKiln = false) (hslip : u.boot.rerunSlip = false)
    (hstage : u.boot.stage = .released) (hports : ∀ o, u.present o = true → (u.port o).st = (s.port o).st) : s.OutOfDeep t := by
  obtain ⟨-, hk, hs, hst, -⟩ := boot_of_broughtUp h
  refine ⟨hk.trans hkiln, hs.trans hslip, hst.trans hstage, h.saved, fun o ho => ?_⟩
  obtain ⟨hport, hrest⟩ := port_of_broughtUp h ho
  exact ⟨hport.trans (hports o ((h.present o).symm.trans ho)), hrest⟩

section
variable {s : State} (hon : s.pw.inputOn = true) (hstage : s.boot.stage = .released) (hst : s.dev.st = .deep)
  (hexit : s.dev.exiting = true)
include hon hstage hst hexit

theorem kilnRuns_again (hk : s.boot.rerunKiln = true) : s.kilnRuns = true := by
  unfold State.kilnRuns
  rw [State.released, hon, hstage, hst, hexit, hk]
  rfl

theorem slipRuns_again (hk : s.boot.rerunKiln = false) (hs : s.boot.rerunSlip = true) : s.slipRuns = true := by
  unfold State.slipRuns
  rw [State.released, hon, hstage, hst, hexit, hk, hs]
  rfl

/-- A Kiln pass that leaves no pass to run brings the domains up. -/
theorem kilnAttempt_bringsUp (flips : List (Fin 32 × Word)) (reads : KilnReads) (hk : s.boot.rerunKiln = true)
    (hs : s.boot.rerunSlip = false) (hgood : firstBadFuse (s.kilnReads flips) = none) :
    ∃ t, exec (.kilnAttempt flips reads) s = .next t ∧ t.boot.fuseShadow = s.kilnReads flips ∧ s.OutOfDeep t := by
  let u : State := { s.fusesRead flips with boot := { (s.fusesRead flips).boot with
    fuseShadow := s.kilnReads flips, kilnRetries := BitVec.ofNat 2 (s.fusesRead flips).boot.attempts, attempts := 0,
    bedTrimmed := true, rerunKiln := false } }
  have hpass : (s.fusesRead flips).kilnPasses (s.kilnReads flips) reads.lineIssue = u.bringUp := by
    unfold State.kilnPasses
    have hnot : (u.boot.stage == .kiln) = false := by
      rw [show u.boot.stage = s.boot.stage from rfl, hstage]
      rfl
    have hslip : u.boot.rerunSlip = false := hs
    exact (if_neg (by rw [hnot]; decide)).trans (if_neg (by rw [hslip]; decide))
  have hup := bringUp_broughtUp u
  refine ⟨u.bringUp, ?_, ?_, outOfDeep hup rfl hs hstage fun _ _ => rfl⟩
  · rw [exec_kilnAttempt (kilnRuns_again hon hstage hst hexit hk), hgood]
    exact congrArg Host.Outcome.next hpass
  · exact (boot_of_broughtUp hup).1

/-- A Slip pass brings the domains up. -/
theorem slip_bringsUp (hk : s.boot.rerunKiln = false) (hs : s.boot.rerunSlip = true) :
    ∃ t, exec .slip s = .next t ∧ s.OutOfDeep t := by
  let u : State := { s.slipLoaded with boot := { s.slipLoaded.boot with rerunSlip := false } }
  obtain ⟨bad, early, ev, hboot, -⟩ := slipLoaded_boot s
  have hstage' : s.slipLoaded.boot.stage = .released := by
    rw [hboot]
    exact hstage
  have hkiln : s.slipLoaded.boot.rerunKiln = false := by
    rw [hboot]
    exact hk
  have hfuses : s.slipLoaded.boot.fuseShadow = s.boot.fuseShadow := by
    rw [hboot]
    rfl
  have hpresent (o : PortId) : u.present o = s.present o := by
    unfold State.present State.presentMask
    rw [show u.boot.fuseShadow = s.boot.fuseShadow from hfuses]
  have hnot : (s.slipLoaded.boot.stage == .slip) = false := by
    rw [hstage']
    rfl
  refine ⟨u.bringUp, congrArg Host.Outcome.next ((if_pos (slipRuns_again hon hstage hst hexit hk hs)).trans ?_),
    outOfDeep (bringUp_broughtUp u) hkiln rfl hstage' fun o ho => ?_⟩
  · exact if_neg (c := (s.slipLoaded.boot.stage == .slip) = true) (by rw [hnot]; decide)
  · have hport : u.port o = ((s.port o).withDefault s.slipImage).imgLoaded s.slipImage o :=
      port_slipLoaded ((hpresent o).symm.trans ho)
    rw [hport, imgLoaded_st]
    unfold Port.withDefault
    split <;> rfl

end

/-! ### The full training begins (R223) -/

theorem exec_trainingStart {s : State} (hon : s.pw.inputOn = true) (hstage : s.boot.stage = .released) (hlink : s.tr.link = .down)
    (hst : s.dev.st = .deep) : exec .trainingStart s = .next (if s.deepReady then { s with
      tr := { s.tr with link := .training }
      ties := s.ties.map (fun g => { g with disturbed := g.disturbed || g.opened }) } else s) := by
  have hgo : (s.pw.inputOn && s.tr.link == .down &&
      (s.boot.stage == .training || s.boot.stage == .halted || (s.released && (s.dev.st != .deep || s.deepReady)))) = s.deepReady := by
    rw [State.released, hon, hlink, hstage, hst]
    rfl
  unfold exec
  refine congrArg Host.Outcome.next ?_
  rw [hgo]

theorem deepReady_iff {s : State} (hst : s.dev.st = .deep) : s.deepReady = true ↔
    s.dev.exiting = true ∧ s.boot.rerunKiln = false ∧ s.boot.rerunSlip = false := by
  unfold State.deepReady
  rw [hst]
  simp [and_assoc]

end Sys2Proof.Machine
end

section
/-! SUPPORT. A FRESH training restarts the trunk's numbers, the ports' counts and the claims (08 R239, R248; 09 R278; 11 R318). -/

namespace Sys2Proof.Machine

/-! ### A port's counts restart -/

/-- A port whose counts restart, with `placed` in P (R272, Table 8.21). -/
def Port.restarted (placed : BitVec 24) (x : Port) : Port :=
  { x with placed := placed, carried := 0, limitGiven := false, limitSent := 0, rxLimit := 0, rxLimitGiven := false, rxCarried := 0,
           portLossUnknown := true }

/-- What a port shows whose counts have restarted. -/
def Port.Fresh (x : Port) : Prop :=
  x.carried = 0 ∧ x.limitGiven = false ∧ x.rxCarried = 0 ∧ x.rxLimitGiven = false ∧ x.portLossUnknown = true

theorem restarted_fresh (n : BitVec 24) (x : Port) : (x.restarted n).Fresh := ⟨rfl, rfl, rfl, rfl, rfl⟩

theorem fresh_of_stock {x y : Port} (h : x.stock = y.stock) (hy : y.Fresh) : x.Fresh := by
  have hx : x.stock.Fresh := by
    rw [h]
    exact hy
  exact hx

theorem placed_of_stock {x y : Port} (h : x.stock = y.stock) : x.placed = y.placed := by
  have hp : x.stock.placed = y.stock.placed := congrArg Port.placed h
  exact hp

theorem freshPort_awake {s : State} (h : s.dev.st ≠ .sleep) (p : PortId) (o : Nat) :
    s.freshPort p o = ((s.enterQwrites p (o + 1)).modPort p (Port.restarted 0)).freshLoss p o := by
  have hst : (s.dev.st == .sleep) = false := beq_eq_false_iff_ne.mpr h
  unfold State.freshPort
  dsimp only
  rw [hst]
  rfl

theorem freshPort_asleep {s : State} (h : s.dev.st = .sleep) (p : PortId) (o : Nat) :
    s.freshPort p o = { s.modPort p (Port.restarted (-(s.waitingCells p))) with
      host := { s.host with sleepFresh := s.host.sleepFresh ++ [(p, o)] } } := by
  unfold State.freshPort
  dsimp only
  rw [h]
  rfl

theorem SleepBlind.freshPort {α : Type} {π : State → α} (hv : SleepBlind π) (p o s) : π (State.freshPort p o s) = π s := by
  by_cases h : s.dev.st = .sleep
  · rw [freshPort_asleep h]
    exact (hv.fresh (s.modPort p (Port.restarted (-(s.waitingCells p)))) _).trans (hv.modPort ..)
  · rw [freshPort_awake h]
    exact (hv.freshLoss ..).trans ((hv.modPort ..).trans (hv.enterQwrites ..))

theorem freshLoss_stock (p : PortId) (o : Nat) (s : State) : ((s.freshLoss p o).port p).stock = (s.port p).stock := by
  have hb := stock_blind p
  unfold State.freshLoss
  exact (hb.tieSync _).trans ((hb.tryGap ..).trans ((hb.addLoss ..).trans (hb.lossSince ..)))

theorem port_freshPort_ne {p q : PortId} (hq : q ≠ p) (o : Nat) (s : State) : (s.freshPort p o).port q = s.port q := by
  have hb := port_blind hq
  have henter : (s.enterQwrites p (o + 1)).port q = s.port q := by
    unfold State.enterQwrites
    exact forEach_keeps (π := fun t : State => t.port q) (fun _ _ _ => hb.toItemBlind.txEnter ..) _
  have hmod (f : Port → Port) (t : State) : (t.modPort p f).port q = t.port q := State.port_modPort_ne t f hq
  by_cases h : s.dev.st = .sleep
  · rw [freshPort_asleep h]
    exact hmod _ s
  · rw [freshPort_awake h]
    unfold State.freshLoss
    exact (hb.toItemBlind.tieSync _).trans ((hb.toItemBlind.tryGap ..).trans ((hb.toItemBlind.addLoss ..).trans
      ((hb.toItemBlind.lossSince ..).trans ((hmod ..).trans henter))))

theorem port_freshPort {p : PortId} (o : Nat) (s : State) : ((s.freshPort p o).port p).Fresh ∧
    (s.dev.st = .awake → ((s.freshPort p o).port p).placed = 0) ∧
    (s.dev.st = .sleep → ((s.freshPort p o).port p).txq = (s.port p).txq) := by
  by_cases h : s.dev.st = .sleep
  · have hport : (s.freshPort p o).port p = (s.port p).restarted (-(s.waitingCells p)) := by
      rw [freshPort_asleep h]
      exact State.port_modPort ..
    rw [hport]
    exact ⟨restarted_fresh .., fun ha => absurd (h.symm.trans ha) (by decide), fun _ => rfl⟩
  · rw [freshPort_awake h]
    generalize s.enterQwrites p (o + 1) = u
    have hstock := freshLoss_stock p o (u.modPort p (Port.restarted 0))
    rw [State.port_modPort] at hstock
    exact ⟨fresh_of_stock hstock (restarted_fresh ..), fun _ => placed_of_stock hstock, fun ha => absurd ha h⟩

/-- Every present port's counts restart. -/
theorem port_freshPorts {ps : List PortId} {p : PortId} (hp : p ∈ ps) (o : Nat) (s : State) :
    let x := (forEach ps (fun q t => t.freshPort q o) s).port p
    x.Fresh ∧ (s.dev.st = .awake → x.placed = 0) ∧ (s.dev.st = .sleep → x.txq = (s.port p).txq) := by
  refine port_forEach_of_mem (f := fun q t => State.freshPort q o t) (key := id) (xs := ps) (q := p) (s := s)
    (I := fun t => t.dev.st = s.dev.st ∧ (s.dev.st = .sleep → (t.port p).txq = (s.port p).txq))
    (P := fun x => x.Fresh ∧ (s.dev.st = .awake → x.placed = 0) ∧ (s.dev.st = .sleep → x.txq = (s.port p).txq))
    ?_ (fun q t _ hq => port_freshPort_ne hq o t) ?_ ⟨p, hp, rfl⟩ ⟨rfl, fun _ => rfl⟩
  · rintro q t ⟨hst, htxq⟩
    refine ⟨(congrArg (fun v : Dev × _ => v.1.st) (poise_blind.freshPort q o t)).trans hst, fun ha => ?_⟩
    by_cases hq : p = q
    · subst hq
      exact ((port_freshPort o t).2.2 (hst.trans ha)).trans (htxq ha)
    · rw [port_freshPort_ne hq, htxq ha]
  · rintro q t ⟨hst, htxq⟩ (rfl : q = p)
    obtain ⟨hfresh, hplaced, hq⟩ := port_freshPort (p := q) o t
    exact ⟨hfresh, fun ha => hplaced (hst.trans ha), fun ha => (hq (hst.trans ha)).trans (htxq ha)⟩

/-- In Sleep each present port is owed its GAP. -/
theorem sleepFresh_freshPorts {s : State} (h : s.dev.st = .sleep) (o : Nat) (ps : List PortId) :
    (forEach ps (fun q t => t.freshPort q o) s).host.sleepFresh = s.host.sleepFresh ++ ps.map (fun q => (q, o)) := by
  induction ps generalizing s with
  | nil => exact (List.append_nil _).symm
  | cons p ps ih =>
    have hst : (s.freshPort p o).dev.st = .sleep :=
      (congrArg (fun v : Dev × _ => v.1.st) (poise_blind.freshPort p o s)).trans h
    have hnext : (s.freshPort p o).host.sleepFresh = s.host.sleepFresh ++ [(p, o)] := by rw [freshPort_asleep h]
    rw [forEach_cons, ih hst, hnext, List.map_cons, List.append_assoc]
    rfl

end Sys2Proof.Machine
end

section
/-! SUPPORT. What a FRESH training after release leaves (08 R239, R248; 09 R278; 11 R318). -/

namespace Sys2Proof.Machine

/-! ### Every claim ends -/

theorem fresh_claimed (q : Src) : q.fresh.claimed = false := by
  have hlast (x : Src) (h : x.claimed = false) : (if x.pend then { x with noticed := 0 } else x).claimed = false := by
    split <;> exact h
  unfold Src.fresh
  refine hlast _ ?_
  cases h : q.claimed
  · exact h
  · rfl

/-- No source is claimed. -/
def Att.Unclaimed (a : Att) : Prop := ∀ i : SrcId, a.srcs[i].claimed = false

theorem unclaimed_of_claims {a b : Att} (h : a.claims = b.claims) (hb : b.Unclaimed) : a.Unclaimed := by
  intro i
  have hi := congrArg (fun c : Bool × Vector Bool 160 => c.2[i]) h
  simp only [Att.claims, Fin.getElem_fin, Vector.getElem_map] at hi
  exact hi.trans (hb i)

theorem attFresh_unclaimed (a : Att) : a.fresh.Unclaimed := by
  refine unclaimed_of_claims (noTargets_claims _ (a.putAll (List.finRange 160) (fun _ q => q.fresh))) fun i => ?_
  rw [putAll_srcs_of_mem a (List.nodup_finRange 160) _ (List.mem_finRange i)]
  exact fresh_claimed _

/-! ### The stages -/

/-- The items of the data blocks lost are owed in GAPs, and shown where a stub has not shown them. -/
def State.lossesOwed (s : State) : State :=
  forEach (s.tr.stored.filter (fun b => !b.body.isCtl)) (fun b t => forEach b.lossCounts (fun c u =>
    let u := u.modPort c.1 (fun x => { x with freshGap := min (x.freshGap + c.2) Config.maxLoss })
    if b.stub then u else u.trkLoss c.1 c.2) t) s

/-- The built data blocks that wait for their numbers (R248; log 152). -/
def Trunk.waiting (t : Trunk) : List BlkBody :=
  match t.waitBlk with
  | some b => if b.isCtl then t.heldBlks else b :: t.heldBlks
  | none => t.heldBlks

/-- The trunk whose numbers restart. -/
def Trunk.renumbered (t : Trunk) : Trunk :=
  { t with stored := [], txNext := 0, rxExpect := 0, sinceAck := 0, nakFor := none, waitBlk := none, heldBlks := t.waiting,
           ctlQ := [], stalled := false, passing := false }

/-- Every present port's counts restart. -/
def State.portsFresh (s : State) : State := forEach s.presentPorts (fun p t => t.freshPort p s.host.accepted) s

/-- Every earlier request of the host, and every claim, ends. -/
def State.requestsEnded (s : State) : State :=
  let left := if s.dev.st == .sleep then s.host.writes.filter (fun w => !w.left.isEmpty) else []
  let s := { s with host := { s.host with commits := [], qwrites := [], stalls := [], sleepWrites := left } }
  { s with att := s.att.fresh }

theorem freshRestart_eq (s : State) : s.freshRestart = (s.lossesOwed.modTr Trunk.renumbered).portsFresh.requestsEnded := rfl

/-- What the loss of the blocks and the restart of the ports' counts leave alone. -/
def State.still (s : State) : Dev × Svc × Power × Trunk × BitVec 16 × Nat × List Host.Cell :=
  (s.dev, s.svc, s.pw, s.tr, s.presentMask, s.host.accepted, s.flash)

theorem still_blind : SleepBlind State.still where
  modPort _ _ _ := rfl
  modRegion _ _ _ := rfl
  modTie _ _ _ := rfl
  attEvent i s := by
    obtain ⟨a, e, h⟩ := attEvent_form i s
    rw [h]
    rfl
  attFall _ _ := rfl
  count code s := by
    obtain ⟨a, c, e, h⟩ := count_form code s
    rw [h]
    rfl
  hostError b s := by
    obtain ⟨a, c, e, h⟩ := hostError_form b s
    rw [h]
    rfl
  loaded _ _ _ := rfl
  upsetShadow _ := rfl
  writes _ _ := rfl
  fresh _ _ := rfl
  held _ _ := rfl
  sleepWrites _ _ := rfl

theorem lossesOwed_still (s : State) : s.lossesOwed.still = s.still := by
  refine forEach_keeps (π := State.still) (fun b _ t => forEach_keeps (π := State.still) (fun c _ u => ?_) t) s
  exact keeps_if (π := State.still) rfl rfl

/-- The losses leave a port its transmit queue. -/
theorem lossesOwed_txq (s : State) (p : PortId) : (s.lossesOwed.port p).txq = (s.port p).txq := by
  have hmod (q : PortId) (f : Port → Port) (hf : ∀ x, (f x).txq = x.txq) (t : State) : ((t.modPort q f).port p).txq = (t.port p).txq := by
    by_cases hq : p = q
    · subst hq
      rw [State.port_modPort, hf]
    · rw [State.port_modPort_ne t f hq]
  refine forEach_keeps (π := fun t : State => (t.port p).txq) (fun b _ t =>
    forEach_keeps (π := fun t : State => (t.port p).txq) (fun c _ u => ?_) t) s
  have hgap := hmod c.1 (fun x => { x with freshGap := min (x.freshGap + c.2) Config.maxLoss }) (fun _ => rfl) u
  exact keeps_if (π := fun t : State => (t.port p).txq) hgap
    ((hmod c.1 (fun x => { x with portLoss := satAdd x.portLoss c.2 }) (fun _ => rfl) _).trans hgap)

/-! ### What it leaves -/

/-- What a FRESH training after release leaves. -/
structure FreshlyRestarted (s t : State) : Prop where
  dev : t.dev = s.dev
  svc : t.svc = s.svc
  pw : t.pw = s.pw
  tr : t.tr = s.tr.renumbered
  flash : t.flash = s.flash
  requests : t.host.commits = [] ∧ t.host.qwrites = [] ∧ t.host.stalls = []
  claims : t.att.Unclaimed
  ports : ∀ p, s.present p = true → (t.port p).Fresh ∧ (s.dev.st = .awake → (t.port p).placed = 0) ∧
    (s.dev.st = .sleep → (t.port p).txq = (s.port p).txq ∧ (p, s.host.accepted) ∈ t.host.sleepFresh)

theorem freshRestart_restarts (s : State) : FreshlyRestarted s s.freshRestart := by
  let u := s.lossesOwed.modTr Trunk.renumbered
  have hlost := lossesOwed_still s
  have hdev : u.dev = s.dev := congrArg (·.1) hlost
  have hsvc : u.svc = s.svc := congrArg (·.2.1) hlost
  have hpw : u.pw = s.pw := congrArg (·.2.2.1) hlost
  have htr : u.tr = s.tr.renumbered := congrArg (fun v : Dev × Svc × Power × Trunk × BitVec 16 × Nat × List Host.Cell =>
    v.2.2.2.1.renumbered) hlost
  have hmask : u.presentMask = s.presentMask := congrArg (·.2.2.2.2.1) hlost
  have haccepted : u.host.accepted = s.host.accepted := congrArg (·.2.2.2.2.2.1) hlost
  have hflash : u.flash = s.flash := congrArg (·.2.2.2.2.2.2) hlost
  have htxq (p : PortId) : (u.port p).txq = (s.port p).txq := lossesOwed_txq s p
  have hrestart : s.freshRestart = u.portsFresh.requestsEnded := freshRestart_eq s
  clear_value u
  have hstill : u.portsFresh.still = u.still :=
    forEach_keeps (π := State.still) (fun p _ t => still_blind.freshPort p u.host.accepted t) u
  rw [hrestart]
  refine ⟨(congrArg (·.1) hstill).trans hdev, (congrArg (·.2.1) hstill).trans hsvc, (congrArg (·.2.2.1) hstill).trans hpw,
    (congrArg (·.2.2.2.1) hstill).trans htr, (congrArg (·.2.2.2.2.2.2) hstill).trans hflash, ⟨rfl, rfl, rfl⟩, attFresh_unclaimed _,
    fun p hp => ?_⟩
  have hpu : p ∈ u.presentPorts := mem_presentPorts ((present_of_presentMask hmask p).trans hp)
  obtain ⟨hfresh, hplaced, hqueue⟩ := port_freshPorts hpu u.host.accepted u
  refine ⟨hfresh, fun ha => hplaced (by rw [hdev]; exact ha), fun ha => ⟨(hqueue (by rw [hdev]; exact ha)).trans (htxq p), ?_⟩⟩
  change (p, s.host.accepted) ∈ u.portsFresh.host.sleepFresh
  have howed : u.portsFresh.host.sleepFresh = _ := sleepFresh_freshPorts (by rw [hdev]; exact ha) u.host.accepted u.presentPorts
  rw [howed, ← haccepted]
  exact List.mem_append_right _ (List.mem_map_of_mem hpu)

end Sys2Proof.Machine
end

section
/-! SUPPORT. The last steps of a LINK_UP: its events, the rewind, the state that is reached and the blocks that waited (08 R245,
R246; 12 R341). -/

namespace Sys2Proof.Machine

/-- The events of a LINK_UP: the link had been lost, and the device had been in Deep. -/
def State.linkEvents (lost deep : Bool) (s : State) : State :=
  let s := if lost then s.trkEvent 8 else s
  if deep then s.powerEvent 6 else s

/-- The last steps of a LINK_UP. -/
def State.linkDone (lost deep : Bool) (s : State) : State := (s.linkEvents lost deep).rewind.settle.pump

/-- What a state that is reached leaves, of what neither a wait for it nor Sleep's beginning changes. -/
theorem settle_keeps {α : Type} {π : State → α} {s : State} (hsleep : π s.enterSleep = π s)
    (hdone : π { s with dev := { s.dev with changing := false, byState := false } } = π s)
    (hevent : ∀ t, π (State.powerEvent 5 t) = π t) : π s.settle = π s := by
  unfold State.settle
  dsimp only
  split
  · rfl
  split
  · exact hsleep
  split
  · rfl
  split
  · exact (hevent _).trans hdone
  · exact hdone

theorem enterSleep_keeps {α : Type} {π : State → α} {s : State}
    (hdev : π { s with dev := { s.dev with st := .sleep, changing := false, byState := false, toSleep := false }
                       tr := { s.tr with laneLocked := 0 } } = π s)
    (hsave : ∀ t, π (State.saveAtt t) = π t) (hevent : ∀ t, π (State.powerEvent 5 t) = π t) : π s.enterSleep = π s :=
  (hevent _).trans ((hsave _).trans hdev)

/-! ### What lasts through them -/

/-- Everything that the last steps of a LINK_UP leave alone. -/
def State.lasting (s : State) : State :=
  { s.served with dev := {}, pw := { s.pw with events := 0 }, tr := { s.served.tr with laneLocked := 0 } }

theorem lasting_of_served {s t : State} (h : t.served = s.served) : t.lasting = s.lasting := by
  have hlast (u : State) : u.lasting = { u.served with dev := {}, pw := { u.served.pw with events := 0 }, tr := { u.served.tr with laneLocked := 0 } } :=
    rfl
  rw [hlast, hlast, h]

theorem powerEvent_lasting (b : Fin 7) (s : State) : (s.powerEvent b).lasting = s.lasting := by
  obtain ⟨a, c, e, h⟩ := powerEvent_form b s
  rw [h]
  rfl

theorem settle_lasting (s : State) : s.settle.lasting = s.lasting := by
  refine settle_keeps (π := State.lasting) (enterSleep_keeps (π := State.lasting) rfl (fun t => ?_) (powerEvent_lasting 5)) rfl
    (powerEvent_lasting 5)
  exact lasting_of_served (served_of_unbuilt (saveAtt_unbuilt t))

section
variable (lost deep : Bool) (s : State)

theorem linkEvents_lasting : (s.linkEvents lost deep).lasting = s.lasting := by
  have hlost : (if lost then s.trkEvent 8 else s).lasting = s.lasting :=
    keeps_if (π := State.lasting) (lasting_of_served (served_of_unbuilt (trkEvent_unbuilt ..))) rfl
  exact keeps_if (π := State.lasting) ((powerEvent_lasting ..).trans hlost) hlost

theorem linkDone_lasting : (s.linkDone lost deep).lasting = s.lasting :=
  (lasting_of_served (pump_served _)).trans ((settle_lasting _).trans
    ((lasting_of_served (served_of_unbuilt (rewind_unbuilt _))).trans (linkEvents_lasting ..)))

end

theorem port_of_lasting {s t : State} (h : t.lasting = s.lasting) (p : PortId) : (t.port p).unlost = (s.port p).unlost := by
  have hport := congrArg (fun u : State => u.ports[p]) h
  simpa [State.lasting, State.served, State.unbuilt, State.port] using hport

/-! ### The claims -/

/-- Which sources are claimed. -/
def State.claimed (s : State) : Vector Bool 160 := s.claims.2

theorem claimed_trunk : TrunkBlind State.claimed where
  modTr _ _ := rfl
  trkLoss _ _ _ := rfl
  attEvent i s := congrArg Prod.snd (attEvent_claims i s)
  count code s := congrArg Prod.snd (count_claims code s)

theorem powerEvent_claimed (b : Fin 7) (s : State) : (s.powerEvent b).claimed = s.claimed :=
  congrArg Prod.snd (powerEvent_claims b s)

theorem settle_claimed (s : State) : s.settle.claimed = s.claimed := by
  refine settle_keeps (π := State.claimed) (enterSleep_keeps (π := State.claimed) rfl (fun t => ?_) (powerEvent_claimed 5)) rfl
    (powerEvent_claimed 5)
  unfold State.saveAtt
  split <;> rfl

theorem pump_claimed (s : State) : s.pump.claimed = s.claimed := by
  have hdue (t : State) : t.dueChange.claimed = t.claimed := keeps_if (π := State.claimed) rfl rfl
  exact (hdue _).trans (claimed_trunk.pumpN ..)

theorem linkDone_claimed (lost deep : Bool) (s : State) : (s.linkDone lost deep).claimed = s.claimed := by
  have hlost : (if lost then s.trkEvent 8 else s).claimed = s.claimed := keeps_if (π := State.claimed) (claimed_trunk.trkEvent ..) rfl
  have hevents : (s.linkEvents lost deep).claimed = s.claimed :=
    keeps_if (π := State.claimed) ((powerEvent_claimed ..).trans hlost) hlost
  exact (pump_claimed _).trans ((settle_claimed _).trans ((claimed_trunk.rewind _).trans hevents))

theorem unclaimed_of_claimed {s t : State} (h : t.claimed = s.claimed) (hs : s.att.Unclaimed) : t.att.Unclaimed := by
  intro i
  have hi := congrArg (fun v : Vector Bool 160 => v[i]) h
  simp only [State.claimed, State.claims, Att.claims, Fin.getElem_fin, Vector.getElem_map] at hi
  exact hi.trans (hs i)

/-! ### A replay buffer with nothing in it -/

/-- The blocks of the trunk: stored, waiting and control. -/
def Trunk.blocks (t : Trunk) : List Stored × BitVec 12 × Option BlkBody × List BlkBody := (t.stored, t.txNext, t.waitBlk, t.ctlQ)

/-- The blocks of the trunk. -/
def State.blocks (s : State) : List Stored × BitVec 12 × Option BlkBody × List BlkBody := s.tr.blocks

theorem powerEvent_tr (b : Fin 7) (s : State) : (s.powerEvent b).tr = s.tr := by
  obtain ⟨a, c, e, h⟩ := powerEvent_form b s
  rw [h]

theorem saveAtt_tr (s : State) : s.saveAtt.tr = s.tr := keeps_if (π := State.tr) rfl rfl

theorem settle_blocks (s : State) : s.settle.blocks = s.blocks := by
  have hevent (t : State) : (t.powerEvent 5).blocks = t.blocks := congrArg Trunk.blocks (powerEvent_tr 5 t)
  exact settle_keeps (π := State.blocks) (enterSleep_keeps (π := State.blocks) rfl (fun t => congrArg Trunk.blocks (saveAtt_tr t)) hevent)
    rfl hevent

section
variable {s : State} (h : s.blocks = ([], 0, none, []))
include h

theorem pump_blocks : s.pump.blocks = ([], 0, none, []) := by
  have hwait : s.tr.waitBlk = none := congrArg (·.2.2.1) h
  have hctl : s.tr.ctlQ = [] := congrArg (·.2.2.2) h
  have hnone (n : Nat) : s.pumpN n = s := by
    cases n with
    | zero => rfl
    | succ n =>
      unfold State.pumpN
      rw [hwait, hctl]
      exact ite_self s
  have hdue (t : State) : t.dueChange.blocks = t.blocks := keeps_if (π := State.blocks) rfl rfl
  unfold State.pump
  rw [hdue, hnone, h]

theorem rewind_blocks : s.rewind.blocks = ([], 0, none, []) := by
  have hstored : s.tr.stored = [] := congrArg (·.1) h
  have htx : s.tr.txNext = 0 := congrArg (·.2.1) h
  have hwait : s.tr.waitBlk = none := congrArg (·.2.2.1) h
  have hctl : s.tr.ctlQ = [] := congrArg (·.2.2.2) h
  unfold State.blocks Trunk.blocks
  rw [rewind_tr, hstored, htx, hwait, hctl]
  rfl

theorem linkDone_blocks (lost deep : Bool) : (s.linkDone lost deep).blocks = ([], 0, none, []) := by
  have hevent (b : Fin 7) (t : State) : (t.powerEvent b).blocks = t.blocks := congrArg Trunk.blocks (powerEvent_tr b t)
  have htrk : (s.trkEvent 8).blocks = s.blocks := (congrArg Trunk.blocks (trkEvent_tr 8 s) :)
  have hlost : (if lost then s.trkEvent 8 else s).blocks = s.blocks := keeps_if (π := State.blocks) htrk rfl
  have hevents : (s.linkEvents lost deep).blocks = s.blocks := keeps_if (π := State.blocks) ((hevent ..).trans hlost) hlost
  exact pump_blocks ((settle_blocks _).trans (rewind_blocks (hevents.trans h)))

end

/-! ### With no change to come -/

/-- The link, and whether a change of state waits for its retrain. -/
def State.linkDue (s : State) : LinkSt × Bool := (s.tr.link, s.dev.changeDue)

section
variable {s : State} (lost deep : Bool)

theorem linkEvents_dev : (s.linkEvents lost deep).dev = s.dev := by
  have hlost : (if lost then s.trkEvent 8 else s).dev = s.dev := keeps_if (π := State.dev) (dev_trunk.trkEvent ..) rfl
  exact keeps_if (π := State.dev) ((powerEvent_dev ..).trans hlost) hlost

theorem linkDone_link (hdue : s.dev.changeDue = false) : (s.linkDone lost deep).tr.link = s.tr.link := by
  have hevent (b : Fin 7) (t : State) : State.linkDue (t.powerEvent b) = t.linkDue :=
    Prod.ext (congrArg Trunk.link (powerEvent_tr b t)) (congrArg Dev.changeDue (powerEvent_dev b t))
  have hunbuilt {t u : State} (h : t.unbuilt = u.unbuilt) : t.linkDue = u.linkDue := (congrArg State.linkDue h : t.unbuilt.linkDue = u.unbuilt.linkDue)
  have hlost : State.linkDue (if lost then s.trkEvent 8 else s) = s.linkDue := keeps_if (π := State.linkDue) (hunbuilt (trkEvent_unbuilt ..)) rfl
  have hevents : State.linkDue (s.linkEvents lost deep) = s.linkDue := keeps_if (π := State.linkDue) ((hevent ..).trans hlost) hlost
  have hsettle (t : State) : t.settle.linkDue = t.linkDue :=
    settle_keeps (π := State.linkDue) (enterSleep_keeps (π := State.linkDue) rfl (fun t => hunbuilt (saveAtt_unbuilt t)) (hevent 5)) rfl (hevent 5)
  have hbefore : State.linkDue (s.linkEvents lost deep).rewind.settle = s.linkDue :=
    (hsettle _).trans ((hunbuilt (rewind_unbuilt _)).trans hevents)
  have hpump := hunbuilt (pump_unbuilt ((congrArg Prod.snd hbefore).trans hdue))
  exact congrArg Prod.fst (hpump.trans hbefore)

/-- The commanded state is in force. -/
theorem linkDone_awake (hdue : s.dev.changeDue = false) (hsleep : s.dev.toSleep = false) (hexit : s.dev.exiting = false) :
    (s.linkDone lost deep).dev = { s.dev with changing := false, byState := false } ∧
      (deep = true → (s.linkDone lost deep).pw.events.getLsbD 6 = true) := by
  have hrewind : (s.linkEvents lost deep).rewind.unbuilt = (s.linkEvents lost deep).unbuilt := rewind_unbuilt _
  have hdev : (s.linkEvents lost deep).rewind.dev = s.dev := (dev_trunk.rewind _).trans (linkEvents_dev lost deep)
  have hpw : (s.linkEvents lost deep).rewind.pw = (s.linkEvents lost deep).pw := (congrArg State.pw hrewind :)
  have hwoke : deep = true → (s.linkEvents lost deep).pw.events.getLsbD 6 = true := by
    rintro rfl
    obtain ⟨a, c, e, h⟩ := powerEvent_form 6 (if lost then s.trkEvent 8 else s)
    change ((if lost then s.trkEvent 8 else s).powerEvent 6).pw.events.getLsbD 6 = true
    rw [h]
    exact getLsbD_or_oneBit (i := 6) (by decide) _
  unfold State.linkDone
  generalize (s.linkEvents lost deep).rewind = w at hdev hpw ⊢
  have hsettle : w.settle.dev = { s.dev with changing := false, byState := false } ∧
      (w.pw.events.getLsbD 6 = true → w.settle.pw.events.getLsbD 6 = true) := by
    unfold State.settle
    rw [if_neg (by rw [hdev, hdue]; decide), if_neg (by rw [hdev, hsleep]; decide), if_neg (by rw [hdev, hexit]; decide)]
    dsimp only
    split
    · obtain ⟨a, c, e, h⟩ := powerEvent_form 5 { w with dev := { w.dev with changing := false, byState := false } }
      rw [h]
      refine ⟨by rw [← hdev], fun hw => ?_⟩
      change (w.pw.events ||| oneBit 7 5).getLsbD 6 = true
      rw [BitVec.getLsbD_or, hw]
      rfl
    · exact ⟨by rw [← hdev], fun hw => hw⟩
  have hpump := pump_unbuilt (s := w.settle) (by rw [hsettle.1]; exact hdue)
  refine ⟨(congrArg State.dev hpump).trans hsettle.1, fun hd => ?_⟩
  have hevents : w.settle.pump.pw.events = w.settle.pw.events := (congrArg (fun v : State => v.pw.events) hpump :)
  rw [hevents]
  exact hsettle.2 (by rw [hpw]; exact hwoke hd)

end

end Sys2Proof.Machine
end

section
/-! SUPPORT. A LINK_UP after release (08 R221 to R223; 12 R346), and the obligation on the end of Deep and FRESH trainings. -/

namespace Sys2Proof.Machine

/-! ### The lanes trained -/

/-- The trunk as its lanes have trained (R221 to R223). -/
def Trunk.linkedUp (tn : Trained) (half : Bool) (t : Trunk) : Trunk :=
  { t with
    link := .up, half := half, holdover := false, order := laneOrder tn, alive := tn.pairUp, trained := tn.pairUp,
    pairInv := tn.pairInv, restoring := false, markMissed := 0, laneLocked := 0, freshDue := false, lostAll := false }

/-- A full training's effect: the trunk's, and the events it raises. -/
theorem trainLanes_state (tn : Trained) (half : Bool) (s : State) : ∃ ls ev a c e,
    s.trainLanes tn half = { s with
      tr := { s.tr.linkedUp tn half with lanes := ls, delay := tn.delay, delayValid := true, trkEvents := ev }
      att := a, cnt := c, boot := { s.boot with early := e } } := by
  have hform (u : State) : ∃ ev a c e, (if u.tr.delayValid && decide (16 < (u.tr.delay.toNat - tn.delay.toNat) + (tn.delay.toNat - u.tr.delay.toNat))
      then (u.modTr (fun r => { r with delay := tn.delay, delayValid := true })).trkEvent 9
      else u.modTr (fun r => { r with delay := tn.delay, delayValid := true })) =
      { u with tr := { u.tr with delay := tn.delay, delayValid := true, trkEvents := ev }, att := a, cnt := c,
               boot := { u.boot with early := e } } := by
    split
    · obtain ⟨a, c, e, h⟩ := trkEvent_form 9 (u.modTr (fun r => { r with delay := tn.delay, delayValid := true }))
      exact ⟨_, a, c, e, h⟩
    · exact ⟨u.tr.trkEvents, u.att, u.cnt, u.boot.early, rfl⟩
  obtain ⟨ev, a, c, e, h⟩ := hform ((s.modTr (Trunk.linkedUp tn half)).adaptLanes tn)
  exact ⟨_, ev, a, c, e, h⟩

/-- The device as Deep has ended (R346). -/
def State.deepLeft (s : State) : State :=
  { s with dev := { s.dev with st := .awake, exiting := false, cmdWidth := BitVec.ofNat 3 (popcount s.tr.trained) }, svc := s.svc.run }

/-- A LINK_UP after release before its events: the lanes trained, the width set, and Deep's end where it ends. -/
def State.linkTrained (tn : Trained) (half deep : Bool) (s : State) : State :=
  let u := s.trainLanes tn half
  (if deep then u.clearErrs.deepLeft else u).setWidth

/-- The rate of a LINK_UP after release (R223). -/
def State.linkHalf (s : State) (halfAttempt deep : Bool) (flags : Byte) : Bool :=
  s.halfForced || halfAttempt || !flags.getLsbD 0 || flags.getLsbD 2 || (deep && s.tr.half)

/-- The trained link, with the numbers restarted where either side asks for it. -/
def State.linkFresh (fresh : Bool) (s : State) : State := if fresh then s.freshRestart else s

theorem popcount_le (x : BitVec 4) : popcount x ≤ 4 := by
  revert x
  decide

/-- What a LINK_UP after release leaves before its events. -/
structure LinkTrained (s : State) (tn : Trained) (half deep : Bool) (u : State) : Prop where
  ports : u.ports = s.ports
  host : u.host = s.host
  flash : u.flash = s.flash
  boot : u.boot.stage = s.boot.stage ∧ u.boot.fuseShadow = s.boot.fuseShadow
  link : u.tr.link = .up ∧ u.tr.alive = tn.pairUp ∧ u.tr.delay = tn.delay ∧ u.tr.half = half
  blocks : u.tr.rxExpect = s.tr.rxExpect ∧ u.tr.waiting = s.tr.waiting
  due : u.dev.changeDue = s.dev.changeDue ∧ u.dev.toSleep = s.dev.toSleep
  awake : deep = false → u.dev = s.dev
  left : deep = true → u.dev.st = .awake ∧ u.dev.exiting = false ∧ u.dev.cmdWidth = BitVec.ofNat 3 (popcount tn.pairUp) ∧
    u.svc.running = true ∧ (∀ k : Fin 4, bits u.tr.lanes[k] 0 8 = 0) ∧
    (s.dev.toSleep = false → s.dev.changeDue = false → u.tr.width = BitVec.ofNat 3 (popcount tn.pairUp))

theorem linkTrained_trained (tn : Trained) (half deep : Bool) (s : State) : LinkTrained s tn half deep (s.linkTrained tn half deep) := by
  obtain ⟨ls, ev, a, c, e, h⟩ := trainLanes_state tn half s
  unfold State.linkTrained
  rw [h]
  cases deep with
  | false => exact ⟨rfl, rfl, rfl, ⟨rfl, rfl⟩, ⟨rfl, rfl, rfl, rfl⟩, ⟨rfl, rfl⟩, ⟨rfl, rfl⟩, fun _ => rfl, nofun⟩
  | true =>
    refine ⟨rfl, rfl, rfl, ⟨rfl, rfl⟩, ⟨rfl, rfl, rfl, rfl⟩, ⟨rfl, rfl⟩, ⟨rfl, rfl⟩, nofun, fun _ => ⟨rfl, rfl, rfl, rfl, fun k => ?_, ?_⟩⟩
    · have hlane : (ls.map (fun w => w &&& 0xFFFFFF00#32))[k] = ls[k] &&& 0xFFFFFF00#32 := by simp
      exact (congrArg (fun w => bits w 0 8) hlane).trans (bits_cleared _)
    · intro hsleep hdue
      have hwidth (v : State) (hst : v.dev.st = .awake) (hs : v.dev.toSleep = false) (hd : v.dev.changeDue = false)
          (hc : v.dev.cmdWidth = BitVec.ofNat 3 (popcount v.tr.alive)) :
          v.setWidth.tr.width = BitVec.ofNat 3 (popcount v.tr.alive) := by
        have hle := popcount_le v.tr.alive
        change v.widthNow (v.dev.st == .sleep || (v.dev.toSleep && !v.dev.changeDue)) = _
        unfold State.widthNow
        rw [hst, hs, hd, hc]
        dsimp only
        rw [if_neg (by decide), if_neg (by simp), BitVec.toNat_ofNat, Nat.mod_eq_of_lt (by omega), Nat.min_self]
      exact hwidth _ rfl hsleep hdue rfl

/-! ### The command -/

section
variable {s : State} {tn : Trained} {halfAttempt : Bool} {flags ms : Byte}

theorem exec_linkUp_later (hon : s.pw.inputOn = true) (hstage : s.boot.stage = .released) (hlink : s.tr.link = .training)
    (hup : tn.pairUp ≠ 0) : exec (.linkUp tn halfAttempt flags ms) s =
      .next (((s.linkTrained tn (s.linkHalf halfAttempt (s.dev.st == .deep) flags) (s.dev.st == .deep)).linkFresh
        (flags.getLsbD 1 || s.tr.freshDue)).linkDone s.tr.lostAll (s.dev.st == .deep)) := by
  have hgo : (s.pw.inputOn && s.tr.link == .training && tn.pairUp != 0) = true := by
    rw [hon, hlink, bne_iff_ne.mpr hup]
    rfl
  have hstart : (s.boot.stage == .training) = false := by rw [hstage]; rfl
  have hhalt : (s.boot.stage == .halted) = false := by rw [hstage]; rfl
  have hrestart (u : State) (hu : u.boot.stage = s.boot.stage) : u.restartFresh = u.freshRestart := by
    refine if_pos ?_
    rw [State.released, hu, hstage]
    rfl
  have hfresh (half deep fresh : Bool) : (if fresh then (s.linkTrained tn half deep).restartFresh else s.linkTrained tn half deep) =
      (s.linkTrained tn half deep).linkFresh fresh := by
    unfold State.linkFresh
    rw [hrestart _ (linkTrained_trained tn half deep s).boot.1]
  refine congrArg Host.Outcome.next ((if_pos hgo).trans ?_)
  rw [← hfresh]
  cases s.dev.st == .deep
  · simp only [hstart, hhalt, Bool.not_false, Bool.true_and, Bool.or_false, Bool.false_eq_true, if_false]
    rfl
  · simp only [hstart, hhalt, Bool.not_false, Bool.true_and, Bool.or_false, Bool.false_or, Bool.false_eq_true, if_true, if_false]
    rfl

end

/-! ### What it leaves -/

/-- What the wires of the trunk show: the link, the pairs, the delay, the rate, the width and the lanes. -/
def Trunk.wires (t : Trunk) : LinkSt × BitVec 4 × BitVec 16 × Bool × BitVec 3 × Vector Word 4 :=
  (t.link, t.alive, t.delay, t.half, t.width, t.lanes)

theorem linkFresh_keeps (fresh : Bool) (u : State) : (u.linkFresh fresh).dev = u.dev ∧ (u.linkFresh fresh).svc = u.svc ∧
    (u.linkFresh fresh).flash = u.flash ∧ (u.linkFresh fresh).tr.wires = u.tr.wires := by
  cases fresh with
  | false => exact ⟨rfl, rfl, rfl, rfl⟩
  | true =>
    have h := freshRestart_restarts u
    refine ⟨h.dev, h.svc, h.flash, ?_⟩
    change u.freshRestart.tr.wires = _
    rw [h.tr]
    rfl

theorem present_linkTrained {s u : State} {tn : Trained} {half deep : Bool} (h : LinkTrained s tn half deep u) (p : PortId) :
    u.present p = s.present p := by
  unfold State.present State.presentMask
  rw [h.boot.2]

section
variable {s : State} {tn : Trained} {half : Bool} (lost : Bool)

/-- A LINK_UP ends Deep (R346). -/
theorem linkUp_endsDeep (fresh : Bool) {u : State} (h : LinkTrained s tn half true u) (hsleep : s.dev.toSleep = false)
    (hdue : s.dev.changeDue = false) :
    let t := (u.linkFresh fresh).linkDone lost true
    t.dev.st = .awake ∧ t.dev.exiting = false ∧ t.dev.cmdWidth = BitVec.ofNat 3 (popcount tn.pairUp) ∧
      t.tr.width = BitVec.ofNat 3 (popcount tn.pairUp) ∧ t.tr.half = half ∧ (∀ k : Fin 4, bits t.tr.lanes[k] 0 8 = 0) ∧
      t.svc.running = true ∧ t.pw.events.getLsbD 6 = true := by
  intro t
  obtain ⟨hst, hexit, hcmd, hrun, hlanes, hwidth⟩ := h.left rfl
  obtain ⟨hdev, hsvc, -, hwires⟩ := linkFresh_keeps fresh u
  have hlast : t.lasting = (u.linkFresh fresh).lasting := linkDone_lasting ..
  obtain ⟨htdev, hwoke⟩ := linkDone_awake (s := u.linkFresh fresh) lost true (by rw [hdev, h.due.1]; exact hdue)
    (by rw [hdev, h.due.2]; exact hsleep) (by rw [hdev]; exact hexit)
  have htd : t.dev = { (u.linkFresh fresh).dev with changing := false, byState := false } := htdev
  have hevent : t.pw.events.getLsbD 6 = true := hwoke rfl
  clear_value t
  clear htdev hwoke
  generalize u.linkFresh fresh = v at hdev hsvc hwires hlast htd
  rw [hdev] at htd
  have hsvct : t.svc = u.svc := (congrArg State.svc hlast :).trans hsvc
  have hwidtht : t.tr.width = u.tr.width :=
    (congrArg (fun z : State => z.tr.width) hlast :).trans (congrArg (·.2.2.2.2.1) hwires)
  have hhalft : t.tr.half = u.tr.half := (congrArg (fun z : State => z.tr.half) hlast :).trans (congrArg (·.2.2.2.1) hwires)
  have hlanest : t.tr.lanes = u.tr.lanes :=
    (congrArg (fun z : State => z.tr.lanes) hlast :).trans (congrArg (·.2.2.2.2.2) hwires)
  refine ⟨?_, ?_, ?_, hwidtht.trans (hwidth hsleep hdue), hhalft.trans h.link.2.2.2, fun k => ?_, ?_, hevent⟩
  · rw [htd]
    exact hst
  · rw [htd]
    exact hexit
  · rw [htd]
    exact hcmd
  · rw [hlanest]
    exact hlanes k
  · rw [hsvct]
    exact hrun

variable {deep : Bool} {u : State} (h : LinkTrained s tn half deep u)
include h

/-- FRESH restarts the numbers, the requests, the claims and the ports' counts. -/
theorem linkUp_fresh (hdeep : deep = (s.dev.st == .deep)) :
    let t := (u.linkFresh true).linkDone lost deep
    t.tr.stored = [] ∧ t.tr.txNext = 0 ∧ t.tr.rxExpect = 0 ∧ t.tr.waitBlk = none ∧ t.tr.ctlQ = [] ∧ t.host.commits = [] ∧
      t.host.qwrites = [] ∧ t.host.stalls = [] ∧ t.att.Unclaimed ∧ t.tr.heldBlks = s.tr.waiting ∧
      ∀ p, s.present p = true → (t.port p).Fresh ∧ (s.dev.st = .awake → (t.port p).placed = 0) ∧
        (s.dev.st = .sleep → (t.port p).txq = (s.port p).txq ∧ (p, s.host.accepted) ∈ t.host.sleepFresh) := by
  intro t
  have hf := freshRestart_restarts u
  have hlast : t.lasting = u.freshRestart.lasting := linkDone_lasting ..
  have hblocks : t.blocks = ([], 0, none, []) := linkDone_blocks (s := u.freshRestart) (congrArg Trunk.blocks hf.tr) lost deep
  have hclaimed : t.claimed = u.freshRestart.claimed := linkDone_claimed ..
  clear_value t
  generalize u.freshRestart = w at hf hlast hclaimed
  have hhost : t.host = w.host := (congrArg State.host hlast :)
  have hexpect : t.tr.rxExpect = w.tr.rxExpect := (congrArg (fun z : State => z.tr.rxExpect) hlast :)
  have hheld : t.tr.heldBlks = w.tr.heldBlks := (congrArg (fun z : State => z.tr.heldBlks) hlast :)
  obtain ⟨hcommits, hqwrites, hstalls⟩ := hf.requests
  have hdev (ha : s.dev.st ≠ .deep) : u.dev = s.dev := h.awake (by rw [hdeep]; exact beq_eq_false_iff_ne.mpr ha)
  refine ⟨congrArg (·.1) hblocks, congrArg (·.2.1) hblocks, ?_, congrArg (·.2.2.1) hblocks, congrArg (·.2.2.2) hblocks, ?_, ?_, ?_,
    unclaimed_of_claimed hclaimed hf.claims, ?_, fun p hp => ?_⟩
  · rw [hexpect, hf.tr]
    rfl
  · rw [hhost, hcommits]
  · rw [hhost, hqwrites]
  · rw [hhost, hstalls]
  · rw [hheld, hf.tr]
    exact h.blocks.2
  · obtain ⟨hfresh, hplaced, hasleep⟩ := hf.ports p ((present_linkTrained h p).trans hp)
    have hport : (t.port p).unlost = (w.port p).unlost := port_of_lasting hlast p
    generalize t.port p = x at hport ⊢
    have hx : x.Fresh := by
      obtain ⟨hc, hl, hr, hg, hu⟩ := hfresh
      exact ⟨(congrArg Port.carried hport :).trans hc, (congrArg Port.limitGiven hport :).trans hl,
        (congrArg Port.rxCarried hport :).trans hr, (congrArg Port.rxLimitGiven hport :).trans hg,
        (congrArg Port.portLossUnknown hport :).trans hu⟩
    refine ⟨hx, fun ha => ?_, fun ha => ?_⟩
    · exact (congrArg Port.placed hport :).trans (hplaced (by rw [hdev (by rw [ha]; decide)]; exact ha))
    · obtain ⟨htxq, howed⟩ := hasleep (by rw [hdev (by rw [ha]; decide)]; exact ha)
      rw [hhost]
      refine ⟨(congrArg Port.txq hport :).trans (htxq.trans ?_), ?_⟩
      · exact congrArg (fun v : Vector Port 16 => v[p].txq) h.ports
      · rw [← h.host]
        exact howed

/-- Without FRESH nothing of it happens. -/
theorem linkUp_stale :
    let t := (u.linkFresh false).linkDone lost deep
    t.tr.rxExpect = s.tr.rxExpect ∧ t.host.commits = s.host.commits ∧ t.host.qwrites = s.host.qwrites ∧
      ∀ p, (t.port p).carried = (s.port p).carried ∧ (t.port p).txq = (s.port p).txq := by
  intro t
  have hlast : t.lasting = u.lasting := linkDone_lasting ..
  clear_value t
  have hhost : t.host = s.host := (congrArg State.host hlast :).trans h.host
  refine ⟨(congrArg (fun z : State => z.tr.rxExpect) hlast :).trans h.blocks.1, congrArg HostSt.commits hhost,
    congrArg HostSt.qwrites hhost, fun p => ?_⟩
  have hport : (t.port p).unlost = (u.port p).unlost := port_of_lasting hlast p
  have hsame : u.port p = s.port p := congrArg (fun v : Vector Port 16 => v[p]) h.ports
  rw [hsame] at hport
  exact ⟨(congrArg Port.carried hport :), (congrArg Port.txq hport :)⟩

end

end Sys2Proof.Machine
end

section
/-! SUPPORT. The obligation on the end of Deep and FRESH trainings. -/

namespace Sys2Proof.Machine

/-- The wake tone's state as its clause names it. -/
theorem wakeTone_leaves {s : State} {fuses : List (Fin 32 × Word)} {image : List ShadowUpset} {bad : RetentionFault}
    (hstage : s.boot.stage = .released) (hon : s.pw.inputOn = true) (hst : s.dev.st = .deep) (hexit : s.dev.exiting = false) :
    ∃ t, exec (.wakeTone fuses image bad) s = .next t ∧ t.dev.exiting = true ∧ t.dev.st = .deep ∧
      t.boot.fuseShadow = s.upsetFuses fuses ∧ t.boot.rerunKiln = (s.toned fuses image bad).boot.rerunKiln ∧
      t.boot.rerunSlip = (s.toned fuses image bad).boot.rerunSlip ∧ t.pw.events = 0 ∧
      (t.boot.rerunKiln = false → t.boot.rerunSlip = false → t.att.saved = false ∧ ∀ o, t.present o = true →
        (t.port o).st = (s.port o).st ∧ (t.port o).rxq.items = 0 ∧ (t.port o).txq.items = 0) ∧
      (t.boot.rerunKiln = true ∨ t.boot.rerunSlip = true → t.att = s.att ∧ t.ports = s.ports) ∧
      t.boot.fuseArray = s.boot.fuseArray ∧ t.flash = s.flash := by
  have hrun := exec_wakeTone (fuses := fuses) (image := image) (bad := bad) hstage hon hst hexit
  have hports (o : PortId) : (s.toned fuses image bad).port o = s.port o := rfl
  have hfields : (s.toned fuses image bad).dev.exiting = true ∧ (s.toned fuses image bad).dev.st = s.dev.st ∧
      (s.toned fuses image bad).boot.fuseShadow = s.upsetFuses fuses ∧ (s.toned fuses image bad).pw.events = 0 ∧
      (s.toned fuses image bad).boot.fuseArray = s.boot.fuseArray ∧ (s.toned fuses image bad).flash = s.flash ∧
      (s.toned fuses image bad).att = s.att ∧ (s.toned fuses image bad).ports = s.ports :=
    ⟨rfl, rfl, rfl, rfl, rfl, rfl, rfl, rfl⟩
  generalize s.toned fuses image bad = u at hrun hports hfields ⊢
  obtain ⟨hexiting, hdeep, hfuse, hevents, harray, hflash, hatt, hvec⟩ := hfields
  rw [hst] at hdeep
  by_cases hagain : (u.boot.rerunKiln || u.boot.rerunSlip) = true
  · rw [if_pos hagain] at hrun
    refine ⟨u, hrun, hexiting, hdeep, hfuse, rfl, rfl, hevents, fun hk hs => ?_, fun _ => ⟨hatt, hvec⟩, harray, hflash⟩
    rw [hk, hs] at hagain
    cases hagain
  · rw [if_neg hagain] at hrun
    have hup := bringUp_broughtUp u
    obtain ⟨hf, hk, hs, -, ha⟩ := boot_of_broughtUp hup
    obtain ⟨hdev, hpw, hfl⟩ := hup.kept
    refine ⟨u.bringUp, hrun, by rw [hdev]; exact hexiting, by rw [hdev]; exact hdeep, hf.trans hfuse, hk, hs,
      by rw [hpw]; exact hevents, fun _ _ => ⟨hup.saved, fun o ho => ?_⟩, fun hor => ?_, ha.trans harray, hfl.trans hflash⟩
    · obtain ⟨hport, hrx, htx, -⟩ := port_of_broughtUp hup ho
      exact ⟨hport.trans (congrArg Port.st (hports o)), hrx, htx⟩
    · rw [hk, hs] at hor
      exact absurd ((Bool.or_eq_true ..).mpr hor) hagain

/-- The pairs, the delay and the flash as they were before the last steps of a LINK_UP. -/
theorem linkDone_keeps (lost deep : Bool) (s : State) : (s.linkDone lost deep).tr.alive = s.tr.alive ∧
    (s.linkDone lost deep).tr.delay = s.tr.delay ∧ (s.linkDone lost deep).flash = s.flash := by
  have hlast := linkDone_lasting lost deep s
  generalize s.linkDone lost deep = t at hlast ⊢
  exact ⟨(congrArg (fun z : State => z.tr.alive) hlast :), (congrArg (fun z : State => z.tr.delay) hlast :),
    (congrArg State.flash hlast :)⟩

/-- Settles O60: the wake tone and the passes that follow bring the domains up (`bringUp_broughtUp`), and a LINK_UP ends Deep
(`linkUp_endsDeep`); a FRESH one restarts what `linkUp_fresh` says. -/
theorem deepAndFreshEnd : Obligations.DeepAndFreshEnd := by
  unfold Obligations.DeepAndFreshEnd
  refine ⟨?_, ?_, ?_, ?_⟩
  · intro s fuses image bad hstage hon hst hexit v ups flips
    obtain ⟨t, hrun, hexiting, hdeep, hfuse, hk, hs, hevents, hup, hagain, harray, hflash⟩ :=
      wakeTone_leaves (fuses := fuses) (image := image) (bad := bad) hstage hon hst hexit
    refine ⟨t, hrun, hexiting, hdeep, hfuse, ?_, ?_, hevents, hup, hagain, harray, hflash⟩
    · rw [hk]
      exact toned_rerunKiln
    · rw [hs]
      exact toned_rerunSlip
  · intro s hon hstage hst hexit up
    exact ⟨fun flips reads hk hs hgood => kilnAttempt_bringsUp hon hstage hst hexit flips reads hk hs hgood,
      fun hk hs => slip_bringsUp hon hstage hst hexit hk hs⟩
  · intro s hon hstage hlink hst ready
    have hrun := exec_trainingStart hon hstage hlink hst
    refine ⟨fun hr => ?_, fun hr => ?_⟩
    · rw [hrun, if_pos ((deepReady_iff hst).mpr hr)]
    · rw [hrun, if_neg fun hc => hr ((deepReady_iff hst).mp hc)]
  · intro s tn halfAttempt flags ms hon hstage hlink hup fresh
    have hrun := exec_linkUp_later (halfAttempt := halfAttempt) (flags := flags) (ms := ms) hon hstage hlink hup
    have h := linkTrained_trained tn (s.linkHalf halfAttempt (s.dev.st == .deep) flags) (s.dev.st == .deep) s
    generalize s.linkTrained tn (s.linkHalf halfAttempt (s.dev.st == .deep) flags) (s.dev.st == .deep) = u at hrun h
    have hfresh : fresh ↔ (flags.getLsbD 1 || s.tr.freshDue) = true := (Bool.or_eq_true ..).symm.to_iff
    clear_value fresh
    generalize (flags.getLsbD 1 || s.tr.freshDue) = f at hrun hfresh
    obtain ⟨hdev, -, hflash, hwires⟩ := linkFresh_keeps f u
    obtain ⟨htalive, htdelay, htflash⟩ := linkDone_keeps s.tr.lostAll (s.dev.st == .deep) (u.linkFresh f)
    obtain ⟨hulink, hualive, hudelay, -⟩ := h.link
    refine ⟨_, hrun, ?_, ?_, ?_, fun hdue => ?_, fun hst hsleep hdue => ?_, fun hf => ?_, fun hf => ?_⟩
    · exact htalive.trans ((congrArg (·.2.1) hwires).trans hualive)
    · exact htdelay.trans ((congrArg (·.2.2.1) hwires).trans hudelay)
    · exact htflash.trans (hflash.trans h.flash)
    · refine (linkDone_link s.tr.lostAll _ (by rw [hdev, h.due.1]; exact hdue)).trans ?_
      exact (congrArg (·.1) hwires).trans hulink
    · have hdeep : (s.dev.st == .deep) = true := by rw [hst]; rfl
      rw [hdeep] at h ⊢
      have hend := linkUp_endsDeep s.tr.lostAll f h hsleep hdue
      unfold State.linkHalf at hend
      rw [Bool.true_and] at hend
      exact hend
    · rw [hfresh.mp hf]
      obtain ⟨hstored, htx, hrx, hwait, hctl, hcommits, hqwrites, hstalls, hclaims, hheld, hports⟩ := linkUp_fresh s.tr.lostAll h rfl
      refine ⟨hstored, htx, hrx, hwait, hctl, hcommits, hqwrites, hstalls, hclaims, hheld.trans ?_, fun p hp => ?_⟩
      · unfold Trunk.waiting
        cases s.tr.waitBlk <;> rfl
      · obtain ⟨⟨hc, hl, hr, hg, hu⟩, hplaced, hasleep⟩ := hports p hp
        exact ⟨hc, hl, hr, hg, hu, hplaced, hasleep⟩
    · have hnot : f = false := eq_false_of_ne_true fun ht => hf (hfresh.mpr ht)
      rw [hnot]
      exact linkUp_stale s.tr.lostAll h

end Sys2Proof.Machine
end
